-- ==== Sys2Proof/Word.lean ====
section
/-! DEFINITION. The words of the deck bus and of memory: 32-bit words, bytes, 24-bit byte addresses (00_scope.md, 4). -/

namespace Sys2Proof

/-- A word of memory: 32 bits. -/
abbrev Word := BitVec 32

/-- A byte of a word. -/
abbrev Byte := BitVec 8

/-- A byte address on the deck bus and at the buffer memory: 24 bits. -/
abbrev BusAddr := BitVec 24

end Sys2Proof
end

