-- ==== Sys2Proof/Syntax.lean ====
section
/-! DEFINITION. The commands of the block: one constructor per row of spec/opcode_table.json, and the operands they carry. -/

namespace Sys2Proof

/-- Direction of tape motion, of an encoder count, of a marker qualification (R27, R79, R105). -/
inductive Direction where
  | forward
  | backward
  deriving DecidableEq, Repr

/-- A reel, and the column that stands between it and the capstan (R85, R98). -/
inductive Reel where
  | supply
  | takeup
  deriving DecidableEq, Repr

/-- The two tape markers (R105). -/
inductive Marker where
  | bot
  | eot
  deriving DecidableEq, Repr

/-- The five deck switches (R100). -/
inductive Switch where
  | supplyVacuum
  | takeupVacuum
  | door
  | ring
  | tapeInPath
  deriving DecidableEq, Repr

/-- One word of a write transaction with its byte enables; bit b enables bits 8b+7 down to 8b (R161). -/
structure BusWord where
  data : Word
  enables : BitVec 4
  deriving DecidableEq, Repr

/-- A deck-bus transaction: a read or a write of consecutive words from a first address (R161). -/
inductive BusTxn where
  | read (addr : BusAddr) (count : Nat)
  | write (addr : BusAddr) (words : List BusWord)
  deriving DecidableEq, Repr

/-- Memory's answer to a pass-through read: DONE with its words, or FAULT (R161, R162). -/
inductive PassAnswer where
  | done (words : List Word)
  | fault
  deriving DecidableEq, Repr

/-- Memory's answer to one of the device's own reads. An own read asks for 1 to 8 words (R169): the first
words of the vector are the words asked for, the others are not part of the answer. -/
inductive OwnAnswer where
  | done (words : Vector Word 8)
  | fault
  deriving DecidableEq, Repr

/-- The steps of the part (spec/opcode_table.json), one constructor a row. The table gives no operands; those
here are read from the rule each row names (INVENTORY.md, Instructions). -/
inductive Instr where
  /-- R56: the RESET input. -/
  | coldReset
  /-- R57: one expiry of the servo sample timer. `takeupFirst` settles which of two column faults of the same
  sample is taken first, which R98 leaves open (log 11). -/
  | servoSample (takeupFirst : Bool)
  /-- R79: one capstan encoder count. -/
  | encoderCount (dir : Direction)
  /-- R107: the leading edge of a reel index pulse. -/
  | indexPulse (reel : Reel)
  /-- R100: a switch's raw level becomes active (`true`) or inactive. -/
  | switchRawChange (sw : Switch) (level : Bool)
  /-- R100: a switch's stability timer expires. -/
  | stabilityTimerExpiry (sw : Switch)
  /-- R105: a marker sensor becomes active. -/
  | markerSensorActive (m : Marker)
  /-- R105: a marker sensor becomes inactive. -/
  | markerSensorInactive (m : Marker)
  /-- R106: the encoder count at which a marker's step count reaches Mq. -/
  | markerQualifies (m : Marker) (dir : Direction)
  /-- R84: the servo sample at which the tracking persistence count reaches 8. -/
  | trackingFault
  /-- R98: the servo sample at which a column's persistence count reaches K. -/
  | columnFault (column : Reel)
  /-- R131: the servo sample at which the settle count reaches 1000. -/
  | settleCountComplete
  /-- R134: the encoder count at which the seek travel count exceeds its limit. -/
  | seekLimitExceeded (dir : Direction)
  /-- R69: the servo sample at which the working segment's duration runs out. -/
  | segmentDurationExpiry
  /-- R71: the servo sample at which a chain's late count reaches 8. -/
  | lateCountLimit
  /-- R109: the check timer of a record expires. -/
  | checkTimerExpiry (index : Fin 16)
  /-- R168: the hold timer expires. -/
  | holdTimerExpiry
  /-- R130: the phase timer expires in VACUUM. -/
  | vacuumTimeout
  /-- R131: the phase timer expires in LOOPS. -/
  | loopTimeout
  /-- R140: the phase timer expires in RELEASE. -/
  | unloadTimeout
  /-- R189: the refresh timer expires. -/
  | refreshTimerExpiry
  /-- R167: a deck-bus read arrives. -/
  | deckBusRead (addr : BusAddr) (count : Nat)
  /-- R161: a deck-bus write arrives. -/
  | deckBusWrite (addr : BusAddr) (words : List BusWord)
  /-- R161: memory answers a pass-through read; `next` is the transaction the requester issues with the answer (log 12). -/
  | passThroughReadAnswer (answer : PassAnswer) (next : Option BusTxn)
  /-- R165: memory answers a pass-through write DONE (`true`) or FAULT; `next` as above. -/
  | passThroughWriteAnswer (done : Bool) (next : Option BusTxn)
  /-- R70: memory answers a segment fetch. -/
  | segmentFetchAnswer (answer : OwnAnswer)
  /-- R64: memory answers a characterization read. -/
  | characterizationReadAnswer (answer : OwnAnswer)
  /-- R176: memory answers a setup read. `setupFirst`: of two claims made in this event the Setup Loader's is the
  older, which R170 leaves open (log 11). -/
  | setupReadAnswer (answer : OwnAnswer) (setupFirst : Bool)
  /-- R172: memory answers a sweep read. -/
  | sweepReadAnswer (answer : OwnAnswer)
  /-- R187: memory answers a report access DONE (`true`) or FAULT. -/
  | reportWriteAnswer (done : Bool)
  /-- R62: the generator begins characterizing a pending set, or applies a pending built-in selection. -/
  | characterizationBegin
  /-- R187: the idle Report Writer takes the first dirty record. -/
  | reportWriteBegin
  /-- R9: state-code write of FILLED. -/
  | filled (index : Fin 16)
  /-- R10: state-code write of EMPTY. -/
  | empty (index : Fin 16)
  /-- R110: check result RECORDED_OK. -/
  | recordedOk (index : Fin 16)
  /-- R111: check result CHECK_FAILED. -/
  | checkFailed (index : Fin 16)
  /-- R13: receipt RECEIVED. -/
  | received (index : Fin 16)
  /-- R13: receipt RECEIVED_MARK. -/
  | receivedMark (index : Fin 16)
  /-- R14: receipt RECEIVED_ERROR. -/
  | receivedError (index : Fin 16)
  /-- R2: state-code write of a code outside 0 to 6. -/
  | invalidStateCode (index : Fin 16) (code : Word)
  /-- R128: commit of LOAD in a slot, with its sequence number. -/
  | load (slot : Fin 8) (seq : Byte)
  /-- R138. -/
  | unload (slot : Fin 8) (seq : Byte)
  /-- R136. -/
  | rewind (slot : Fin 8) (seq : Byte)
  /-- R36: the block count is in the shadow of the slot's word 0 (R144). -/
  | write (slot : Fin 8) (seq : Byte)
  /-- R44. -/
  | readFwd (slot : Fin 8) (seq : Byte)
  /-- R44. -/
  | readBwd (slot : Fin 8) (seq : Byte)
  /-- R48. -/
  | spaceFwd (slot : Fin 8) (seq : Byte)
  /-- R48. -/
  | spaceBwd (slot : Fin 8) (seq : Byte)
  /-- R43. -/
  | erase (slot : Fin 8) (seq : Byte)
  /-- R152. -/
  | halt (slot : Fin 8) (seq : Byte)
  /-- R153. -/
  | flush (slot : Fin 8) (seq : Byte)
  /-- R154. -/
  | resume (slot : Fin 8) (seq : Byte)
  /-- R155. -/
  | ack (slot : Fin 8) (seq : Byte)
  /-- R156. -/
  | ceiling (slot : Fin 8) (seq : Byte)
  /-- R157: the set offset is in the shadow of the slot's word 1. -/
  | profileSelect (slot : Fin 8) (seq : Byte)
  /-- R158. -/
  | softReset (slot : Fin 8) (seq : Byte)
  /-- R145: commit of an order code that R146 does not define. -/
  | unknownOrder (slot : Fin 8) (code : Byte) (seq : Byte)
  /-- R177: setup commit of 1. -/
  | setupCommitConfigure
  /-- R175: setup commit of 2. -/
  | setupCommitGroupC
  /-- R175: setup commit of any other value. -/
  | setupCommitIgnored (value : Word)
  /-- R95: one conversion of each column sensor; the operands are the sensors' levels in converter codes, before saturation. -/
  | columnSensorConversion (supplyLevel takeupLevel : Int)
  deriving DecidableEq, Repr

end Sys2Proof
end

