-- ==== Sys2Proof/Decode.lean ====
section
/-! DEFINITION. The rows of spec/opcode_table.json that give bits, decoded. No row gives bits: a command reaches the block as
an event, not as a word, so no word spells one. -/

namespace Sys2Proof

/-- The command that a word spells by the table's bits. The table gives no row bits, so no word spells a command. -/
def decodeTableWord (_nbits _w : Nat) : Option Instr := none

end Sys2Proof
end

