-- ==== Sys2Proof/Config.lean ====
section
/-! DEFINITION. What the part fixes as a number, and the one free value of the model. -/

namespace Sys2Proof.Config

/-- Vlimit, in vu (R58). -/
def vLimit : Nat := 12800

/-- Bound of every drive command (R89). -/
def commandLimit : Int := 2047

/-- Supply command in WIND (R81, R140). -/
def windCommand : Int := -400

/-- Tracking persistence that makes TRACKING_FAULT (R84). -/
def trackingLimit : Nat := 8

/-- Late samples that abandon a chain (R71). -/
def lateLimit : Nat := 8

/-- The most segments of a chain (R59, R64, R69). -/
def maxSegments : Nat := 32

/-- Settle count that ends LOOPS (R131). -/
def settleLimit : Nat := 1000

/-- Half-width of the settle test, in codes (R131). -/
def settleBand : Int := 64

/-- Phase timer of VACUUM in ms (R128). -/
def vacuumMs : Nat := 2000

/-- Phase timer of LOOPS in ms (R131). -/
def loopsMs : Nat := 3000

/-- Phase timer of RELEASE in ms (R140). -/
def releaseMs : Nat := 60000

/-- Seek limit with origin FRESH (R134). -/
def seekLimitFresh : Nat := 400000

/-- Seek limit with origin FROM_FAULT (R134). -/
def seekLimitFault : Nat := 30000000

/-- The seek travel count does not grow past this (R134). -/
def seekCountCap : Nat := 30000001

/-- Length of the leader wind (R139). -/
def leaderSteps : Int := 40000

/-- Debounce time with which the stability timers start at cold reset, in ms (R101). -/
def resetDebounceMs : Nat := 4

/-- Rejected counts stop here (R87). -/
def rejectedCap : Nat := 65535

/-- The last value of the next sequence number, and of the dropped count (R191). -/
def sequenceCap : Nat := 4294967295

/-- The Report Area's size in bytes, fixed (R169). -/
def reportBytes : Nat := 1152

/-- The ring window's size in bytes, fixed (R178). -/
def ringBytes : Nat := 256

/-- The slot window's size in bytes, fixed (R178). -/
def slotBytes : Nat := 128

/-- All ones in a setup or argument word: the built-in profile (R146, R180). -/
def allOnes : Nat := 4294967295

/-- FREE VALUE: the final T shown by a result that is QUEUED, RUNNING or PENDING, which R147 does not give
(DESIGN CHOICE, log 14). The argument is the count of free values used so far. -/
opaque openFinalT : Nat → Int

end Sys2Proof.Config
end

