-- ==== Sys2Proof/Machine/State.lean ====
section
/-! DEFINITION. The state of the TD-610: every piece of state the spec gives its nine blocks (00_scope.md 2.1), one
structure per block, and the state after cold reset. All of it is plain data. -/

namespace Sys2Proof.Machine

/-! ### Block Tracker (chapter 1) -/

/-- State of a block record (R3, chapter 1.2). -/
inductive BlockState where
  | free | filled | armed | recording | awaitCheck | verified | failed | expecting | received | unreadable
  deriving DecidableEq, Repr

/-- Kind of a block (R3, R4). -/
inductive BlockKind where
  | data | mark
  deriving DecidableEq, Repr

/-- Start and end coordinate of a block; present together (R3, R5). -/
structure Coords where
  start : Int
  stop : Int
  deriving DecidableEq, Repr

/-- A block record; its index is its place in the Block Table (R3). -/
structure BlockRecord where
  state : BlockState
  kind : BlockKind
  length : Nat
  offset : Nat
  tapeLength : Nat
  coords : Option Coords
  attempts : Nat
  longGap : Bool
  slot : Option (Fin 8)
  dirReceived : Option Direction
  /-- the check timer, running with the check time it was started with, in ms (R109) -/
  checkTimer : Option Nat
  deriving DecidableEq, Repr

/-- A FREE record with the values of R3. -/
def BlockRecord.blank : BlockRecord where
  state := .free
  kind := .data
  length := 0
  offset := 0
  tapeLength := 40
  coords := none
  attempts := 0
  longGap := false
  slot := none
  dirReceived := none
  checkTimer := none

/-- The order context of R8; `write` tells a WRITE from the reading orders. -/
structure OrderContext where
  slot : Fin 8
  write : Bool
  n : Nat
  first : Fin 16
  span : Nat
  placed : Nat
  done : Nat
  received : Nat
  deriving DecidableEq, Repr

/-- The Block Tracker (chapter 1). -/
structure Tracker where
  records : Vector BlockRecord 16
  recordCursor : Fin 16
  receiveCursor : Fin 16
  context : Option OrderContext
  outOfTurn : Bool
  deriving DecidableEq, Repr

/-! ### Motion Sequencer (chapters 2, 6 and 7) -/

/-- Transport states (R26). -/
inductive Transport where
  | unthreaded | loading | stopped | starting | running | stopping | rewinding | unloading | faulted
  deriving DecidableEq, Repr

/-- Motion purposes (R27). -/
inductive Purpose where
  | write | read | space | erase | reposition
  deriving DecidableEq, Repr

/-- Kind of the gap that follows the anchor (R30). -/
inductive GapKind where
  | nominal | loadPoint
  deriving DecidableEq, Repr

/-- Lifecycle states of an order result (R148). -/
inductive Outcome where
  | none | queued | running | pending | done | doneMark | doneLoadPoint | failed | aborted | cancelled | refused
  deriving DecidableEq, Repr

/-- Reasons of a result (R148, 12.3). -/
inductive Reason where
  | none | notThreaded | positionLost | writeProtected | endOfTape | formatterSilent | blankTape | profileFault
  | emergency | permanentWriteError | permanentReadError | alreadyThreaded | doorOpen | noTape | vacuumTimeout
  | loopTimeout | noLoadPoint | unloadTimeout | profileInvalid | halt | softReset | flush | superseded | unknownOrder
  | badArgument
  deriving DecidableEq, Repr

/-- A fixed outcome (R35). -/
structure FixedOutcome where
  outcome : Outcome
  reason : Reason
  deriving DecidableEq, Repr

inductive RecoveryKind where
  | write | read
  deriving DecidableEq, Repr

/-- Phases of recovery: WRITE uses SETTLE, BACKUP, RUN_IN; READ uses SETTLE, BACKUP, REREAD (chapter 6). -/
inductive RecoveryPhase where
  | settle | backup | runIn | reread
  deriving DecidableEq, Repr

/-- The recovery context (R55, chapter 6). -/
structure Recovery where
  kind : RecoveryKind
  index : Fin 16
  phase : RecoveryPhase
  target : Int
  deriving DecidableEq, Repr

/-- The steps of a rewind (R136, R138). -/
inductive RewindStep where
  | ramp | cruise | approach | creep | final
  deriving DecidableEq, Repr

/-- The phases of LOADING (vacuum, loops, seek), REWINDING (a rewind step) and UNLOADING (rewind, leader, release). -/
inductive Phase where
  | vacuum | loops | seek
  | step (r : RewindStep)
  | rewind | leader | release
  deriving DecidableEq, Repr

inductive SeekOrigin where
  | fresh | fromFault
  deriving DecidableEq, Repr

inductive SeekLeg where
  | outward | finalCreep
  deriving DecidableEq, Repr

/-- How far the LOAD in progress has come with its group B read and its active set (R129, R130). -/
inductive LoadStage where
  /-- no LOAD in phase VACUUM -/
  | idle
  /-- the group B read is asked for and not begun -/
  | asked
  /-- the LOAD's own group B read runs -/
  | reading
  /-- group B is published, the active set not yet settled -/
  | settling
  /-- the active set is settled -/
  | settled
  deriving DecidableEq, Repr

/-- The Motion Sequencer (chapters 2, 6, 7). -/
structure Sequencer where
  transport : Transport
  dir : Option Direction
  purpose : Option Purpose
  trusted : Bool
  anchor : Int
  gapKind : GapKind
  recordPoint : Option Int
  /-- RECORDING records with their decision points, in placement order (R37) -/
  decisions : List (Fin 16 × Int)
  noShow : Nat
  fillWait : Bool
  /-- the notice that the cursor record is filled, held for STOPPED (R39) -/
  fillHeld : Bool
  freeWait : Bool
  eot : Option Int
  blankRef : Option Int
  eraseEnd : Option Int
  fixed : Option FixedOutcome
  recovery : Option Recovery
  writeMode : Bool
  /-- the running order has been handed over and waits for STOPPED (R34, R150) -/
  held : Bool
  /-- the approach point while the approach rule's REPOSITION move runs (R32, R33) -/
  approach : Option Int
  /-- a no-show stop is in progress (R40, R41) -/
  noShowStop : Bool
  /-- the fallback stop in progress began in STARTING (R53) -/
  startFallback : Bool
  vacuumRequest : Bool
  phase : Option Phase
  rewindStep : Option RewindStep
  seekOrigin : Option SeekOrigin
  seekLeg : Option SeekLeg
  /-- the marker event of the present leg has been taken (R132, R133) -/
  legMarked : Bool
  /-- the BOT sensor was active when the outward leg began (R133) -/
  botAtLeg : Bool
  /-- the phase timer, running with its limit in ms -/
  phaseTimer : Option Nat
  settleCount : Nat
  seekTravel : Nat
  leaderStart : Option Int
  haltStop : Bool
  loadStage : LoadStage
  deriving DecidableEq, Repr

/-! ### Profile Generator (chapter 3) -/

/-- The six chains of a set (R59). -/
inductive Chain where
  | start | stop | creepStart | creepStop | rewindStart | rewindStop
  deriving DecidableEq, Repr

/-- Place of a chain in header order; its code in 12.3. -/
def Chain.index : Chain → Fin 6
  | .start => 0
  | .stop => 1
  | .creepStart => 2
  | .creepStop => 3
  | .rewindStart => 4
  | .rewindStop => 5

/-- Modes of the generator (R68). -/
inductive GenMode where
  | hold | accel | cruise | decel | fallback
  deriving DecidableEq, Repr

/-- A segment: slope, duration (or what remains of it), LAST flag, link (R59). -/
structure Segment where
  slope : Int
  duration : Nat
  last : Bool
  link : Nat
  deriving DecidableEq, Repr

/-- The running chain (R69). While the mode is HOLD it is a start chain whose head is awaited (R74). -/
structure RunningChain where
  chain : Chain
  target : Nat
  segments : Nat
  late : Nat
  trim : Bool
  builtIn : Bool
  /-- a deceleration to creep, or the move toward creep of R76, whose target is Vcreep -/
  toCreep : Bool
  /-- the present late wait has raised PROFILE_LATE (R71) -/
  lateRaised : Bool
  deriving DecidableEq, Repr

/-- The reload slot's segment; `head` names the chain whose head it is, when it is one (R70, R75). -/
structure Reload where
  segment : Segment
  head : Option Chain
  deriving DecidableEq, Repr

structure StartRequest where
  chain : Chain
  dir : Direction
  deriving DecidableEq, Repr

/-- The active set (R60); `source` absent is the built-in profile. -/
structure ActiveSet where
  source : Option Nat
  label : Word
  heads : Vector Nat 6
  distances : Vector Nat 6
  deriving DecidableEq, Repr

/-- The pending set with the slot of its order (R66); `source` absent is the built-in selection. -/
structure PendingSet where
  source : Option Nat
  slot : Fin 8
  deriving DecidableEq, Repr

/-- A characterization in progress (R62, R64); `slot` absent means it was begun for a LOAD. -/
structure Characterization where
  source : Nat
  slot : Option (Fin 8)
  headerRead : Bool
  label : Word
  heads : Vector Nat 6
  chain : Fin 6
  segments : Nat
  v : Int
  sum : Int
  distances : Vector Nat 6
  deriving DecidableEq, Repr

/-- The Profile Generator (chapter 3). -/
structure Generator where
  v : Nat
  p : Int
  dir : Option Direction
  mode : GenMode
  run : Option RunningChain
  working : Option Segment
  reload : Option Reload
  fallSlope : Nat
  waiting : Option StartRequest
  active : ActiveSet
  pendingSet : Option PendingSet
  charact : Option Characterization
  /-- a LOAD's settlement that waits for the characterization or the motion in progress: group B's profile set field
  (R67, R169) -/
  loadSet : Option Nat
  deriving DecidableEq, Repr

/-! ### Capstan and Reel Servos (chapter 4) -/

/-- Drive modes (R81). -/
inductive DriveMode where
  | off | loopHold | follow | wind
  deriving DecidableEq, Repr

/-- The reference of an index capture: T and the direction of motion when it was taken (R86). -/
structure CaptureRef where
  pos : Int
  dir : Direction
  deriving DecidableEq, Repr

/-- Index capture of a reel (R86). -/
structure IndexCapture where
  ref : Option CaptureRef
  broken : Bool
  deriving DecidableEq, Repr

/-- What one reel servo holds (R86 to R88). -/
structure ReelServo where
  w : Nat
  capture : IndexCapture
  rejected : Nat
  deriving DecidableEq, Repr

/-- The servos (chapter 4), but for the drive links. -/
structure Servos where
  t : Int
  driveMode : DriveMode
  brake : Bool
  tracking : Nat
  supply : ReelServo
  takeup : ReelServo
  deriving DecidableEq, Repr

/-- What the three drive links carried at the last servo sample (R89, R127). -/
structure DriveLinks where
  capstan : Int
  supply : Int
  takeup : Int
  vacuum : Bool
  deriving DecidableEq, Repr

/-! ### Column and Sensor Unit (chapter 5) -/

/-- A switch record (R100); `true` is the active level. -/
structure SwitchRecord where
  raw : Bool
  debounced : Bool
  settled : Bool
  /-- the stability timer, running with its time in ms -/
  timer : Option Nat
  deriving DecidableEq, Repr

/-- Marker qualification states (R105). -/
inductive MarkerState where
  | idle | counting | qualified
  deriving DecidableEq, Repr

/-- A marker record (R105). -/
structure MarkerRecord where
  level : Bool
  state : MarkerState
  steps : Nat
  dir : Option Direction
  deriving DecidableEq, Repr

/-- What the unit holds for one column (R95, R98). -/
structure ColumnRecord where
  sum : Nat
  x : Nat
  outside : Nat
  /-- the persistence count that a VACUUM_LOST stop cut off, counting on toward its own COLUMN_FAULT (R102, log 37) -/
  cut : Option Nat
  deriving DecidableEq, Repr

/-- The Column and Sensor Unit (chapter 5). -/
structure Sensors where
  supply : ColumnRecord
  takeup : ColumnRecord
  /-- conversions taken in the interval in progress (R95) -/
  taken : Nat
  /-- N of the interval in progress (R96) -/
  intervalN : Nat
  windowArmed : Bool
  /-- an emergency stop of a supervised vacuum stands: a switch accepted LOST still adds its event (R92, R102, log 37) -/
  lossWatch : Bool
  supplyVacuum : SwitchRecord
  takeupVacuum : SwitchRecord
  door : SwitchRecord
  ring : SwitchRecord
  tapeInPath : SwitchRecord
  bot : MarkerRecord
  eot : MarkerRecord
  deriving DecidableEq, Repr

/-! ### Order Intake (chapter 8) -/

/-- The sixteen orders (R146). -/
inductive OrderCode where
  | load | unload | rewind | write | readFwd | readBwd | spaceFwd | spaceBwd | erase
  | halt | flush | resume | ack | ceiling | profileSelect | softReset
  deriving DecidableEq, Repr

/-- The taken order of a slot (R144, R146). `code` is the byte committed; `arg` the argument as used. -/
structure TakenOrder where
  code : Nat
  arg : Nat
  clamped : Bool
  tag : Word
  seq : Nat
  deriving DecidableEq, Repr

/-- The order result of a slot (R147). -/
structure OrderResult where
  code : Nat
  tag : Word
  seq : Nat
  outcome : Outcome
  reason : Reason
  arg : Nat
  clamped : Bool
  blocks : Nat
  finalT : Int
  deriving DecidableEq, Repr

/-- Order Intake (chapter 8). -/
structure Intake where
  results : Vector OrderResult 8
  taken : Vector TakenOrder 8
  queue : List (Fin 8)
  suspended : Bool
  running : Option (Fin 8)
  deriving DecidableEq, Repr

/-! ### Pass-Through Path (chapter 9) -/

/-- Stage of the upper-port transaction (R161); HELD carries its running hold timer in µs (R168). -/
inductive UpperStage where
  | held (limit : Nat)
  | claimed
  | atMemory
  deriving DecidableEq, Repr

structure UpperTxn where
  txn : BusTxn
  stage : UpperStage
  deriving DecidableEq, Repr

/-- An own access, named by window and offset (R169). -/
inductive OwnAccess where
  /-- read of the segment record at an offset of the Profile Store; `head` names the chain whose head it is -/
  | fetch (offset : Nat) (head : Option Chain)
  /-- characterization read of 8 or 2 words at an offset of the Profile Store -/
  | charact (offset : Nat) (count : Nat)
  /-- read of words of the Setup Block -/
  | setup (word : Nat) (count : Nat)
  /-- the k-th sweep read -/
  | sweep (k : Nat)
  /-- write of words of the Report Area at a word offset -/
  | report (word : Nat) (data : List Word)
  deriving DecidableEq, Repr

/-- A waiting own claim with its pass-over count; `urgent` is the urgency of a profile fetch (R70, R171). -/
structure OwnClaim where
  access : OwnAccess
  urgent : Bool
  passOver : Nat
  deriving DecidableEq, Repr

/-- The transaction at the lower port (R162). -/
inductive PortTxn where
  /-- the upper-port transaction -/
  | passThrough
  /-- an own access with the address formed at its turn; `discard` when its claim was withdrawn meanwhile -/
  | own (access : OwnAccess) (addr : Nat) (discard : Bool)
  deriving DecidableEq, Repr

/-- An answer given at the upper port (R161). -/
inductive BusAnswer where
  | done (words : List Word)
  | retry
  | fault
  deriving DecidableEq, Repr

/-- The Pass-Through Path (chapter 9). The Window Map and the two limits are the published group A values. -/
structure Path where
  configured : Bool
  descriptors : Vector Word 64
  slots : Vector Word 32
  commitWord : Word
  upper : Option UpperTxn
  /-- waiting own claims, oldest first -/
  claims : List OwnClaim
  port : Option PortTxn
  /-- the sweep in progress: its next or present read, 0 to 11 -/
  sweep : Option Nat
  /-- the answers given at the upper port since the last DECK_BUS or PASS_THROUGH command that it took, in order (log 25) -/
  answers : List BusAnswer
  deriving DecidableEq, Repr

/-! ### Setup Loader (chapter 10) -/

/-- Published group A values (R178). -/
structure GroupA where
  ringBase : Nat
  slotBase : Nat
  reportBase : Nat
  storeBase : Nat
  storeSize : Nat
  bufferBase : Nat
  bufferSize : Nat
  holdLimit : Nat
  passLimit : Nat
  deriving DecidableEq, Repr

/-- The default map and limits (R164, R178). -/
def GroupA.default : GroupA where
  ringBase := 0x000100
  slotBase := 0x000200
  reportBase := 0x000400
  storeBase := 0x001000
  storeSize := 12288
  bufferBase := 0x004000
  bufferSize := 245760
  holdLimit := 8
  passLimit := 8

/-- Published group B values (R180). -/
structure GroupB where
  vRec : Nat
  vCreep : Nat
  vRew : Nat
  gap : Nat
  gapBot : Nat
  headOffset : Nat
  lateAllowance : Nat
  xExt : Nat
  eExt : Nat
  margin : Nat
  blankLimit : Nat
  eotOverrun : Nat
  writeRetry : Nat
  readRetry : Nat
  noShowLimit : Nat
  checkTime : Nat
  kp : Nat
  kv : Nat
  kc : Nat
  setpoint : Nat
  eLim : Nat
  kff : Nat
  wInitSupply : Nat
  wInitTakeup : Nat
  wMin : Nat
  wMax : Nat
  conversions : Nat
  mq : Nat
  approachDistance : Nat
  profileSet : Nat
  deriving DecidableEq, Repr

/-- The group B defaults (R180). -/
def GroupB.default : GroupB where
  vRec := 3072
  vCreep := 512
  vRew := 10240
  gap := 600
  gapBot := 3000
  headOffset := 240
  lateAllowance := 40
  xExt := 1800
  eExt := 3500
  margin := 100
  blankLimit := 300000
  eotOverrun := 120000
  writeRetry := 3
  readRetry := 5
  noShowLimit := 3
  checkTime := 2
  kp := 96
  kv := 64
  kc := 40
  setpoint := 512
  eLim := 20
  kff := 4000
  wInitSupply := 30000
  wInitTakeup := 12600
  wMin := 10000
  wMax := 40000
  conversions := 4
  mq := 8
  approachDistance := 60000
  profileSet := Config.allOnes

/-- Log styles (R191). -/
inductive LogStyle where
  | roll | keep | off
  deriving DecidableEq, Repr

/-- Published group C values (R179). -/
structure GroupC where
  xLo : Nat
  xHi : Nat
  persistence : Nat
  debounce : Nat
  style : LogStyle
  mask : BitVec 9
  refresh : Nat
  deriving DecidableEq, Repr

/-- The group C defaults (R179). -/
def GroupC.default : GroupC where
  xLo := 128
  xHi := 896
  persistence := 3
  debounce := 4
  style := .roll
  mask := 511#9
  refresh := 10

inductive Activity where
  | idle | readingA | readingB | readingC
  deriving DecidableEq, Repr

/-- Status of a setup group (R183); `defaulted` is DEFAULTED for A and DEFAULTED_FIELDS for B and C. -/
inductive GroupStatus where
  | notRead | accepted | defaulted | deferred | readFault
  deriving DecidableEq, Repr

/-- What the setup result shows of one group (R183). -/
structure GroupResult where
  status : GroupStatus
  count : Nat
  first : Nat
  deriving DecidableEq, Repr

/-- The setup result (R183), but for the configured flag, which is the path's. -/
structure SetupResult where
  lastCommit : Nat
  busy : Bool
  groupA : GroupResult
  groupB : GroupResult
  groupC : GroupResult
  deriving DecidableEq, Repr

/-- The commit in progress (R175, R177, R184); `configure` tells a commit of 1 from one of 2. -/
structure SetupCommit where
  configure : Bool
  awaitingSweep : Bool
  groupCDue : Bool
  deriving DecidableEq, Repr

/-- The Setup Loader (chapter 10). -/
structure Loader where
  activity : Activity
  /-- the words of the group read so far -/
  words : List Word
  commit : Option SetupCommit
  /-- the waiting commit, `true` for a commit of 1 -/
  waitingCommit : Option Bool
  waitingB : Bool
  groupA : GroupA
  groupB : GroupB
  groupC : GroupC
  result : SetupResult
  deriving DecidableEq, Repr

/-! ### Report Writer (chapter 11) -/

/-- The thirty-five records of the Report Area (chapter 11.1). -/
inductive RecordName where
  | identity
  | status
  | result (slot : Fin 8)
  | block (index : Fin 16)
  | logHeader
  | log (position : Fin 8)
  deriving DecidableEq, Repr

/-- Place of a record in word-offset order. -/
def RecordName.index : RecordName → Fin 35
  | .identity => 0
  | .status => 1
  | .result i => ⟨2 + i.val, by omega⟩
  | .block i => ⟨10 + i.val, by omega⟩
  | .logHeader => 26
  | .log p => ⟨27 + p.val, by omega⟩

/-- The named events (11.2, 12.3). -/
inductive EventName where
  | columnFault | vacuumLost | doorOpened | tapeOut | trackingFault
  | orderFailed
  | writeCheckFailed | checkMissing | readError | recoveryRetargeted
  | profileLate | profileMismatch | profileInvalid | profileFetchFault
  | descriptorInvalid | descriptorConflict | outOfTurnRead | busFault | slotBusy | orderRefused
  | setupFieldDefaulted | setupGroupADefaulted | setupDeferred | setupReadFault
  | eotPassed | loadPointReached | longGap
  | orderDone
  | formatterNoShow
  deriving DecidableEq, Repr

/-- A record of the event log (R191). -/
structure LogRecord where
  seq : Nat
  event : EventName
  slot : Option (Fin 8)
  index : Option (Fin 16)
  t : Int
  d0 : Word
  d1 : Word
  d2 : Word
  deriving DecidableEq, Repr

/-- A record write under way; `second` once STATUS has come to its second access (R187). -/
structure RecordWrite where
  name : RecordName
  second : Bool
  deriving DecidableEq, Repr

/-- The Report Writer (chapter 11). -/
structure Reporter where
  configured : Bool
  images : Vector (List Word) 35
  updates : Vector (BitVec 16) 35
  dirty : List RecordName
  writing : Option RecordWrite
  /-- the refresh timer, running with its interval in ms -/
  refreshTimer : Option Nat
  log : Vector (Option LogRecord) 8
  stored : Nat
  writeIndex : Fin 8
  nextSeq : Nat
  dropped : Nat
  /-- bit c: class c is pending (R193) -/
  pendingClasses : BitVec 9
  ceiling : Nat
  notice : Bool
  deriving DecidableEq, Repr

/-! ### The whole part -/

/-- Reports of the Profile Generator to the Motion Sequencer (R68). -/
inductive Signal where
  | startEnd
  | stopEnd
  | creepReached
  /-- PROFILE_FAULT; `stopping`: the chain abandoned was a stop chain running toward 0 (R142) -/
  | profileFault (stopping : Bool)
  deriving DecidableEq, Repr

end Sys2Proof.Machine

namespace Sys2Proof.Machine

/-- The state of the TD-610, with the queue of waiting commands. -/
structure State where
  tracker : Tracker
  sequencer : Sequencer
  generator : Generator
  servos : Servos
  links : DriveLinks
  sensors : Sensors
  intake : Intake
  path : Path
  loader : Loader
  reporter : Reporter
  /-- reports the event in progress has still to act on; empty between events (log 8) -/
  signals : List Signal
  /-- free values used so far (log 14) -/
  freeCount : Nat
  /-- the waiting commands, first in, first out -/
  pending : List Instr
  deriving DecidableEq, Repr

/-- Reasons for which a step can stop with a fault. The spec gives the block no behaviour that stops it: its faults are
events and state changes, so there is no constructor. -/
inductive Fault where
  deriving DecidableEq, Repr

/-- Reasons for which a step can be refused. -/
inductive Refusal where
  /-- Raised by `exec` alone, for a command without a meaning. Safe: the machine stops where the hardware goes on. -/
  | notModelled (mnemonic : String)
  deriving DecidableEq, Repr

/-! ### Cold reset (R25, R56, R78, R94, R108, R126, R143, R159, R174, R185, R195) -/

def Tracker.reset : Tracker where
  records := Vector.replicate 16 BlockRecord.blank
  recordCursor := 0
  receiveCursor := 0
  context := none
  outOfTurn := false

def Sequencer.reset : Sequencer where
  transport := .unthreaded
  dir := none
  purpose := none
  trusted := false
  anchor := 0
  gapKind := .loadPoint
  recordPoint := none
  decisions := []
  noShow := 0
  fillWait := false
  fillHeld := false
  freeWait := false
  eot := none
  blankRef := none
  eraseEnd := none
  fixed := none
  recovery := none
  writeMode := false
  held := false
  approach := none
  noShowStop := false
  startFallback := false
  vacuumRequest := false
  phase := none
  rewindStep := none
  seekOrigin := none
  seekLeg := none
  legMarked := false
  botAtLeg := false
  phaseTimer := none
  settleCount := 0
  seekTravel := 0
  leaderStart := none
  haltStop := false
  loadStage := .idle

/-- The built-in profile with its distances for 3072, 512 and 10240 (R60, R61). -/
def ActiveSet.reset : ActiveSet where
  source := none
  label := 0
  heads := Vector.replicate 6 0
  distances := #v[102, 90, 17, 15, 20500, 20460]

def Generator.reset : Generator where
  v := 0
  p := 0
  dir := none
  mode := .hold
  run := none
  working := none
  reload := none
  fallSlope := 0
  waiting := none
  active := ActiveSet.reset
  pendingSet := none
  charact := none
  loadSet := none

def IndexCapture.clear : IndexCapture where
  ref := none
  broken := false

def Servos.reset : Servos where
  t := 0
  driveMode := .off
  brake := true
  tracking := 0
  supply := { w := 30000, capture := IndexCapture.clear, rejected := 0 }
  takeup := { w := 12600, capture := IndexCapture.clear, rejected := 0 }

def DriveLinks.reset : DriveLinks where
  capstan := 0
  supply := 0
  takeup := 0
  vacuum := false

/-- A switch record at the end of cold reset, with the raw level its contact then has (R101). -/
def SwitchRecord.reset (raw : Bool) : SwitchRecord where
  raw := raw
  debounced := false
  settled := false
  timer := some Config.resetDebounceMs

/-- A marker record at the end of cold reset: COUNTING when its sensor is already active (R108). -/
def MarkerRecord.reset (level : Bool) : MarkerRecord where
  level := level
  state := if level then .counting else .idle
  steps := 0
  dir := none

def ColumnRecord.reset : ColumnRecord where
  sum := 0
  x := 0
  outside := 0
  cut := none

/-- Raw levels are inputs; State.reset takes them all inactive (DESIGN CHOICE, log 5). -/
def Sensors.reset : Sensors where
  supply := ColumnRecord.reset
  takeup := ColumnRecord.reset
  taken := 0
  intervalN := 4
  windowArmed := false
  lossWatch := false
  supplyVacuum := SwitchRecord.reset false
  takeupVacuum := SwitchRecord.reset false
  door := SwitchRecord.reset false
  ring := SwitchRecord.reset false
  tapeInPath := SwitchRecord.reset false
  bot := MarkerRecord.reset false
  eot := MarkerRecord.reset false

def OrderResult.reset : OrderResult where
  code := 0
  tag := 0
  seq := 0
  outcome := .none
  reason := .none
  arg := 0
  clamped := false
  blocks := 0
  finalT := 0

def TakenOrder.reset : TakenOrder where
  code := 0
  arg := 0
  clamped := false
  tag := 0
  seq := 0

def Intake.reset : Intake where
  results := Vector.replicate 8 OrderResult.reset
  taken := Vector.replicate 8 TakenOrder.reset
  queue := []
  suspended := false
  running := none

def Path.reset : Path where
  configured := false
  descriptors := Vector.replicate 64 0
  slots := Vector.replicate 32 0
  commitWord := 0
  upper := none
  claims := []
  port := none
  sweep := none
  answers := []

def GroupResult.reset : GroupResult where
  status := .notRead
  count := 0
  first := 0

def SetupResult.reset : SetupResult where
  lastCommit := 0
  busy := false
  groupA := GroupResult.reset
  groupB := GroupResult.reset
  groupC := GroupResult.reset

def Loader.reset : Loader where
  activity := .idle
  words := []
  commit := none
  waitingCommit := none
  waitingB := false
  groupA := GroupA.default
  groupB := GroupB.default
  groupC := GroupC.default
  result := SetupResult.reset

/-- Word 1 of IDENTITY: vendor code 0x07A1 and part code 0x0610 (R197). -/
def identityWord1 : Word := 0x061007A1#32

/-- Word 2 of IDENTITY: revision 1 and profile format 1 (R197). -/
def identityWord2 : Word := 0x00000101#32

/-- The images after cold reset: zero contents, except the IDENTITY constants (R195). -/
def imagesReset : Vector (List Word) 35 :=
  ((Vector.replicate 35 (List.replicate 8 (0 : Word))).set 0 ([0, identityWord1, identityWord2] ++ List.replicate 5 0)).set 1
    (List.replicate 16 0)

/-- The Report Writer as cold reset leaves it (R195), before the marks of the Block Table's reset. -/
def Reporter.reset : Reporter where
  configured := false
  images := imagesReset
  updates := Vector.replicate 35 0
  dirty := []
  writing := none
  refreshTimer := none
  log := Vector.replicate 8 none
  stored := 0
  writeIndex := 0
  nextSeq := 0
  dropped := 0
  pendingClasses := 0
  ceiling := 9
  notice := false

/-- The block reports, which every reset of the Block Table marks dirty (R25). -/
def blockReports : List RecordName := (List.finRange 16).map .block

/-- The machine right after cold reset, every input inactive and no command waiting. The Report Writer begins with its dirty
list Empty (R195), and the reset of the Block Table marks the sixteen block reports (R25), which append to it although the
device is not configured (R186): DEDUCED, log 38. -/
def State.reset : State where
  tracker := Tracker.reset
  sequencer := Sequencer.reset
  generator := Generator.reset
  servos := Servos.reset
  links := DriveLinks.reset
  sensors := Sensors.reset
  intake := Intake.reset
  path := Path.reset
  loader := Loader.reset
  reporter := { Reporter.reset with dirty := Reporter.reset.dirty ++ blockReports }
  signals := []
  freeCount := 0
  pending := []

end Sys2Proof.Machine
end

