-- ==== Sys2Proof/Machine/Codes.lean ====
section
/-! DEFINITION. The codes of the Report Area and of the event details (12.3). -/

namespace Sys2Proof.Machine

def Outcome.code : Outcome → Nat
  | .none => 0
  | .queued => 1
  | .running => 2
  | .pending => 3
  | .done => 4
  | .doneMark => 5
  | .doneLoadPoint => 6
  | .failed => 7
  | .aborted => 8
  | .cancelled => 9
  | .refused => 10

def Reason.code : Reason → Nat
  | .none => 0
  | .notThreaded => 1
  | .positionLost => 2
  | .writeProtected => 3
  | .endOfTape => 4
  | .formatterSilent => 5
  | .blankTape => 6
  | .profileFault => 7
  | .emergency => 8
  | .permanentWriteError => 9
  | .permanentReadError => 10
  | .alreadyThreaded => 11
  | .doorOpen => 12
  | .noTape => 13
  | .vacuumTimeout => 14
  | .loopTimeout => 15
  | .noLoadPoint => 16
  | .unloadTimeout => 17
  | .profileInvalid => 18
  | .halt => 19
  | .softReset => 20
  | .flush => 21
  | .superseded => 22
  | .unknownOrder => 23
  | .badArgument => 24

def Transport.code : Transport → Nat
  | .unthreaded => 0
  | .loading => 1
  | .stopped => 2
  | .starting => 3
  | .running => 4
  | .stopping => 5
  | .rewinding => 6
  | .unloading => 7
  | .faulted => 8

def RewindStep.code : RewindStep → Nat
  | .ramp => 1
  | .cruise => 2
  | .approach => 3
  | .creep => 4
  | .final => 5

def Phase.code : Phase → Nat
  | .vacuum => 1
  | .loops => 2
  | .seek => 3
  | .step r => r.code
  | .rewind => 1
  | .leader => 2
  | .release => 3

def directionCode : Option Direction → Nat
  | none => 0
  | some .forward => 1
  | some .backward => 2

def purposeCode : Option Purpose → Nat
  | none => 0
  | some .write => 1
  | some .read => 2
  | some .space => 3
  | some .erase => 4
  | some .reposition => 5

def DriveMode.code : DriveMode → Nat
  | .off => 0
  | .loopHold => 1
  | .follow => 2
  | .wind => 3

def MarkerState.code : MarkerState → Nat
  | .idle => 0
  | .counting => 1
  | .qualified => 2

def BlockState.code : BlockState → Nat
  | .free => 0
  | .filled => 1
  | .armed => 2
  | .recording => 3
  | .awaitCheck => 4
  | .verified => 5
  | .failed => 6
  | .expecting => 7
  | .received => 8
  | .unreadable => 9

def GroupStatus.code : GroupStatus → Nat
  | .notRead => 0
  | .accepted => 1
  | .defaulted => 2
  | .deferred => 3
  | .readFault => 4

def LogStyle.code : LogStyle → Nat
  | .roll => 0
  | .keep => 1
  | .off => 2

/-- A column's code in COLUMN_FAULT and VACUUM_LOST. -/
def columnCode : Reel → Nat
  | .supply => 0
  | .takeup => 1

/-- Characterization failures (R63, R64). -/
inductive CharactReason where
  | placement | format | head | readFault | length | duration | range | earlyZero | target | link
  deriving DecidableEq, Repr

def CharactReason.code : CharactReason → Nat
  | .placement => 1
  | .format => 2
  | .head => 3
  | .readFault => 4
  | .length => 5
  | .duration => 6
  | .range => 7
  | .earlyZero => 8
  | .target => 9
  | .link => 10

/-- The chain code that stands for none. -/
def noChainCode : Nat := 7

end Sys2Proof.Machine
end

