-- ==== Sys2Proof/Machine/Ops.lean ====
section
/-! DEFINITION. The shared operations that every family uses: updates of one block's state, exact arithmetic, and the small
readings of State that the rules name. -/

namespace Sys2Proof.Machine

/-! ### Updates of one block -/

def State.onTracker (f : Tracker → Tracker) (s : State) : State := { s with tracker := f s.tracker }
def State.onSequencer (f : Sequencer → Sequencer) (s : State) : State := { s with sequencer := f s.sequencer }
def State.onGenerator (f : Generator → Generator) (s : State) : State := { s with generator := f s.generator }
def State.onServos (f : Servos → Servos) (s : State) : State := { s with servos := f s.servos }
def State.onLinks (f : DriveLinks → DriveLinks) (s : State) : State := { s with links := f s.links }
def State.onSensors (f : Sensors → Sensors) (s : State) : State := { s with sensors := f s.sensors }
def State.onIntake (f : Intake → Intake) (s : State) : State := { s with intake := f s.intake }
def State.onPath (f : Path → Path) (s : State) : State := { s with path := f s.path }
def State.onLoader (f : Loader → Loader) (s : State) : State := { s with loader := f s.loader }
def State.onReporter (f : Reporter → Reporter) (s : State) : State := { s with reporter := f s.reporter }

/-- Hand a report of the Profile Generator to the Motion Sequencer within the event (log 8). -/
def State.signal (g : Signal) (s : State) : State := { s with signals := s.signals ++ [g] }

/-- Replace the reports still to be acted on (log 8). -/
def State.setSignals (l : List Signal) (s : State) : State := { s with signals := l }

/-- Replace the count of free values used (log 14). -/
def State.setFreeCount (n : Nat) (s : State) : State := { s with freeCount := n }

/-- Replace the queue of waiting commands. -/
def State.withQueue (s : State) (q : List Instr) : State := { s with pending := q }

/-- Do `f` when `c` holds. -/
def State.doIf (c : Bool) (f : State → State) (s : State) : State := if c then f s else s

/-! ### Arithmetic (00_scope.md 5) -/

/-- Clamp to a range (00_scope.md 5). -/
def clampInt (lo hi x : Int) : Int := max lo (min x hi)

/-- Division rounded up (00_scope.md 5, R65, R72). -/
def ceilDiv (a b : Nat) : Nat := (a + b - 1) / b

/-- A signed quantity as a 32-bit word (12, R197). -/
def wordOfInt (x : Int) : Word := BitVec.ofInt 32 x

/-- A number as a 32-bit word. -/
def wordOfNat (n : Nat) : Word := BitVec.ofNat 32 n

/-- Distance of two indexes going up the ring: `i − first` modulo 16 (R8). -/
def ringOffset (first i : Fin 16) : Nat := (i - first).val

/-- The opposite direction. -/
def opposite : Direction → Direction
  | .forward => .backward
  | .backward => .forward

/-! ### Readings of State -/

/-- Tape position T (R79). -/
def State.tapePos (s : State) : Int := s.servos.t

/-- Block record i. -/
def State.record (s : State) (i : Fin 16) : BlockRecord := s.tracker.records[i]

/-- Descriptor shadow: word k of descriptor i (R165). -/
def State.descriptorWord (s : State) (i : Fin 16) (k : Fin 4) : Word :=
  s.path.descriptors[(⟨4 * i.val + k.val, by omega⟩ : Fin 64)]

/-- Slot shadow: word k of slot i (R165). -/
def State.slotWord (s : State) (i : Fin 8) (k : Fin 4) : Word :=
  s.path.slots[(⟨4 * i.val + k.val, by omega⟩ : Fin 32)]

/-- Published group B. -/
def State.groupB (s : State) : GroupB := s.loader.groupB

/-- Distance of a chain of the active set (R60), in steps. -/
def State.distance (s : State) (c : Chain) : Int := (s.generator.active.distances[c.index] : Nat)

/-- Head offset H (group B). -/
def State.headOffset (s : State) : Int := (s.groupB.headOffset : Nat)

/-- The gap that follows the anchor (R30). -/
def State.gapAfterAnchor (s : State) : Nat :=
  match s.sequencer.gapKind with
  | .loadPoint => s.groupB.gapBot
  | .nominal => s.groupB.gap

/-- Debounced state of a switch record field (R100). -/
def Sensors.switch (n : Sensors) : Switch → SwitchRecord
  | .supplyVacuum => n.supplyVacuum
  | .takeupVacuum => n.takeupVacuum
  | .door => n.door
  | .ring => n.ring
  | .tapeInPath => n.tapeInPath

/-- Replace a switch record. -/
def Sensors.setSwitch (n : Sensors) (sw : Switch) (r : SwitchRecord) : Sensors :=
  match sw with
  | .supplyVacuum => { n with supplyVacuum := r }
  | .takeupVacuum => { n with takeupVacuum := r }
  | .door => { n with door := r }
  | .ring => { n with ring := r }
  | .tapeInPath => { n with tapeInPath := r }

/-- The marker record of a marker (R105). -/
def Sensors.marker (n : Sensors) : Marker → MarkerRecord
  | .bot => n.bot
  | .eot => n.eot

/-- Replace a marker record. -/
def Sensors.setMarker (n : Sensors) (m : Marker) (r : MarkerRecord) : Sensors :=
  match m with
  | .bot => { n with bot := r }
  | .eot => { n with eot := r }

/-- What a reel's servo holds. -/
def Servos.reel (v : Servos) : Reel → ReelServo
  | .supply => v.supply
  | .takeup => v.takeup

/-- Replace what a reel's servo holds. -/
def Servos.setReel (v : Servos) (r : Reel) (x : ReelServo) : Servos :=
  match r with
  | .supply => { v with supply := x }
  | .takeup => { v with takeup := x }

/-- Both vacuum switches are MADE (R130). -/
def State.vacuumMade (s : State) : Bool := s.sensors.supplyVacuum.debounced && s.sensors.takeupVacuum.debounced

/-- The order code of the running order, from the slot's taken order. -/
def State.runningTaken (s : State) : Option TakenOrder :=
  s.intake.running.map fun i => s.intake.taken[i]

end Sys2Proof.Machine
end

