-- ==== Sys2Proof/Machine/Operands.lean ====
section
/-! DEFINITION. The fields of the words that the device reads (R196), and the merge of enabled bytes (R165). -/

namespace Sys2Proof.Machine

/-- Merge the enabled bytes of a written word into a shadow word; bytes not enabled keep their value (R165). -/
def mergeWord (old : Word) (w : BusWord) : Word :=
  let m (b : Nat) : Word := if w.enables.getLsbD b then BitVec.ofNat 32 (255 * 2 ^ (8 * b)) else 0#32
  let mask : Word := m 0 ||| m 1 ||| m 2 ||| m 3
  (w.data &&& mask) ||| (old &&& ~~~mask)

/-- A word written with every byte enabled. -/
def fullWord (w : Word) : BusWord where
  data := w
  enables := 15#4

/-! ### Descriptor -/

/-- Word 1, bit 31: MARK or DATA. -/
def descriptorKind (w1 : Word) : BlockKind := if w1.getLsbD 31 then .mark else .data

/-- Word 1, bits 15:0: length in bytes. -/
def descriptorLength (w1 : Word) : Nat := (w1.extractLsb' 0 16).toNat

/-- Tape length of a block (R4). -/
def tapeLengthOf (kind : BlockKind) (length : Nat) : Nat :=
  match kind with
  | .data => length + 40
  | .mark => 80

/-! ### Order slot -/

/-- Word 3, bits 7:0. -/
def commitCode (w3 : Word) : Nat := (w3.extractLsb' 0 8).toNat

/-- Word 3, bits 15:8. -/
def commitSeq (w3 : Word) : Nat := (w3.extractLsb' 8 8).toNat

/-- A commit word with an order code and a sequence number, its other bits 0. -/
def commitWordOf (code seq : Byte) : Word := (0#16 ++ seq) ++ code

/-- The order of an order code (R146). -/
def orderOfCode : Nat → Option OrderCode
  | 1 => some .load
  | 2 => some .unload
  | 3 => some .rewind
  | 4 => some .write
  | 5 => some .readFwd
  | 6 => some .readBwd
  | 7 => some .spaceFwd
  | 8 => some .spaceBwd
  | 9 => some .erase
  | 16 => some .halt
  | 17 => some .flush
  | 18 => some .resume
  | 19 => some .ack
  | 20 => some .ceiling
  | 21 => some .profileSelect
  | 22 => some .softReset
  | _ => none

/-- The code of an order (R146). -/
def OrderCode.code : OrderCode → Byte
  | .load => 1
  | .unload => 2
  | .rewind => 3
  | .write => 4
  | .readFwd => 5
  | .readBwd => 6
  | .spaceFwd => 7
  | .spaceBwd => 8
  | .erase => 9
  | .halt => 16
  | .flush => 17
  | .resume => 18
  | .ack => 19
  | .ceiling => 20
  | .profileSelect => 21
  | .softReset => 22

/-- A queued order, as opposed to an immediate one (R146). -/
def OrderCode.queued : OrderCode → Bool
  | .load | .unload | .rewind | .write | .readFwd | .readBwd | .spaceFwd | .spaceBwd | .erase => true
  | .halt | .flush | .resume | .ack | .ceiling | .profileSelect | .softReset => false

/-- The six orders of the Motion Sequencer chapter (R34). -/
def OrderCode.ofSequencer : OrderCode → Bool
  | .write | .readFwd | .readBwd | .spaceFwd | .spaceBwd | .erase => true
  | _ => false

/-- The five block orders, which have an order context (R8, R34). -/
def OrderCode.ofBlocks : OrderCode → Bool
  | .write | .readFwd | .readBwd | .spaceFwd | .spaceBwd => true
  | _ => false

/-- Direction of a reading or spacing order; the others move forward (R27). -/
def OrderCode.dir : OrderCode → Direction
  | .readBwd | .spaceBwd => .backward
  | _ => .forward

def OrderCode.isRead : OrderCode → Bool
  | .readFwd | .readBwd => true
  | _ => false

def OrderCode.isSpace : OrderCode → Bool
  | .spaceFwd | .spaceBwd => true
  | _ => false

/-- Purpose of the order's own motion (R27). -/
def OrderCode.purpose : OrderCode → Purpose
  | .readFwd | .readBwd => .read
  | .spaceFwd | .spaceBwd => .space
  | .erase => .erase
  | _ => .write

/-- The order that runs, if its code is an order's. -/
def State.runningOrder (s : State) : Option OrderCode := s.runningTaken.bind fun t => orderOfCode t.code

/-- An argument as R146 handles it at commit. -/
structure ArgumentUse where
  /-- taken, or refused BAD_ARGUMENT -/
  accepted : Bool
  /-- the argument as used -/
  used : Nat
  clamped : Bool
  deriving DecidableEq, Repr

/-- An argument from `lo` up, clamped to `hi`; below `lo` it is refused. -/
def boundedArgument (lo hi a : Nat) : ArgumentUse where
  accepted := decide (lo ≤ a)
  used := min a hi
  clamped := decide (hi < a)

/-- Handling of arguments A and B at commit, order by order (R146). `storeSize` is the Profile Store size in force. -/
def argumentOf (o : OrderCode) (a b : Word) (storeSize : Nat) : ArgumentUse :=
  match o with
  | .write | .readFwd | .readBwd => boundedArgument 1 16 a.toNat
  | .spaceFwd | .spaceBwd => boundedArgument 0 65535 a.toNat
  | .erase => boundedArgument 1 65535 a.toNat
  | .ack => { accepted := true, used := a.toNat % 512, clamped := decide (512 ≤ a.toNat) }
  | .ceiling => boundedArgument 0 9 a.toNat
  | .profileSelect =>
    { accepted := decide (b.toNat = Config.allOnes) || (decide (b.toNat % 8 = 0) && decide (b.toNat + 32 ≤ storeSize)),
      used := b.toNat, clamped := false }
  | .load | .unload | .rewind | .halt | .flush | .resume | .softReset => { accepted := true, used := 0, clamped := false }

/-! ### Profile set -/

/-- A segment record from its two words. -/
def segmentOf (w0 w1 : Word) : Segment where
  slope := (w0.extractLsb' 0 16).toInt
  duration := (w0.extractLsb' 16 12).toNat
  last := w0.getLsbD 31
  link := w1.toNat

/-- Header word 0: format version 1 and chain count 6 (R63). -/
def formatOk (w0 : Word) : Bool :=
  decide ((w0.extractLsb' 0 8).toNat = 1) && decide ((w0.extractLsb' 8 8).toNat = 6)

/-- A segment's place: a multiple of 8, with place + 8 not beyond the store (R63, R64). -/
def placeOk (offset storeSize : Nat) : Bool := decide (offset % 8 = 0) && decide (offset + 8 ≤ storeSize)

/-- A segment that a fetch may use (R70). -/
def fetchedOk (g : Segment) (storeSize : Nat) : Bool :=
  decide (g.duration ≠ 0) && (g.last || placeOk g.link storeSize)

/-- The first words of an answer. -/
def firstWords (n : Nat) (ws : Vector Word 8) : List Word := ws.toList.take n

end Sys2Proof.Machine
end

