-- ==== Sys2Proof/Machine/Flags.lean ====
section
/-! DEFINITION. Dirty marks, events and notices: what every block does to the Report Writer (R186, R191, R193, R194). -/

namespace Sys2Proof.Machine

/-- Mark a record dirty: a name not in the dirty list is appended (R186). -/
def mark (n : RecordName) (s : State) : State :=
  s.onReporter fun r => if n ∈ r.dirty then r else { r with dirty := r.dirty ++ [n] }

def markStatus (s : State) : State := mark .status s

/-- Mark STATUS dirty when a shown item that marks it has changed. -/
def markStatusIf (c : Bool) (s : State) : State := if c then markStatus s else s

/-- Event code (12.3). -/
def EventName.code : EventName → Nat
  | .columnFault => 1
  | .vacuumLost => 2
  | .doorOpened => 3
  | .tapeOut => 4
  | .trackingFault => 5
  | .orderFailed => 6
  | .writeCheckFailed => 7
  | .checkMissing => 8
  | .readError => 9
  | .recoveryRetargeted => 10
  | .profileLate => 11
  | .profileMismatch => 12
  | .profileInvalid => 13
  | .profileFetchFault => 14
  | .descriptorInvalid => 15
  | .descriptorConflict => 16
  | .outOfTurnRead => 17
  | .busFault => 18
  | .slotBusy => 19
  | .orderRefused => 20
  | .setupFieldDefaulted => 21
  | .setupGroupADefaulted => 22
  | .setupDeferred => 23
  | .setupReadFault => 24
  | .eotPassed => 25
  | .loadPointReached => 26
  | .longGap => 27
  | .orderDone => 28
  | .formatterNoShow => 29

/-- Notice class of an event (11.2). -/
def EventName.noticeClass : EventName → Fin 9
  | .columnFault | .vacuumLost | .doorOpened | .tapeOut | .trackingFault => 0
  | .orderFailed => 1
  | .writeCheckFailed | .checkMissing | .readError | .recoveryRetargeted => 2
  | .profileLate | .profileMismatch | .profileInvalid | .profileFetchFault => 3
  | .descriptorInvalid | .descriptorConflict | .outOfTurnRead | .busFault | .slotBusy | .orderRefused => 4
  | .setupFieldDefaulted | .setupGroupADefaulted | .setupDeferred | .setupReadFault => 5
  | .eotPassed | .loadPointReached | .longGap => 6
  | .orderDone => 7
  | .formatterNoShow => 8

/-- The set with one class in it: bit c for class c. -/
def classBit (c : Fin 9) : BitVec 9 := BitVec.ofNat 9 (2 ^ c.val)

/-- NOTICE is asserted exactly when some pending class enabled by the mask has a number below the ceiling (R194). -/
def noticeLevel (pendingClasses mask : BitVec 9) (ceiling : Nat) : Bool :=
  (List.range 9).any fun c => pendingClasses.getLsbD c && mask.getLsbD c && decide (c < ceiling)

/-- The line follows its three inputs (R194). -/
def followNotice (s : State) : State :=
  s.onReporter fun r => { r with notice := noticeLevel r.pendingClasses s.loader.groupC.mask r.ceiling }

/-- Replace the pending set; a change marks STATUS dirty, and NOTICE follows (R193, R194). -/
def setPendingClasses (p : BitVec 9) (s : State) : State :=
  followNotice (markStatusIf (decide (p ≠ s.reporter.pendingClasses)) (s.onReporter fun r => { r with pendingClasses := p }))

/-- Replace the ceiling; a change marks STATUS dirty, and NOTICE follows (R194). -/
def setCeiling (c : Nat) (s : State) : State :=
  followNotice (markStatusIf (decide (c ≠ s.reporter.ceiling)) (s.onReporter fun r => { r with ceiling := c }))

/-- The highest pending class: the smallest class number in the set, 9 when it is empty (R193). -/
def highestPending (p : BitVec 9) : Nat :=
  ((List.range 9).find? fun c => p.getLsbD c).getD 9

/-- An event as its raising rule names it (R191). -/
structure Event where
  name : EventName
  slot : Option (Fin 8) := none
  index : Option (Fin 16) := none
  d0 : Word := 0
  d1 : Word := 0
  d2 : Word := 0
  deriving DecidableEq, Repr

/-- Whether the log style stores an event when `stored` positions hold records (R191). -/
def styleStores (style : LogStyle) (stored : Nat) : Bool :=
  match style with
  | .roll => true
  | .keep => decide (stored < 8)
  | .off => false

/-- The dropped count grows, up to its last value; a growth marks STATUS dirty (R191). -/
def dropEvent (s : State) : State :=
  if s.reporter.dropped < Config.sequenceCap then
    markStatus (s.onReporter fun r => { r with dropped := r.dropped + 1 })
  else s

/-- Store a log record at the write index and mark its position dirty (R191). -/
def storeEvent (g : LogRecord) (s : State) : State :=
  mark (.log s.reporter.writeIndex) (s.onReporter fun r =>
    { r with log := r.log.set r.writeIndex (some g), stored := min (r.stored + 1) 8, writeIndex := r.writeIndex + 1 })

/-- Number an event, and store or drop it by the log style (R191). -/
def logEvent (e : Event) (s : State) : State :=
  if s.reporter.nextSeq < Config.sequenceCap then
    let n := s.reporter.nextSeq
    let s1 := s.onReporter fun r => { r with nextSeq := n + 1 }
    if styleStores s.loader.groupC.style s.reporter.stored then
      storeEvent { seq := n, event := e.name, slot := e.slot, index := e.index, t := s.tapePos, d0 := e.d0, d1 := e.d1, d2 := e.d2 } s1
    else dropEvent s1
  else dropEvent s

/-- Raise an event: LOG_HEADER becomes dirty, the log takes it, and its class becomes pending (R191, R193). -/
def raise (e : Event) (s : State) : State :=
  let s1 := logEvent e (mark .logHeader s)
  setPendingClasses (s1.reporter.pendingClasses ||| classBit e.name.noticeClass) s1

/-- Raise an event of block record i: the slot is shown when the record's order slot is present (12.2). -/
def raiseBlock (e : EventName) (i : Fin 16) (d0 d1 : Word) (s : State) : State :=
  raise { name := e, slot := (s.record i).slot, index := some i, d0 := d0, d1 := d1 } s

/-- A pair "a | b" of 12.3: a in bits 7:0 and b in bits 15:8. -/
def packPair (a b : Nat) : Word := wordOfNat (a % 256 + 256 * (b % 256))

/-- The thirty-five names in word-offset order (R190). -/
def allRecords : List RecordName :=
  [.identity, .status] ++ (List.finRange 8).map .result ++ (List.finRange 16).map .block ++ [.logHeader] ++ (List.finRange 8).map .log

/-- Publication of a log style: KEEP empties the stored log (R192). -/
def publishStyle (style : LogStyle) (s : State) : State :=
  match style with
  | .keep =>
    let zero : List Word := List.replicate 8 0
    let s1 := s.onReporter fun r =>
      { r with log := Vector.replicate 8 none, stored := 0, writeIndex := 0,
               images := (List.finRange 8).foldl (fun im p => im.set (RecordName.log p).index zero) r.images }
    mark .logHeader ((List.finRange 8).foldl (fun a p => mark (.log p) a) s1)
  | .roll | .off => s

end Sys2Proof.Machine
end

