-- ==== Sys2Proof/Machine/Ports.lean ====
section
/-! DEFINITION. The two ports: answers at the upper port, own claims, and the arbiter of the lower port (chapter 9). -/

namespace Sys2Proof.Machine

/-! ### Claims (R169) -/

def OwnAccess.isFetch : OwnAccess → Bool
  | .fetch _ _ => true
  | _ => false

def OwnAccess.isCharact : OwnAccess → Bool
  | .charact _ _ => true
  | _ => false

def OwnAccess.isSetup : OwnAccess → Bool
  | .setup _ _ => true
  | _ => false

def OwnAccess.isSweep : OwnAccess → Bool
  | .sweep _ => true
  | _ => false

def OwnAccess.isReport : OwnAccess → Bool
  | .report _ _ => true
  | _ => false

/-- Characterization, setup and sweep reads: one service class. -/
def OwnAccess.isClassRead (a : OwnAccess) : Bool := a.isCharact || a.isSetup || a.isSweep

/-- An own claim is made: it waits, youngest, with pass-over count 0 (R171). -/
def makeClaim (a : OwnAccess) (urgent : Bool) (s : State) : State :=
  s.onPath fun p => { p with claims := p.claims ++ [{ access := a, urgent := urgent, passOver := 0 }] }

/-- The transaction at the lower port, its answer to be discarded when its claim is among those withdrawn (R162). -/
def PortTxn.discardIf (f : OwnAccess → Bool) : PortTxn → PortTxn
  | .passThrough => .passThrough
  | .own a addr d => .own a addr (d || f a)

/-- Claims are withdrawn, waiting or at memory (R169). -/
def withdrawClaims (f : OwnAccess → Bool) (s : State) : State :=
  s.onPath fun p => { p with claims := p.claims.filter fun c => !f c.access, port := p.port.map (PortTxn.discardIf f) }

/-- The waiting profile fetch becomes urgent (R70). -/
def urgeFetch (s : State) : State :=
  s.onPath fun p => { p with claims := p.claims.map fun c => if c.access.isFetch then { c with urgent := true } else c }

/-- Some own access of a kind waits or is at memory with its answer still wanted. -/
def outstanding (f : OwnAccess → Bool) (s : State) : Bool :=
  s.path.claims.any (fun c => f c.access) ||
    match s.path.port with
    | some (.own a _ false) => f a
    | _ => false

/-! ### Upper port -/

/-- An answer is given at the upper port (R161). -/
def answerUpper (a : BusAnswer) (s : State) : State :=
  s.onPath fun p => { p with upper := none, answers := p.answers ++ [a] }

/-- The answers shown begin anew: the upper port takes a command of the deck bus or of memory (log 25). -/
def clearAnswers (s : State) : State := s.onPath fun p => { p with answers := [] }

/-- A read is being held (R168). -/
def State.holding (s : State) : Bool :=
  match s.path.upper with
  | some ⟨_, .held _⟩ => true
  | _ => false

/-- A held read is answered RETRY (R168). -/
def retryHeld (s : State) : State := if s.holding then answerUpper .retry s else s

/-- A transaction becomes the pass-through claim (R161, R167). -/
def passClaim (t : BusTxn) (s : State) : State :=
  s.onPath fun p => { p with upper := some { txn := t, stage := .claimed } }

/-- The held read becomes the pass-through claim (R168). -/
def releaseHeld (s : State) : State :=
  match s.path.upper with
  | some ⟨t, .held _⟩ => passClaim t s
  | _ => s

/-! ### Arbiter (R170, R171) -/

/-- The eight shadow words that the k-th sweep read covers: pieces 0 to 7 are the ring's, 8 to 11 the slots'. The reads are
made in address order (R172), so the window that the map puts lower is read first. -/
def sweepPiece (g : GroupA) (k : Nat) : Nat := if g.ringBase ≤ g.slotBase then k else if k < 4 then k + 8 else k - 4

/-- Address of a piece of the sweep (R172). -/
def pieceAddr (g : GroupA) (j : Nat) : Nat := if j < 8 then g.ringBase + 32 * j else g.slotBase + 32 * (j - 8)

/-- Address of an own access, formed from the Window Map in force (R169). -/
def accessAddr (g : GroupA) : OwnAccess → Nat
  | .fetch o _ => g.storeBase + o
  | .charact o _ => g.storeBase + o
  | .setup w _ => 4 * w
  | .sweep k => pieceAddr g (sweepPiece g k)
  | .report w _ => g.reportBase + 4 * w

/-- What a turn serves. -/
inductive Turn where
  | pass
  | own (c : OwnClaim)
  deriving DecidableEq, Repr

/-- The pass-through claim waits. -/
def Path.passWaits (p : Path) : Bool :=
  match p.upper with
  | some ⟨_, .claimed⟩ => true
  | _ => false

/-- The first claim of rows 4, 5 and 6 of R170 among some claims, oldest first in each row. -/
def firstByRow (cs : List OwnClaim) : Option OwnClaim :=
  (cs.find? fun c => c.access.isFetch) <|>
  (cs.find? fun c => c.access.isClassRead) <|>
  (cs.find? fun c => c.access.isReport)

/-- The claim that a turn serves (R170). -/
def nextTurn (p : Path) (limit : Nat) : Option Turn :=
  match p.claims.find? fun c => c.access.isFetch && c.urgent with
  | some c => some (.own c)
  | none =>
    match firstByRow (p.claims.filter fun c => decide (limit ≤ c.passOver)) with
    | some c => some (.own c)
    | none => if p.passWaits then some .pass else (firstByRow p.claims).map .own

/-- A turn is granted: the lower port becomes BUSY (R162, R170, R171). -/
def grant (t : Turn) (s : State) : State :=
  match t with
  | .pass =>
    s.onPath fun p =>
      { p with port := some .passThrough, upper := p.upper.map fun u => { u with stage := .atMemory },
               claims := p.claims.map fun c => { c with passOver := c.passOver + 1 } }
  | .own c =>
    s.onPath fun p =>
      { p with port := some (.own c.access (accessAddr s.loader.groupA c.access) false), claims := p.claims.erase c }

/-- The arbiter grants a turn when the lower port is FREE and a claim waits (R170). -/
def arbitrate (s : State) : State :=
  match s.path.port with
  | some _ => s
  | none =>
    match nextTurn s.path s.loader.groupA.passLimit with
    | some t => grant t s
    | none => s

/-- The lower port becomes FREE (R162). -/
def freePort (s : State) : State := s.onPath fun p => { p with port := none }

end Sys2Proof.Machine
end

