-- ==== Sys2Proof/Machine/Generator.lean ====
section
/-! DEFINITION. The Profile Generator's references, chains and requests (chapter 3, but for characterization). -/

namespace Sys2Proof.Machine

/-! ### Chains and the built-in profile (R59, R61) -/

def Chain.isStart : Chain → Bool
  | .start | .creepStart | .rewindStart => true
  | .stop | .creepStop | .rewindStop => false

/-- The chain's speed: the target of a start chain, the beginning of a stop chain. -/
def chainSpeed (g : GroupB) : Chain → Nat
  | .start | .stop => g.vRec
  | .creepStart | .creepStop => g.vCreep
  | .rewindStart | .rewindStop => g.vRew

def chainTarget (g : GroupB) (c : Chain) : Nat := if c.isStart then chainSpeed g c else 0

/-- V at the chain's beginning, for characterization. -/
def chainBegin (g : GroupB) (c : Chain) : Nat := if c.isStart then 0 else chainSpeed g c

/-- Length of a built-in chain in servo samples. -/
def builtInLength : Chain → Nat
  | .rewindStart | .rewindStop => 1024
  | .start | .stop | .creepStart | .creepStop => 16

/-- Slope magnitude of a built-in chain: s or r. -/
def builtInSlope (g : GroupB) (c : Chain) : Nat := chainSpeed g c / builtInLength c

/-- The one segment of a built-in chain. -/
def builtInSegment (g : GroupB) (c : Chain) : Segment where
  slope := if c.isStart then (builtInSlope g c : Int) else -(builtInSlope g c : Int)
  duration := builtInLength c
  last := true
  link := 0

/-- Distance in fine units of a built-in chain. -/
def builtInFine (g : GroupB) (c : Chain) : Nat :=
  match c with
  | .start | .creepStart => 120 * builtInSlope g c + chainSpeed g c
  | .stop | .creepStop => 15 * chainSpeed g c - 120 * builtInSlope g c
  | .rewindStart => 523776 * builtInSlope g c + chainSpeed g c
  | .rewindStop => 1023 * chainSpeed g c - 523776 * builtInSlope g c

/-- The six distances of the built-in profile for the targets in force. -/
def builtInDistances (g : GroupB) : Vector Nat 6 :=
  #v[ceilDiv (builtInFine g .start) 256, ceilDiv (builtInFine g .stop) 256, ceilDiv (builtInFine g .creepStart) 256,
     ceilDiv (builtInFine g .creepStop) 256, ceilDiv (builtInFine g .rewindStart) 256, ceilDiv (builtInFine g .rewindStop) 256]

/-- The built-in profile as an active set (R60). -/
def builtInSet (g : GroupB) : ActiveSet where
  source := none
  label := 0
  heads := Vector.replicate 6 0
  distances := builtInDistances g

/-- The stop chain that a cruise begun by a start chain ends with (R70). -/
def companionOf : Chain → Chain
  | .start | .stop => .stop
  | .creepStart | .creepStop => .creepStop
  | .rewindStart | .rewindStop => .rewindStop

/-! ### References (R58) -/

/-- V changes: it is clamped to 0 to Vlimit, and a change marks STATUS dirty. -/
def setV (v : Int) (s : State) : State :=
  let v' := (clampInt 0 Config.vLimit v).toNat
  markStatusIf (decide (v' ≠ s.generator.v)) (s.onGenerator fun g => { g with v := v' })

/-- The index capture of a reel with its broken flag set (R86). -/
def breakCapture (r : ReelServo) : ReelServo := { r with capture := { r.capture with broken := true } }

/-- The direction of motion changes or becomes absent: both broken flags are set (R58, R86). -/
def setGenDir (d : Option Direction) (s : State) : State :=
  if d = s.generator.dir then s
  else (s.onGenerator fun g => { g with dir := d }).onServos fun v =>
    { v with supply := breakCapture v.supply, takeup := breakCapture v.takeup }

/-- P follows V for one servo sample (R58). -/
def advanceP (s : State) : State :=
  s.onGenerator fun g =>
    match g.dir with
    | some .forward => { g with p := g.p + g.v }
    | some .backward => { g with p := g.p - g.v }
    | none => g

/-! ### Fetches (R70) -/

/-- A claim for a segment of the Profile Store. -/
def claimFetch (offset : Nat) (head : Option Chain) (urgent : Bool) (s : State) : State :=
  makeClaim (.fetch offset head) urgent s

/-- The head of a chain of the active set is claimed. -/
def claimHead (c : Chain) (urgent : Bool) (s : State) : State :=
  claimFetch s.generator.active.heads[c.index] (some c) urgent s

/-- The running chain is dropped with its working segment, reload slot and claim (R70). -/
def dropChain (s : State) : State :=
  withdrawClaims OwnAccess.isFetch (s.onGenerator fun g => { g with run := none, working := none, reload := none })

/-- A segment is late (R71): a chain runs, nothing is working and no trim runs. -/
def Generator.isLate (g : Generator) : Bool :=
  match g.mode, g.run, g.working with
  | .accel, some r, none | .decel, some r, none => !r.trim
  | _, _, _ => false

/-- A normal claim becomes urgent (R70): the reload slot is empty, and the working segment has 4 or fewer samples left
or a segment is late. -/
def refreshUrgency (s : State) : State :=
  let g := s.generator
  let short := match g.working with
    | some w => decide (w.duration ≤ 4)
    | none => false
  if g.reload.isNone && (short || g.isLate) then urgeFetch s else s

/-- A fetched segment becomes working; when it is not the last, the segment at its link is claimed (R69, R70). -/
def beginSegment (w : Segment) (s : State) : State :=
  let s1 := s.onGenerator fun g =>
    { g with working := some w, reload := none,
             run := g.run.map fun r => { r with segments := r.segments + 1, lateRaised := false } }
  if w.last then s1 else claimFetch w.link none false s1

/-! ### Beginnings and ends of chains -/

/-- A chain with fresh counts (R69). -/
def newChain (c : Chain) (target : Nat) (builtIn toCreep : Bool) : RunningChain where
  chain := c
  target := target
  segments := if builtIn then 1 else 0
  late := 0
  trim := false
  builtIn := builtIn
  toCreep := toCreep
  lateRaised := false

/-- A start chain is taken in HOLD with no characterization running (R74). -/
def beginStart (q : StartRequest) (s : State) : State :=
  let s1 := setGenDir (some q.dir) (dropChain s)
  let t := chainTarget s.groupB q.chain
  match s.generator.active.source with
  | none =>
    s1.onGenerator fun g =>
      { g with mode := .accel, run := some (newChain q.chain t true false), working := some (builtInSegment s.groupB q.chain) }
  | some _ => claimHead q.chain true (s1.onGenerator fun g => { g with run := some (newChain q.chain t false false) })

/-- A characterization runs, or a LOAD's settlement waits to begin: a start request waits in HOLD (R67, R74, log 31). -/
def Generator.settling (g : Generator) : Bool := g.charact.isSome || g.loadSet.isSome

/-- A waiting start request is taken when the generator is in HOLD and no characterization runs (R74). -/
def takeWaiting (s : State) : State :=
  match s.generator.waiting, s.generator.mode, s.generator.settling with
  | some q, .hold, false => beginStart q (s.onGenerator fun g => { g with waiting := none })
  | _, _, _ => s

/-- A stop or fallback stop ends (R69, R72). -/
def endStop (s : State) : State :=
  let s1 := setGenDir none (setV 0 (dropChain s))
  takeWaiting ((s1.onGenerator fun g => { g with mode := .hold }).signal .stopEnd)

/-- The generator enters CRUISE and claims the head of the companion stop chain (R70). -/
def enterCruise (companion : Chain) (s : State) : State :=
  let s1 := (dropChain s).onGenerator fun g => { g with mode := .cruise }
  match s1.generator.active.source with
  | none => s1
  | some _ => claimHead companion false s1

/-- The chain is at its target (R69, R73, R76). -/
def endChain (r : RunningChain) (s : State) : State :=
  if r.toCreep then (enterCruise .creepStop s).signal .creepReached
  else if r.chain.isStart then (enterCruise (companionOf r.chain) s).signal .startEnd
  else endStop s

/-- A chain is abandoned to the fallback stop (R72). -/
def abandonChain (s : State) : State :=
  let stopping := match s.generator.run with
    | some r => !r.chain.isStart && !r.toCreep
    | none => false
  let f := ceilDiv s.generator.v 16
  let s1 := ((dropChain s).onGenerator fun g => { g with mode := .fallback, fallSlope := f }).signal (.profileFault stopping)
  if s.generator.v = 0 then endStop s1 else s1

/-! ### Requests (R74 to R77) -/

/-- Start request (R74). One taken in a deceleration to creep, of which R74 has no row, waits as in a stop toward 0, past
creep reached too, until a stop ends or a stop request cancels it (DESIGN CHOICE, log 40). -/
def startRequest (c : Chain) (d : Direction) (s : State) : State :=
  let q : StartRequest := { chain := c, dir := d }
  match s.generator.mode with
  | .hold => if s.generator.settling then s.onGenerator fun g => { g with waiting := some q } else beginStart q s
  | .decel | .fallback => s.onGenerator fun g => { g with waiting := some q }
  | .accel | .cruise => s

/-- A stop chain begins from the present V, its segments awaited (R75). With the built-in profile its segment works from
the next servo sample. -/
def beginStop (c : Chain) (toCreep : Bool) (s : State) : State :=
  let target := if toCreep then s.groupB.vCreep else 0
  match s.generator.active.source with
  | none =>
    s.onGenerator fun g =>
      { g with mode := .decel, run := some (newChain c target true toCreep), working := some (builtInSegment s.groupB c),
               reload := none }
  | some _ => s.onGenerator fun g =>
      { g with mode := .decel, run := some (newChain c target false toCreep), working := none, reload := none }

/-- A stop chain begins from CRUISE: the head in the reload slot works from the next servo sample; a fetch of that head
still outstanding is kept, urgent (log 18); otherwise the head is claimed urgent (R70, R75). -/
def stopFromCruise (c : Chain) (toCreep : Bool) (s : State) : State :=
  let s1 := beginStop c toCreep s
  match s.generator.active.source with
  | none => withdrawClaims OwnAccess.isFetch s1
  | some _ =>
    let mine : OwnAccess → Bool := fun a =>
      match a with
      | .fetch _ h => decide (h = some c)
      | _ => false
    match s.generator.reload with
    | some ⟨w, h⟩ =>
      if h = some c then refreshUrgency (beginSegment w s1) else claimHead c true (withdrawClaims OwnAccess.isFetch s1)
    | none => if outstanding mine s then urgeFetch s1 else claimHead c true (withdrawClaims OwnAccess.isFetch s1)

/-- A stop chain begins in ACCEL: the start chain is dropped with its reload slot and claim (R75). -/
def stopFromAccel (c : Chain) (toCreep : Bool) (s : State) : State :=
  let s1 := beginStop c toCreep (dropChain s)
  match s.generator.active.source with
  | none => s1
  | some _ => claimHead c true s1

/-- Stop request (R75). It cancels a start request that waits in every mode, as R74 says, where the rows of R75 and R72 for
a stop toward 0 and a fallback stop say that it has no effect (DESIGN CHOICE, log 40). -/
def stopRequest (c : Chain) (s : State) : State :=
  let s0 := s.onGenerator fun g => { g with waiting := none }
  match s.generator.mode with
  | .hold => (setGenDir none (dropChain s0)).signal .stopEnd
  | .accel => stopFromAccel c false s0
  | .cruise => stopFromCruise c false s0
  | .decel => s0.onGenerator fun g =>
      { g with run := g.run.map fun r => if r.toCreep then { r with toCreep := false, target := 0 } else r }
  | .fallback => s0

/-- The move toward creep begun at or below Vcreep (R76). -/
def trimToCreep (s : State) : State :=
  (dropChain s).onGenerator fun g =>
    { g with mode := .accel, run := some { newChain .creepStart s.groupB.vCreep false true with trim := true } }

/-- Deceleration to creep (R76). -/
def decelToCreep (s : State) : State :=
  match s.generator.mode with
  | .cruise => stopFromCruise .rewindStop true s
  | .accel => if s.groupB.vCreep < s.generator.v then stopFromAccel .rewindStop true s else trimToCreep s
  | .hold => if s.generator.run.isSome then trimToCreep s else s
  | .decel | .fallback => s

/-- Drop: the references come to rest and nothing is reported (R77). -/
def dropMotion (s : State) : State :=
  (setGenDir none (setV 0 (dropChain s))).onGenerator fun g => { g with mode := .hold, waiting := none }

/-! ### Sample work (R57, R69, R71 to R73) -/

/-- A chain that has run out of segments above or below its target is trimmed (R73). -/
def beginTrim (r : RunningChain) (s : State) : State :=
  let s1 := raise { name := .profileMismatch, d0 := wordOfNat r.chain.index.val, d1 := wordOfNat r.target, d2 := wordOfNat s.generator.v } s
  (dropChain s1).onGenerator fun g => { g with run := some { r with trim := true } }

/-- One sample of a trim (R73). -/
def trimSample (r : RunningChain) (s : State) : State :=
  let m := builtInSlope s.groupB r.chain
  let v := s.generator.v
  if v ≤ r.target + m ∧ r.target ≤ v + m then endChain r (setV r.target s)
  else if r.target < v then setV ((v : Int) - m) s
  else setV ((v : Int) + m) s

/-- Tests 4 and 5 of R69, made when the working segment's duration has run out. -/
def segmentOver (r : RunningChain) (w : Segment) (s : State) : State :=
  if w.last || decide (Config.maxSegments ≤ r.segments) then
    if s.generator.v = r.target then endChain r s else beginTrim r s
  else
    match s.generator.reload with
    | some q => beginSegment q.segment s
    | none => s.onGenerator fun g => { g with working := none }

/-- One sample of the working segment, with the five tests of R69. -/
def segmentSample (r : RunningChain) (w : Segment) (s : State) : State :=
  let s1 := setV ((s.generator.v : Int) + w.slope) s
  if !r.chain.isStart && !r.toCreep && decide (s1.generator.v = 0) then endStop s1
  else
    let left := w.duration - 1
    let s2 := if r.builtIn && decide (left = 0) then setV r.target s1 else s1
    if r.toCreep && decide (s2.generator.v ≤ r.target) then endChain r (setV r.target s2)
    else if left = 0 then segmentOver r w s2
    else s2.onGenerator fun g => { g with working := some { w with duration := left } }

/-- A late sample (R71): V is held; the eighth of the chain abandons it. -/
def lateSample (r : RunningChain) (s : State) : State :=
  let n := r.late + 1
  let event (abandoned : Nat) : Event :=
    { name := .profileLate, d0 := wordOfNat r.chain.index.val, d1 := wordOfNat n, d2 := wordOfNat abandoned }
  let s1 := s.onGenerator fun g => { g with run := some { r with late := n, lateRaised := true } }
  let s2 := if r.lateRaised then s1 else raise (event 0) s1
  if Config.lateLimit ≤ n then abandonChain (raise (event 1) s2) else s2

/-- The sample work on V (R57, R68). -/
def stepV (s : State) : State :=
  match s.generator.mode with
  | .hold => s
  | .cruise => s
  | .fallback =>
    let s1 := setV ((s.generator.v : Int) - s.generator.fallSlope) s
    if s1.generator.v = 0 then endStop s1 else s1
  | .accel | .decel =>
    match s.generator.run with
    | none => s
    | some r =>
      if r.trim then trimSample r s
      else
        match s.generator.working, s.generator.reload with
        | some w, _ => segmentSample r w s
        | none, some q =>
          segmentSample { r with segments := r.segments + 1, lateRaised := false } q.segment (beginSegment q.segment s)
        | none, none => lateSample r s

/-- In HOLD with the drive OFF, P follows the tape (R58). -/
def followTape (s : State) : State :=
  if s.generator.mode = .hold ∧ s.servos.driveMode = .off then
    s.onGenerator fun g => { g with p := 256 * s.servos.t }
  else s

/-- The generator's work of one servo sample: V, then P (R57, R58). -/
def generatorSample (s : State) : State := refreshUrgency (followTape (advanceP (stepV s)))

/-! ### Arrivals (R70, R72, R74) -/

/-- A fetch failed: PROFILE_FETCH_FAULT with the address, and outside CRUISE the chain is abandoned. -/
def fetchFailed (addr : Nat) (bad : Bool) (s : State) : State :=
  let s1 := raise { name := .profileFetchFault, d0 := wordOfNat addr, d1 := if bad then 2 else 1 } s
  match s.generator.mode with
  | .cruise => s1
  | .hold | .accel | .decel | .fallback => if s.generator.run.isSome then abandonChain s1 else s1

/-- A fetched segment arrives: the head of a start chain awaited in HOLD begins the chain; every other segment goes to the
reload slot. -/
def segmentArrives (w : Segment) (head : Option Chain) (s : State) : State :=
  match s.generator.mode with
  | .hold => refreshUrgency (beginSegment w (s.onGenerator fun g => { g with mode := .accel }))
  | .accel | .cruise | .decel | .fallback => s.onGenerator fun g => { g with reload := some { segment := w, head := head } }

/-- The answer to a segment fetch whose claim still stands. -/
def fetchAnswered (addr : Nat) (head : Option Chain) (answer : OwnAnswer) (s : State) : State :=
  match answer with
  | .fault => fetchFailed addr false s
  | .done ws =>
    let w := segmentOf ws[0] ws[1]
    if fetchedOk w s.loader.groupA.storeSize then segmentArrives w head s else fetchFailed addr true s

end Sys2Proof.Machine
end

