-- ==== Sys2Proof/Machine/Results.lean ====
section
/-! DEFINITION. Order results and the Order Queue (8.3, 8.4). -/

namespace Sys2Proof.Machine

/-- A slot's result changes, and its record is marked dirty (R147). -/
def setResult (i : Fin 8) (f : OrderResult → OrderResult) (s : State) : State :=
  mark (.result i) (s.onIntake fun k => { k with results := k.results.set i (f k.results[i]) })

/-- The event detail that names an order: code and sequence (12.3). -/
def orderDetail (r : OrderResult) : Word := packPair r.code r.seq

/-- The event of a final outcome, ORDER_DONE or ORDER_FAILED (R148). -/
def outcomeEvent (o : Outcome) : EventName :=
  match o with
  | .done | .doneMark | .doneLoadPoint => .orderDone
  | _ => .orderFailed

/-- A result becomes final by its order's end, and the event of R148 is raised. -/
def finishResult (i : Fin 8) (o : Outcome) (rsn : Reason) (blocks : Nat) (s : State) : State :=
  let s1 := setResult i (fun r => { r with outcome := o, reason := rsn, blocks := blocks, finalT := s.tapePos }) s
  raise { name := outcomeEvent o, slot := some i, d0 := orderDetail s1.intake.results[i], d1 := packPair o.code rsn.code } s1

/-- A result becomes CANCELLED; no event (R148). Its final T is T at the cancelling (log 33). -/
def cancelResult (i : Fin 8) (rsn : Reason) (s : State) : State :=
  setResult i (fun r => { r with outcome := .cancelled, reason := rsn, finalT := s.tapePos }) s

/-- The queue changes; a change of its length marks STATUS dirty (R149). -/
def setQueue (q : List (Fin 8)) (s : State) : State :=
  markStatusIf (decide (q.length ≠ s.intake.queue.length)) (s.onIntake fun k => { k with queue := q })

/-- The queue state changes (R149). -/
def setSuspended (b : Bool) (s : State) : State :=
  markStatusIf (decide (b ≠ s.intake.suspended)) (s.onIntake fun k => { k with suspended := b })

/-- The running slot changes (R149). -/
def setRunning (r : Option (Fin 8)) (s : State) : State :=
  markStatusIf (decide (r ≠ s.intake.running)) (s.onIntake fun k => { k with running := r })

/-- An order's outcome suspends the queue (R149, R151). -/
def Outcome.suspends : Outcome → Bool
  | .failed | .aborted => true
  | _ => false

/-- The running order has ended: its result, the running slot, the queue state (R151). Nothing when no order runs. -/
def reportEnd (o : Outcome) (rsn : Reason) (blocks : Nat) (s : State) : State :=
  match s.intake.running with
  | none => s
  | some i =>
    let s1 := setRunning none (finishResult i o rsn blocks s)
    if o.suspends then setSuspended true s1 else s1

/-- Results of every queued slot become CANCELLED in queue order, and the queue is emptied (R153, R158). -/
def cancelQueue (rsn : Reason) (s : State) : State :=
  setQueue [] (s.intake.queue.foldl (fun a i => cancelResult i rsn a) s)

/-- A free value for a field that the spec leaves open (log 14). -/
def takeFree (s : State) : Int × State :=
  (Config.openFinalT s.freeCount, s.setFreeCount (s.freeCount + 1))

/-- The head of the queue is handed to the Motion Sequencer: it leaves the queue, its result is RUNNING and its slot is the
running slot (R150). -/
def handOver (i : Fin 8) (rest : List (Fin 8)) (s : State) : State :=
  let (t, s1) := takeFree s
  setRunning (some i) (setResult i (fun r => { r with outcome := .running, finalT := t }) (setQueue rest s1))

/-- The conditions of R150 for a hand-over, and the head. -/
def handOverDue (s : State) : Option (Fin 8 × List (Fin 8)) :=
  if s.intake.suspended || s.intake.running.isSome || s.path.sweep.isSome then none
  else
    match s.intake.queue with
    | [] => none
    | i :: rest => some (i, rest)

end Sys2Proof.Machine
end

