-- ==== Sys2Proof/Machine/Transport.lean ====
section
/-! DEFINITION. The transport state and what follows it: drive mode, brake, refresh timer, window (R26, R81, R82, R97, R189);
the rebase (R80). -/

namespace Sys2Proof.Machine

/-- The drive mode that a transport state and phase select (R81). -/
def driveModeOf (t : Transport) (p : Option Phase) : DriveMode :=
  match t with
  | .unthreaded | .faulted => .off
  | .loading => if p = some .vacuum then .off else if p = some .loops then .loopHold else .follow
  | .unloading => if p = some .release then .wind else .follow
  | .stopped | .starting | .running | .stopping | .rewinding => .follow

/-- A motion of the sequencer's chapter, with direction and purpose (R27). -/
def Transport.moves : Transport → Bool
  | .starting | .running | .stopping => true
  | _ => false

/-- A motion not yet stopping (R28). -/
def Transport.underway : Transport → Bool
  | .starting | .running => true
  | _ => false

/-- The states in which the refresh timer runs (R189). -/
def Transport.refreshes : Transport → Bool
  | .stopped | .unthreaded | .faulted => false
  | _ => true

/-- Both index captures cleared (R86). -/
def clearCaptures (s : State) : State :=
  s.onServos fun v =>
    { v with supply := { v.supply with capture := IndexCapture.clear }, takeup := { v.takeup with capture := IndexCapture.clear } }

/-- The drive mode changes: the tracking count is cleared, BRAKE follows OFF, and an entry to OFF clears the captures
(R81, R82, R84, R86). -/
def setDriveMode (d : DriveMode) (s : State) : State :=
  if d = s.servos.driveMode then s
  else
    let s1 := markStatus (s.onServos fun v => { v with driveMode := d, tracking := 0, brake := decide (d = .off) })
    if d = .off then clearCaptures s1 else s1

/-- Both window persistence counts become 0 (R97, R99), and so does a count that a stop has cut off (log 37). -/
def clearWindowCounts (s : State) : State :=
  s.onSensors fun n =>
    { n with supply := { n.supply with outside := 0, cut := none }, takeup := { n.takeup with outside := 0, cut := none } }

/-- The window-armed flag is set or cleared (R97). -/
def armWindow (b : Bool) (s : State) : State :=
  markStatusIf (decide (b ≠ s.sensors.windowArmed)) (clearWindowCounts (s.onSensors fun n => { n with windowArmed := b }))

/-- The refresh timer follows the transport state (R189). -/
def followRefresh (t : Transport) (s : State) : State :=
  s.onReporter fun r =>
    { r with refreshTimer := if t.refreshes then (r.refreshTimer <|> some s.loader.groupC.refresh) else none }

/-- What the sequencer holds once the transport is in a state (R26, R27, R127, R138, R141). -/
def sequencerIn (t : Transport) (p : Option Phase) (q : Sequencer) : Sequencer :=
  let left := decide (t ≠ q.transport)
  { q with
    transport := t
    phase := p
    dir := if t.moves then q.dir else none
    purpose := if t.moves then q.purpose else none
    trusted := q.trusted && decide (t ≠ .faulted)
    vacuumRequest := q.vacuumRequest && decide (t ≠ .unthreaded)
    rewindStep := if left || decide (p ≠ some .rewind) then none else q.rewindStep
    seekOrigin := if left then none else q.seekOrigin
    seekLeg := if left then none else q.seekLeg
    leaderStart := if left then none else q.leaderStart
    phaseTimer := if left then none else q.phaseTimer
    haltStop := q.haltStop && t.refreshes
    loadStage := if p = some .vacuum then q.loadStage else .idle }

/-- What an emergency stop left to watch for a second cause is dropped as FAULTED is left (R92, R102, log 37). -/
def endLossWatch (left : Bool) (s : State) : State :=
  if left then
    s.onSensors fun n =>
      { n with lossWatch := false, supply := { n.supply with cut := none }, takeup := { n.takeup with cut := none } }
  else s

/-- The transport takes a state and phase, with everything that changes in the same event. -/
def setTransport (t : Transport) (p : Option Phase) (s : State) : State :=
  let changed := decide (t ≠ s.sequencer.transport) || decide (p ≠ s.sequencer.phase)
  let s1 := markStatusIf changed (s.onSequencer (sequencerIn t p))
  let s2 := endLossWatch (decide (s.sequencer.transport = .faulted)) (followRefresh t (setDriveMode (driveModeOf t p) s1))
  if t = .unthreaded ∨ t = .faulted then armWindow false s2 else s2

/-- A timer of LOADING or UNLOADING starts with a limit in ms (R130, R131, R140). -/
def startPhaseTimer (ms : Nat) (s : State) : State := s.onSequencer fun q => { q with phaseTimer := some ms }

/-- An index capture moved by a rebase (R80). -/
def shiftCapture (t : Int) (r : ReelServo) : ReelServo :=
  { r with capture := { r.capture with ref := r.capture.ref.map fun c => { c with pos := c.pos - t } } }

/-- The rebase (R80): T becomes 0; P, the captures and the EOT coordinate move with it. -/
def rebase (s : State) : State :=
  let t := s.servos.t
  let s1 := s.onServos fun v => { v with t := 0, supply := shiftCapture t v.supply, takeup := shiftCapture t v.takeup }
  let s2 := s1.onGenerator fun g => { g with p := g.p - 256 * t }
  markStatus (s2.onSequencer fun q => { q with eot := q.eot.map fun c => c - t })

/-- The gap anchor is set (R30). -/
def setAnchor (a : Int) (k : GapKind) (s : State) : State := s.onSequencer fun q => { q with anchor := a, gapKind := k }

/-- The tape is at the load point: A is 0 with kind LOAD_POINT (R30). -/
def anchorAtLoadPoint (s : State) : State := setAnchor 0 .loadPoint s

end Sys2Proof.Machine
end

