-- ==== Sys2Proof/Machine/Tracker.lean ====
section
/-! DEFINITION. The Block Tracker: records, cursors, order context, requests and rollbacks (chapter 1). -/

namespace Sys2Proof.Machine

/-! ### Records and counts (R3, R8) -/

/-- The index that lies j places up the ring (R6, R8). -/
def ringAdd (i : Fin 16) (j : Nat) : Fin 16 := i + Fin.ofNat 16 j

/-- Indexes of the records of an order, earliest first (R8). -/
def OrderContext.indexes (c : OrderContext) : List (Fin 16) := (List.range c.span).map fun j => ringAdd c.first j

/-- RECORDING, AWAIT_CHECK or VERIFIED (R8). -/
def BlockState.placed : BlockState → Bool
  | .recording | .awaitCheck | .verified => true
  | _ => false

/-- The placed and done counts of a WRITE are recounted (R8). -/
def recount (s : State) : State :=
  s.onTracker fun k =>
    { k with context := k.context.map fun c =>
        if c.write then
          { c with placed := (c.indexes.filter fun i => k.records[i].state.placed).length,
                   done := (c.indexes.filter fun i => decide (k.records[i].state = .verified)).length }
        else c }

/-- A record changes: a change of a shown field marks its block report dirty, and the order's counts follow (R3, R8). -/
def setRecord (i : Fin 16) (r : BlockRecord) (s : State) : State :=
  let old := s.record i
  let changed := decide ({ r with checkTimer := none } ≠ { old with checkTimer := none })
  let s1 := s.onTracker fun k => { k with records := k.records.set i r }
  recount (if changed then mark (.block i) s1 else s1)

/-- A record becomes FREE with the values of R3. -/
def freeRecord (i : Fin 16) (s : State) : State := setRecord i BlockRecord.blank s

/-- A record rolled back to FILLED (R3, R109). -/
def rolledBack (r : BlockRecord) : BlockRecord := { r with state := .filled, checkTimer := none }

/-- Records of a list are rolled back to FILLED; a held first-word read is answered RETRY (R23, R24). -/
def rollBackAll (is : List (Fin 16)) (s : State) : State :=
  retryHeld (is.foldl (fun a i => setRecord i (rolledBack (a.record i)) a) s)

/-- The record cursor is set. -/
def setRecordCursor (i : Fin 16) (s : State) : State := s.onTracker fun k => { k with recordCursor := i }

/-- The records of the running WRITE order, earliest first. -/
def State.orderIndexes (s : State) : List (Fin 16) :=
  match s.tracker.context with
  | some c => if c.write then c.indexes else []
  | none => []

/-- The order context is opened (R8). -/
def openContext (slot : Fin 8) (write : Bool) (n : Nat) (s : State) : State :=
  s.onTracker fun k =>
    { k with context := some { slot := slot, write := write, n := n, first := if write then k.recordCursor else k.receiveCursor,
                               span := 0, placed := 0, done := 0, received := 0 } }

/-- The counts handed to the result: done for a WRITE, received for the other orders (R8). -/
def State.blocksCounted (s : State) : Nat :=
  match s.tracker.context with
  | some c => if c.write then c.done else c.received
  | none => 0

/-! ### Rollbacks (R23, R24) -/

/-- ARMED, RECORDING, AWAIT_CHECK or VERIFIED (R23). -/
def BlockState.behindFailure : BlockState → Bool
  | .armed | .recording | .awaitCheck | .verified => true
  | _ => false

/-- ARMED, RECORDING or AWAIT_CHECK (R24). -/
def BlockState.unfinished : BlockState → Bool
  | .armed | .recording | .awaitCheck => true
  | _ => false

/-- The order's records later than k that a failure of k rolls back (R23). -/
def laterRecords (k : Fin 16) (s : State) : List (Fin 16) :=
  match s.tracker.context with
  | none => []
  | some c => s.orderIndexes.filter fun i =>
      decide (ringOffset c.first k < ringOffset c.first i) && (s.record i).state.behindFailure

/-- Rollback with k returned to FILLED: the record cursor becomes k (R23). -/
def rollBackTo (k : Fin 16) (s : State) : State :=
  setRecordCursor k (rollBackAll (laterRecords k s) (setRecord k (rolledBack (s.record k)) s))

/-- Rollback with k made FAILED: the record cursor becomes the earliest record rolled back, if any (R23, R116). -/
def rollBackPast (k : Fin 16) (s : State) : State :=
  let later := laterRecords k s
  let s1 := rollBackAll later (setRecord k { s.record k with state := .failed, checkTimer := none } s)
  match later with
  | [] => s1
  | i :: _ => setRecordCursor i s1

/-- The order's records that an end other than DONE rolls back (R24, R35). -/
def unfinishedRecords (s : State) : List (Fin 16) := s.orderIndexes.filter fun i => (s.record i).state.unfinished

/-- Start coordinate of the earliest of some records that has one (R35). -/
def earliestStart (is : List (Fin 16)) (s : State) : Option Int :=
  is.findSome? fun i => (s.record i).coords.map fun c => c.start

/-- The EXPECTING record is given back (R17). -/
def giveBack (s : State) : State :=
  let i := s.tracker.receiveCursor
  if (s.record i).state = .expecting then freeRecord i s else s

/-- The rollback of an order that ends (R24). -/
def rollBackOrder (s : State) : State :=
  match unfinishedRecords s with
  | [] => retryHeld s
  | i :: rest => setRecordCursor i (rollBackAll (i :: rest) s)

/-! ### Requests (R16 to R18) -/

/-- Arm request; `none`: not ready (R16). -/
def armRequest (s : State) : Option State :=
  let i := s.tracker.recordCursor
  match s.tracker.context with
  | none => none
  | some c =>
    if (s.record i).state = .filled ∧ c.placed < c.n then
      let grows := decide (c.span < 16) && decide (i = ringAdd c.first c.span)
      let s1 := s.onTracker fun k =>
        { k with outOfTurn := false, context := some { c with span := if grows then c.span + 1 else c.span } }
      some (setRecord i { s.record i with state := .armed, slot := some c.slot } s1)
    else none

/-- Expect request; `none`: not free (R17). -/
def expectRequest (s : State) : Option State :=
  let i := s.tracker.receiveCursor
  if (s.record i).state = .free then
    some (setRecord i { s.record i with state := .expecting, slot := s.intake.running } s)
  else none

/-- Decision request; `none`: stale (R18). -/
def decisionRequest (i : Fin 16) (s : State) : Option State :=
  let r := s.record i
  if r.state = .recording then
    some (setRecord i { r with state := .awaitCheck, checkTimer := some s.groupB.checkTime } s)
  else none

/-! ### Entries and first-word reads (R9, R19) -/

/-- An entry of the ring is valid (R9). -/
def entryValid (w0 w1 : Word) (bufferSize : Nat) : Bool :=
  decide (w0.toNat % 4 = 0) &&
    match descriptorKind w1 with
    | .data => decide (1 ≤ descriptorLength w1) && decide (w0.toNat + descriptorLength w1 ≤ bufferSize)
    | .mark => decide (w0.toNat + 4 ≤ bufferSize)

/-- A FREE record filled from its descriptor (R9). -/
def filledRecord (w0 w1 : Word) : BlockRecord :=
  { BlockRecord.blank with
    state := .filled, kind := descriptorKind w1, length := descriptorLength w1, offset := w0.toNat,
    tapeLength := tapeLengthOf (descriptorKind w1) (descriptorLength w1) }

/-- An address lies in the Block Buffer of the map in force (R163, R164). -/
def inBuffer (g : GroupA) (addr : Nat) : Bool := decide (g.bufferBase ≤ addr) && decide (addr < g.bufferBase + g.bufferSize)

/-- The record that a read's first word names: the first ARMED or FILLED record with the offset, from the cursor (R19). Only
a word in the Block Buffer of the map in force is subject to the tracker (R163). -/
def firstWordMatch (addr : Nat) (s : State) : Option (Fin 16) :=
  ((List.range 16).map fun j => ringAdd s.tracker.recordCursor j).find? fun i =>
    let r := s.record i
    (decide (r.state = .armed) || decide (r.state = .filled)) && decide (s.loader.groupA.bufferBase + r.offset = addr) &&
      inBuffer s.loader.groupA addr

/-- The release condition (R20). -/
def releaseCondition (s : State) : Bool :=
  decide (s.sequencer.transport = .running) && decide (s.sequencer.dir = some .forward) && s.sequencer.writeMode &&
    decide (s.runningOrder = some .write) &&
    match s.sequencer.recordPoint with
    | some r => decide (r ≤ s.tapePos) && decide (s.tapePos ≤ r + s.groupB.xExt)
    | none => false

/-- Coordinates of a received block from the boundary b = T − H (R5). -/
def receivedCoords (d : Direction) (tapeLength : Nat) (s : State) : Coords :=
  let b := s.tapePos - s.headOffset
  match d with
  | .forward => { start := b - tapeLength, stop := b }
  | .backward => { start := b, stop := b + tapeLength }

/-- The fields that a receipt gives the record (R13). -/
def takeReceipt (d : Direction) (isMark : Bool) (i : Fin 16) (s : State) : BlockRecord :=
  let w1 := s.descriptorWord i 1
  let kind := if isMark then .mark else descriptorKind w1
  let len := descriptorLength w1
  let tl := tapeLengthOf kind len
  { s.record i with
    kind := kind, length := len, tapeLength := tl, coords := some (receivedCoords d tl s), dirReceived := some d }

/-- The received count grows by one (R13, R15). -/
def countReceived (s : State) : State :=
  s.onTracker fun k => { k with context := k.context.map fun c => { c with received := c.received + 1 } }

/-- The receive cursor advances (R7). -/
def advanceReceive (s : State) : State := s.onTracker fun k => { k with receiveCursor := k.receiveCursor + 1 }

end Sys2Proof.Machine
end

