-- ==== Sys2Proof/Machine/Motion.lean ====
section
/-! DEFINITION. The Motion Sequencer: requests, the approach rule, ends of orders, arming and reading (chapter 2). -/

namespace Sys2Proof.Machine

/-! ### Start and stop requests (R27, R28, R51) -/

/-- Start chain of a purpose (R27). -/
def Purpose.startChain : Purpose → Chain
  | .reposition => .creepStart
  | .write | .read | .space | .erase => .start

/-- Stop chain of a purpose (R27). -/
def Purpose.stopChain : Purpose → Chain
  | .reposition => .creepStop
  | .write | .read | .space | .erase => .stop

/-- WRITE MODE after a start request (R51). -/
def writeModeAtStart (d : Direction) (p : Purpose) (old : Bool) : Bool :=
  match d, p with
  | .forward, .write | .forward, .erase => true
  | .backward, _ => false
  | .forward, .read | .forward, .space | .forward, .reposition => old

/-- Reads and spaces set the blank reference at their start (R47). -/
def Purpose.blanks : Purpose → Bool
  | .read | .space => true
  | _ => false

/-- What the sequencer holds after a start request (R27, R28, R47, R51). -/
def sequencerStarted (d : Direction) (p : Purpose) (t : Int) (q : Sequencer) : Sequencer :=
  { q with
    dir := some d
    purpose := some p
    writeMode := writeModeAtStart d p q.writeMode
    blankRef := if p.blanks then some t else q.blankRef
    startFallback := false }

/-- Start request with a direction and a purpose: the transport becomes STARTING at once (R28). -/
def startMotion (d : Direction) (p : Purpose) (s : State) : State :=
  let s1 := (setTransport .starting none s).onSequencer (sequencerStarted d p s.tapePos)
  startRequest p.startChain d (markStatus s1)

/-- Stop request of a motion: in STARTING or RUNNING the transport becomes STOPPING at once; elsewhere it has no effect
(R28). -/
def stopMotion (s : State) : State :=
  if s.sequencer.transport.underway then
    match s.sequencer.purpose with
    | some p => stopRequest p.stopChain (setTransport .stopping none s)
    | none => s
  else s

/-- The transport is STARTING or RUNNING in a direction with a purpose. -/
def State.movingAs (s : State) (d : Direction) (p : Purpose) : Bool :=
  s.sequencer.transport.underway && decide (s.sequencer.dir = some d) && decide (s.sequencer.purpose = some p)

/-! ### Approach rule (R32, R33) -/

/-- How far behind a target a forward start must begin: D_start + J (R32). -/
def approachRun (s : State) : Int := s.distance .start + (s.groupB.margin : Nat)

/-- The forward start toward a target, by the approach rule (R32). -/
def forwardStart (x : Int) (p : Purpose) (s : State) : State :=
  let q := x - approachRun s
  if s.tapePos ≤ q then startMotion .forward p s
  else startMotion .backward .reposition (s.onSequencer fun z => { z with approach := some q })

/-! ### Outcomes (R35) -/

/-- What ends with an order: R, decision list, waits, blank reference, erase end, fixed outcome, recovery (R35, R36, R44). -/
def clearOrderState (q : Sequencer) : Sequencer :=
  { q with
    recordPoint := none
    decisions := []
    fillWait := false
    fillHeld := false
    freeWait := false
    blankRef := none
    eraseEnd := none
    fixed := none
    recovery := none
    held := false
    approach := none
    noShowStop := false }

/-- The Block Tracker's part of an order's end: rollback of a WRITE that is not DONE, give-back otherwise (R24, R35). -/
def settleRecords (o : Outcome) (keepAnchor : Bool) (s : State) : State :=
  match s.tracker.context with
  | none => s
  | some c =>
    if c.write then
      if o = .done then s
      else
        let start := earliestStart (unfinishedRecords s) s
        let s1 := rollBackOrder s
        match start with
        | some x => if keepAnchor then s1 else setAnchor (x - (s.groupB.gap : Nat)) .nominal s1
        | none => s1
    else giveBack s

/-- The running order ends (R35, R151). `keepAnchor`: the end by emergency or SOFT_RESET, which leaves A. -/
def endOrder (o : Outcome) (rsn : Reason) (keepAnchor : Bool) (s : State) : State :=
  let s1 := settleRecords o keepAnchor s
  let n := s1.blocksCounted
  let s2 := (s1.onSequencer clearOrderState).onTracker fun k => { k with context := none }
  reportEnd o rsn n s2

/-- The outcome of the running order is fixed, if none is (R35, log 27): the EXPECTING record is given back, and in
STOPPED the order ends. -/
def fixOutcome (o : Outcome) (rsn : Reason) (s : State) : State :=
  if s.intake.running.isNone || s.sequencer.fixed.isSome then s
  else
    let s1 := giveBack (s.onSequencer fun q => { q with fixed := some { outcome := o, reason := rsn } })
    if s1.sequencer.transport = .stopped then endOrder o rsn false s1 else s1

/-- The outcome is fixed and the motion stopped. -/
def fixAndStop (o : Outcome) (rsn : Reason) (s : State) : State := stopMotion (fixOutcome o rsn s)

/-! ### Writing (R31, R36 to R42) -/

/-- T lies beyond the EOT coordinate by more than the overrun (R34, R36, R50). -/
def State.beyondEot (s : State) : Bool :=
  match s.sequencer.eot with
  | some c => decide (c + (s.groupB.eotOverrun : Nat) < s.tapePos)
  | none => false

/-- R is set from the anchor (R31). -/
def setRecordPoint (s : State) : State :=
  s.onSequencer fun q => { q with recordPoint := some (q.anchor + (s.gapAfterAnchor : Nat)) }

def dropRecordPoint (s : State) : State := s.onSequencer fun q => { q with recordPoint := none }

/-- From STOPPED, the armed block's forward start (R36). -/
def startToRecord (s : State) : State :=
  match s.sequencer.recordPoint with
  | some r => if s.sequencer.transport = .stopped then forwardStart r .write s else s
  | none => s

/-- The sequencer no longer waits for the cursor record (R36). -/
def endFillWait (s : State) : State := s.onSequencer fun q => { q with fillWait := false, fillHeld := false }

/-- The arm request of R36 with what follows it. No arm is made once an outcome is fixed. -/
def armFlow (s : State) : State :=
  if s.sequencer.fixed.isSome then s
  else if s.beyondEot then
    let s1 := fixOutcome .failed .endOfTape s
    if s.sequencer.decisions.isEmpty then stopMotion s1 else s1
  else
    match armRequest s with
    | some s1 => startToRecord (setRecordPoint (endFillWait s1))
    | none => s.onSequencer fun q => { q with fillWait := true }

/-- A write recovery for record k is closed; the others stay. -/
def closeRecoveryOf (k : Fin 16) (q : Sequencer) : Sequencer :=
  match q.recovery with
  | some r => if r.kind = .write ∧ r.index = k then { q with recovery := none } else q
  | none => q

/-- The sequencer's part of a release (R37, R114). -/
def releaseHandled (i : Fin 16) (stop : Int) (s : State) : State :=
  let s1 := (setAnchor stop .nominal s).onSequencer fun q =>
    closeRecoveryOf i { q with recordPoint := none, decisions := q.decisions ++ [(i, stop + s.headOffset)], noShow := 0 }
  armFlow s1

/-- The release of the ARMED block (R20). -/
def releaseBlock (i : Fin 16) (r : Int) (s : State) : State :=
  let rec0 := s.record i
  let t := s.tapePos
  let long := decide (r + (s.groupB.lateAllowance : Nat) < t)
  let stop := t + (rec0.tapeLength : Nat)
  let s1 := setRecord i { rec0 with state := .recording, coords := some { start := t, stop := stop }, longGap := long } s
  let s2 := if long then raiseBlock .longGap i 0 0 s1 else s1
  releaseHandled i stop (setRecordCursor (ringAdd i 1) s2)

/-- The stream-or-stop decision in RUNNING with purpose WRITE (R38). -/
def streamOrStop (s : State) : State :=
  let i := s.tracker.recordCursor
  if !s.sequencer.decisions.isEmpty then s
  else if (s.record i).state = .armed then s
  else if s.sequencer.fixed.isSome then stopMotion s
  else
    match s.tracker.context with
    | none => stopMotion s
    | some c =>
      if c.placed < c.n ∧ (s.record i).state = .filled then
        let s1 := armFlow s
        if (s1.record i).state = .armed then s1 else stopMotion s1
      else stopMotion (if c.placed < c.n then s.onSequencer fun q => { q with fillWait := true } else s)

/-- A decision point is reached: the entry leaves the list, the request is made and the decision follows (R38). -/
def decisionPoint (i : Fin 16) (rest : List (Fin 16 × Int)) (s : State) : State :=
  let s1 := s.onSequencer fun q => { q with decisions := rest }
  match decisionRequest i s1 with
  | none => s1
  | some s2 =>
    if s2.sequencer.transport = .running ∧ s2.sequencer.purpose = some .write then streamOrStop s2 else s2

/-- The ARMED record returns to FILLED by the no-show failure (R41). -/
def unarm (i : Fin 16) (s : State) : State := retryHeld (dropRecordPoint (setRecord i (rolledBack (s.record i)) s))

/-- A no-show (R40, R41). -/
def noShow (s : State) : State :=
  let i := s.tracker.recordCursor
  let n := s.sequencer.noShow + 1
  let s1 := s.onSequencer fun q => { q with noShow := n, noShowStop := true }
  let s2 := raiseBlock .formatterNoShow i (wordOfNat n) 0 s1
  if s.groupB.noShowLimit < n then stopMotion (unarm i (fixOutcome .failed .formatterSilent s2)) else stopMotion s2

/-- The notice of a filled cursor record is held (R39). -/
def holdNotice (s : State) : State := s.onSequencer fun q => { q with fillHeld := true }

/-- The host fills the record at the cursor while the order waits for it (R39): the arm request in STOPPED or moving forward
to write; otherwise the notice is held for STOPPED. -/
def cursorFilled (s : State) : State :=
  if !s.sequencer.fillWait then s
  else if decide (s.sequencer.transport = .stopped) || s.movingAs .forward .write then armFlow s
  else holdNotice s

/-- The sequencer's part of a retraction (R11, R33, R39, R114). -/
def retracted (i : Fin 16) (s : State) : State :=
  let s1 := s.onSequencer fun q => closeRecoveryOf i { q with recordPoint := none, fillWait := true }
  if s1.sequencer.decisions.isEmpty then stopMotion s1 else s1

/-! ### Reading and spacing (R44, R45, R48) -/

/-- The start of a reading or spacing order, in its direction (R44, R48). In READ_FWD beyond the EOT limit it fixes
END_OF_TAPE instead. -/
def startReading (o : OrderCode) (s : State) : State :=
  if decide (o = .readFwd) && s.beyondEot then fixOutcome .failed .endOfTape s
  else startMotion o.dir o.purpose s

/-- The expect-and-start of R44: the record at the receive cursor is expected unless it already is. -/
def expectAndStart (o : OrderCode) (s : State) : State :=
  if (s.record s.tracker.receiveCursor).state = .expecting then startReading o s
  else
    match expectRequest s with
    | some s1 => startReading o (s1.onSequencer fun q => { q with freeWait := false })
    | none => s.onSequencer fun q => { q with freeWait := true }

/-- The host frees the record at the receive cursor while the order waits for it (R10, R44). -/
def receiveFreed (s : State) : State :=
  if !s.sequencer.freeWait then s
  else
    match s.sequencer.transport, s.runningOrder with
    | .stopped, some o => expectAndStart o s
    | _, _ => s

/-- The anchor that a received block sets (R30). -/
def anchorAfterReceipt (d : Direction) (c : Coords) (s : State) : State :=
  match d with
  | .forward => setAnchor c.stop .nominal s
  | .backward => setAnchor (c.start - (s.groupB.gap : Nat)) .nominal s

/-- A receipt sets the blank reference of a running order (R45, R47). -/
def setBlankRef (s : State) : State := s.onSequencer fun q => { q with blankRef := some s.tapePos }

/-- The received count has reached n; a space of n = 0 never does (R45, R48). -/
def countReached (s : State) : Bool :=
  match s.tracker.context with
  | some c => decide (1 ≤ c.n) && decide (c.n ≤ c.received)
  | none => false

/-- The read decision (R45). `backing`: the receipt came during a backup move, which does not go on (R123). -/
def readDecision (isMark backing : Bool) (s : State) : State :=
  if s.sequencer.fixed.isSome then s
  else if isMark then fixAndStop .doneMark .none s
  else if countReached s then fixAndStop .done .none s
  else
    match expectRequest s with
    | some s1 => if backing then stopMotion s1 else s1
    | none => stopMotion (s.onSequencer fun q => { q with freeWait := true })

/-- The space decision (R48). -/
def spaceDecision (isMark : Bool) (s : State) : State :=
  if s.sequencer.fixed.isSome then s
  else if isMark then fixAndStop .doneMark .none s
  else if countReached s then fixAndStop .done .none s
  else s

/-! ### Erasing (R43) -/

/-- The erase stop begins: A is the erase end and the outcome is DONE (R43). -/
def eraseStop (e : Int) (s : State) : State := fixAndStop .done .none (setAnchor e .nominal s)

/-! ### Limits (R47, R49, R50) -/

/-- The BOT rule (R49). -/
def botRule (s : State) : State :=
  let s1 := stopMotion (raise { name := .loadPointReached } s)
  match s.sequencer.purpose with
  | some .read | some .space => fixOutcome .doneLoadPoint .none s1
  | _ => s1

end Sys2Proof.Machine
end

