-- ==== Sys2Proof/Machine/Recovery.lean ====
section
/-! DEFINITION. Write checking, write recovery and read recovery (chapter 6). -/

namespace Sys2Proof.Machine

/-! ### The recovery context (R55) -/

def setRecovery (r : Option Recovery) (s : State) : State := s.onSequencer fun q => { q with recovery := r }

/-- The phase of the recovery changes. -/
def setRecoveryPhase (p : RecoveryPhase) (s : State) : State :=
  s.onSequencer fun q => { q with recovery := q.recovery.map fun r => { r with phase := p } }

/-- Entries of the decision list whose record is no longer RECORDING leave it, and R is dropped when no record is ARMED
(R31, R37). -/
def pruneDecisions (s : State) : State :=
  let armed := decide ((s.record s.tracker.recordCursor).state = .armed)
  s.onSequencer fun q =>
    { q with decisions := q.decisions.filter fun d => decide ((s.record d.1).state = .recording),
             recordPoint := if armed then q.recordPoint else none }

/-! ### Write recovery (R112 to R115) -/

/-- The backup move begins (R113). -/
def beginBackup (d : Direction) (s : State) : State :=
  startMotion d .reposition ((setRecoveryPhase .backup s).onSequencer fun q => { q with approach := none })

/-- RUN_IN: the arm request of R36; not answered done, the recovery is over (R114). -/
def enterRunIn (s : State) : State :=
  let s1 := armFlow (setRecoveryPhase .runIn s)
  if s1.sequencer.recordPoint.isSome then s1 else setRecovery none s1

/-- SETTLE at STOPPED: T against the backup target (R113). -/
def settleWrite (target : Int) (s : State) : State :=
  if s.tapePos ≤ target then enterRunIn s else beginBackup .backward s

/-- The anchor from which a failed block is written again (R112, R115). -/
def extendedAnchor (start : Int) (s : State) : Int := start + (s.groupB.eExt : Nat) - (s.groupB.gap : Nat)

/-- Start coordinate of a record; a record that has been placed has one (R3). -/
def startOf (i : Fin 16) (s : State) : Int :=
  match (s.record i).coords with
  | some c => c.start
  | none => s.tapePos

/-- What opening or retargeting a write recovery sets, but for the phase (R112, R115). -/
def aimRecovery (k : Fin 16) (s : State) : State :=
  let start := startOf k s
  let s1 := setAnchor (extendedAnchor start s) .nominal s
  let ctx : Recovery := { kind := .write, index := k, phase := .settle, target := start - approachRun s }
  s1.onSequencer fun q =>
    { q with recordPoint := none, decisions := [], recovery := some ctx, noShowStop := false, approach := none }

/-- The phase that follows from the transport when a write recovery is opened (`retarget` false, R112) or retargeted
(R115). A BACKWARD motion of the approach becomes the backup move, in an opening and in a retargeting from RUN_IN alike
(DESIGN CHOICE, log 30). -/
def recoveryMotion (retarget : Bool) (s : State) : State :=
  match s.sequencer.transport with
  | .starting | .running =>
    match s.sequencer.dir with
    | some .backward => setRecoveryPhase .backup s
    | _ => stopMotion s
  | .stopped =>
    if retarget then
      match s.sequencer.recovery with
      | some r => settleWrite r.target s
      | none => s
    else beginBackup .backward s
  | _ => s

/-- A recoverable write failure opens write recovery (R112). -/
def openWriteRecovery (k : Fin 16) (s : State) : State :=
  let s1 := raiseBlock .writeCheckFailed k (wordOfNat (s.record k).attempts) 0 s
  recoveryMotion false (aimRecovery k (rollBackTo k s1))

/-- A failure of an earlier record retargets the recovery (R115). -/
def retargetRecovery (j k : Fin 16) (s : State) : State :=
  let s1 := raiseBlock .recoveryRetargeted j (wordOfNat k.val) (wordOfNat (s.record j).attempts) s
  recoveryMotion true (aimRecovery j (rollBackTo j s1))

/-- The anchor at the start of a block that is given up (R116, R117). -/
def anchorBefore (j : Fin 16) (s : State) : State := setAnchor (startOf j s - (s.groupB.gap : Nat)) .nominal s

/-- A permanent write failure (R116). -/
def permanentWriteFailure (j : Fin 16) (s : State) : State :=
  let s1 := anchorBefore j (rollBackPast j s)
  let s2 := s1.onSequencer fun q =>
    { q with recordPoint := none, decisions := [], recovery := none, noShowStop := false, approach := none }
  stopMotion (fixOutcome .failed .permanentWriteError s2)

/-- With no block of the order left in the decision list the motion is stopped (R36). -/
def stopIfNoneListed (s : State) : State := if s.sequencer.decisions.isEmpty then stopMotion s else s

/-- A write failure after the outcome has been fixed (R117). An outcome END_OF_TAPE fixed with a block in the decision list
waits for that block's decision point; when the rollback takes the last block off the list, the stop is made here (R36,
log 16). -/
def failureAfterOutcome (permanent : Bool) (j : Fin 16) (s : State) : State :=
  let s1 := raiseBlock .writeCheckFailed j (wordOfNat (s.record j).attempts) 0 s
  let s2 := if permanent then rollBackPast j s1 else rollBackTo j s1
  stopIfNoneListed (pruneDecisions (anchorBefore j s2))

/-- The record k later than j that a write recovery runs for (R111). -/
def laterRecovery (j : Fin 16) (s : State) : Option (Fin 16) :=
  match s.sequencer.recovery, s.tracker.context with
  | some r, some c =>
    if r.kind = .write ∧ ringOffset c.first j < ringOffset c.first r.index then some r.index else none
  | _, _ => none

/-- A write failure of an AWAIT_CHECK record is counted and handled (R111). -/
def writeFailure (j : Fin 16) (s : State) : State :=
  let rec0 := s.record j
  let limit := s.groupB.writeRetry
  let a := min (rec0.attempts + 1) (limit + 1)
  let s1 := setRecord j { rec0 with attempts := a, checkTimer := none } s
  if s.sequencer.fixed.isSome then failureAfterOutcome (decide (limit < a)) j s1
  else if limit < a then permanentWriteFailure j s1
  else
    match laterRecovery j s with
    | some k => retargetRecovery j k s1
    | none => openWriteRecovery j s1

/-- The done count of the running WRITE has reached n (R42). -/
def doneReached (s : State) : Bool :=
  match s.tracker.context with
  | some c => c.write && decide (c.n ≤ c.done)
  | none => false

/-- A block is verified (R42, R110). -/
def verifyBlock (i : Fin 16) (s : State) : State :=
  let s1 := setRecord i { s.record i with state := .verified, checkTimer := none } s
  if doneReached s1 then fixOutcome .done .none s1 else s1

/-! ### Read recovery (R119 to R123) -/

/-- Backup target of a read recovery (R121). -/
def readTarget (d : Direction) (c : Coords) (s : State) : Int :=
  let half : Int := (s.groupB.gap / 2 : Nat)
  match d with
  | .forward => c.start - half
  | .backward => c.stop + half + 2 * s.headOffset

/-- SETTLE of a read recovery at STOPPED: the backup move, opposite to the order (R122). -/
def settleRead (o : OrderCode) (s : State) : State := beginBackup (opposite o.dir) s

/-- The backup of a read recovery has ended: the re-read (R122). -/
def beginReread (o : OrderCode) (s : State) : State := startReading o (setRecoveryPhase .reread s)

/-- A read error within the limit (R121). -/
def openReadRecovery (k : Fin 16) (o : OrderCode) (c : Coords) (s : State) : State :=
  let s1 := raiseBlock .readError k (wordOfNat (s.record k).attempts) (wordOfNat (directionCode (some o.dir))) s
  let ctx : Recovery := { kind := .read, index := k, phase := .settle, target := readTarget o.dir c s }
  let s2 := setRecovery (some ctx) s1
  if s2.sequencer.transport = .stopped then settleRead o s2 else stopMotion s2

/-- A permanent read error (R120). -/
def permanentReadError (k : Fin 16) (s : State) : State :=
  let s1 := advanceReceive (setRecord k { s.record k with state := .unreadable } s)
  fixAndStop .failed .permanentReadError (setRecovery none s1)

/-- The error comes from tape that is not being read: recovery in SETTLE or BACKUP (R119). -/
def errorNotCounted (s : State) : Bool :=
  match s.sequencer.recovery with
  | some r => decide (r.kind = .read) && (decide (r.phase = .settle) || decide (r.phase = .backup))
  | none => false

/-- A RECEIVED_ERROR of a reading order, its fields taken (R119). -/
def readErrorTaken (k : Fin 16) (o : OrderCode) (c : Coords) (s : State) : State :=
  if errorNotCounted s then s
  else
    let limit := s.groupB.readRetry
    let a := min ((s.record k).attempts + 1) (limit + 1)
    let s1 := setRecord k { s.record k with attempts := a } s
    if limit < a then permanentReadError k s1 else openReadRecovery k o c s1

/-- The backup move of a read recovery runs (R123). -/
def backingUp (s : State) : Bool :=
  match s.sequencer.recovery with
  | some r => decide (r.kind = .read) && decide (r.phase = .backup)
  | none => false

/-- A receipt of a reading order, handed to the sequencer (R45, R123). -/
def readReceipt (isMark : Bool) (d : Direction) (c : Coords) (s : State) : State :=
  let backing := backingUp s
  readDecision isMark backing (setRecovery none (setBlankRef (anchorAfterReceipt d c s)))

/-- A receipt of a spacing order, handed to the sequencer (R48). -/
def spaceReceipt (isMark : Bool) (d : Direction) (c : Coords) (s : State) : State :=
  spaceDecision isMark (setBlankRef (anchorAfterReceipt d c s))

end Sys2Proof.Machine
end

