-- ==== Sys2Proof/Machine/SetupReads.lean ====
section
/-! DEFINITION. The beginning of a group read, and the request of a LOAD (R176). -/

namespace Sys2Proof.Machine

/-- The own reads of a group: first word and word count of each, in order (R176). -/
def groupReads : Activity → List (Nat × Nat)
  | .idle => []
  | .readingA => [(0, 8), (8, 1)]
  | .readingB => [(16, 8), (24, 8), (32, 8), (40, 6)]
  | .readingC => [(48, 7)]

/-- The own read to make when some words of a group have been read: the first that begins beyond them. -/
def nextGroupRead (a : Activity) (have_ : Nat) : Option (Nat × Nat) :=
  match groupReads a with
  | [] => none
  | (w0, n0) :: rest => ((w0, n0) :: rest).find? fun p => decide (have_ = p.1 - w0)

/-- A group read begins: its first own read is claimed (R176). -/
def startGroupRead (a : Activity) (s : State) : State :=
  let s1 := s.onLoader fun l => { l with activity := a, words := [] }
  match nextGroupRead a 0 with
  | some (w, n) => makeClaim (.setup w n) false s1
  | none => s1

/-- The group B read begins; a LOAD that asked for it is reading (R129, R176). -/
def startGroupB (s : State) : State :=
  startGroupRead .readingB (s.onSequencer fun q => { q with loadStage := if q.loadStage = .asked then .reading else q.loadStage })

/-- A LOAD asks for group B (R128, R176). -/
def requestGroupB (s : State) : State :=
  if s.loader.activity = .idle then startGroupB s else s.onLoader fun l => { l with waitingB := true }

end Sys2Proof.Machine
end

