-- ==== Sys2Proof/Machine/Threading.lean ====
section
/-! DEFINITION. LOAD, REWIND and UNLOAD, their phases, and the emergency stop (R54, R91, chapter 7). -/

namespace Sys2Proof.Machine

/-- The order that is running ends FAILED (R34, R150). -/
def failOrder (r : Reason) (s : State) : State := endOrder .failed r false s

/-- The order is held until STOPPED (R34, R150). -/
def holdOrder (s : State) : State := s.onSequencer fun q => { q with held := true }

def raiseLoadPoint (s : State) : State := raise { name := .loadPointReached } s

/-! ### Rewind steps (R136 to R138) -/

/-- The rewind step in force: the phase of REWINDING, or the rewind step of UNLOADING phase REWIND. -/
def State.rewindStep (s : State) : Option RewindStep :=
  match s.sequencer.transport, s.sequencer.phase with
  | .rewinding, some (.step r) => some r
  | .unloading, some .rewind => s.sequencer.rewindStep
  | _, _ => none

/-- The rewind comes to a step; a change marks STATUS dirty. -/
def setRewindStep (r : RewindStep) (s : State) : State :=
  if s.sequencer.transport = .unloading then
    markStatusIf (decide (s.sequencer.rewindStep ≠ some r)) (s.onSequencer fun q => { q with rewindStep := some r })
  else setTransport .rewinding (some (.step r)) s

/-- T lies beyond the approach distance (R136). -/
def State.farFromLoadPoint (s : State) : Bool := decide (((s.groupB.approachDistance : Nat) : Int) < s.tapePos)

/-- The first step of a rewind, with its start request (R136). -/
def beginRewind (s : State) : State :=
  if s.farFromLoadPoint then startRequest .rewindStart .backward (setRewindStep .ramp s)
  else startRequest .creepStart .backward (setRewindStep .creep s)

/-! ### UNLOAD (R138 to R140) -/

/-- The UNLOAD completes (R140). -/
def completeUnload (s : State) : State :=
  let s1 := setTransport .unthreaded none s
  endOrder .done .none false (s1.onSequencer fun q => { q with trusted := false, eot := none })

/-- RELEASE begins, and ends at once when the path is already clear (R140). -/
def enterRelease (s : State) : State :=
  let s1 := armWindow false (s.onSequencer fun q => { q with vacuumRequest := false })
  let s2 := startPhaseTimer Config.releaseMs (setTransport .unloading (some .release) s1)
  if s2.sensors.tapeInPath.debounced then s2 else completeUnload s2

/-- LEADER begins; entered from FAULTED with a vacuum switch LOST it ends at once without motion (R139). -/
def enterLeader (s : State) : State :=
  let fault := decide (s.sequencer.transport = .faulted)
  let s1 := (setTransport .unloading (some .leader) s).onSequencer fun q => { q with leaderStart := some s.tapePos }
  if fault && !s.vacuumMade then enterRelease s1 else startRequest .creepStart .backward s1

/-- The rewind of an UNLOAD begins, or LEADER when T ≤ 0 leaves nothing to rewind (R138). Both ways into the rewind come here:
for the UNLOAD that waited for the stop of a HALT, R138 and R136 make no T ≤ 0 test (DESIGN CHOICE, log 44). -/
def beginUnloadRewind (s : State) : State := if s.tapePos ≤ 0 then enterLeader s else beginRewind s

/-! ### Taking LOAD, REWIND and UNLOAD (R128, R136, R138) -/

/-- The start checks of a LOAD and its beginning (R128). -/
def beginLoad (origin : SeekOrigin) (s : State) : State :=
  if !s.sensors.door.debounced then failOrder .doorOpen s
  else if !s.sensors.tapeInPath.debounced then failOrder .noTape s
  else
    let s1 := (setTransport .loading (some .vacuum) s).onSequencer fun q =>
      { q with seekOrigin := some origin, trusted := false, vacuumRequest := true, loadStage := .asked, fixed := none }
    requestGroupB (startPhaseTimer Config.vacuumMs s1)

def takeLoad (s : State) : State :=
  match s.sequencer.transport with
  | .unthreaded => beginLoad .fresh s
  | .faulted => beginLoad .fromFault s
  | .stopped => failOrder .alreadyThreaded s
  | .starting | .running | .stopping | .rewinding | .loading | .unloading => holdOrder s

def takeRewind (s : State) : State :=
  match s.sequencer.transport with
  | .unthreaded | .loading => failOrder .notThreaded s
  | .faulted => failOrder .positionLost s
  | .stopped =>
    if s.tapePos ≤ 0 then endOrder .done .none false (raiseLoadPoint (anchorAtLoadPoint s)) else beginRewind s
  | .starting | .running | .stopping | .rewinding | .unloading => holdOrder s

def takeUnload (s : State) : State :=
  match s.sequencer.transport with
  | .unthreaded | .loading => failOrder .notThreaded s
  | .stopped => beginUnloadRewind (setTransport .unloading (some .rewind) s)
  | .rewinding => setTransport .unloading (some .rewind) s
  | .faulted => enterLeader s
  | .starting | .running | .stopping | .unloading => holdOrder s

/-! ### Phases of LOADING (R130 to R135) -/

/-- LOOPS begins (R131). -/
def enterLoops (s : State) : State :=
  let s1 := startPhaseTimer Config.loopsMs (setTransport .loading (some .loops) s)
  s1.onSequencer fun q => { q with settleCount := 0 }

/-- VACUUM ends when both vacuum switches are MADE and the active set is settled (R130). -/
def vacuumCheck (s : State) : State :=
  if s.sequencer.transport = .loading ∧ s.sequencer.phase = some .vacuum ∧ s.sequencer.loadStage = .settled ∧ s.vacuumMade = true
  then enterLoops s else s

/-- The final creep of a seek begins (R132, R133). -/
def beginFinalCreep (s : State) : State :=
  startRequest .creepStart .forward (s.onSequencer fun q => { q with seekLeg := some .finalCreep, legMarked := false })

/-- SEEK begins (R131 to R134). -/
def enterSeek (s : State) : State :=
  let s1 := setTransport .loading (some .seek) (armWindow true (s.onSequencer fun q => { q with phaseTimer := none, seekTravel := 0 }))
  match s.sequencer.seekOrigin with
  | some .fromFault =>
    startRequest .rewindStart .backward (s1.onSequencer fun q =>
      { q with seekLeg := some .outward, legMarked := false, botAtLeg := s.sensors.bot.level })
  | _ => beginFinalCreep s1

/-- The LOAD fails in VACUUM or LOOPS (R130, R131). -/
def failLoad (r : Reason) (s : State) : State := failOrder r (setTransport .unthreaded none s)

/-- The LOAD completes (R135). -/
def completeLoad (s : State) : State :=
  let s1 := anchorAtLoadPoint (setTransport .stopped none s)
  endOrder .done .none false (raiseLoadPoint (s1.onSequencer fun q => { q with trusted := true, eot := none }))

/-- The REWIND completes (R137). -/
def completeRewind (s : State) : State :=
  endOrder .done .none false (raiseLoadPoint (anchorAtLoadPoint (setTransport .stopped none s)))

/-- The LOAD is in phase SEEK. -/
def State.seeking (s : State) : Bool :=
  decide (s.sequencer.transport = .loading) && decide (s.sequencer.phase = some .seek)

/-- Stop chain of a seek leg (R134). -/
def SeekLeg.stopChain : SeekLeg → Chain
  | .outward => .rewindStop
  | .finalCreep => .creepStop

/-- The marker event of a seek leg: in FINAL_CREEP the rebase, then the leg's stop request (R132, R133). -/
def seekMarker (l : SeekLeg) (s : State) : State :=
  let s1 := s.onSequencer fun q => { q with legMarked := true }
  match l with
  | .finalCreep => stopRequest .creepStop (rebase s1)
  | .outward => stopRequest .rewindStop s1

/-- The present leg still waits for its marker event, and no outcome is fixed (R132 to R134). -/
def seekWaits (l : SeekLeg) (s : State) : Bool :=
  s.seeking && decide (s.sequencer.seekLeg = some l) && !s.sequencer.legMarked && s.sequencer.fixed.isNone

/-! ### Marker qualifications (R49, R50, R106, R132, R133, R136, R137) -/

/-- A BOT qualification in a rewind step, in BACKWARD motion: rebase, stop request, FINAL (R136, R137). -/
def rewindMarker (r : RewindStep) (s : State) : State :=
  match r with
  | .ramp | .cruise | .approach => setRewindStep .final (stopRequest .rewindStop (rebase s))
  | .creep => setRewindStep .final (stopRequest .creepStop (rebase s))
  | .final => s

/-- A BOT qualification reaches the sequencer. -/
def botQualified (d : Direction) (s : State) : State :=
  if s.sequencer.transport.underway then
    if s.sequencer.dir = some .backward then botRule s else s
  else if d = .forward then
    if seekWaits .finalCreep s then seekMarker .finalCreep s else s
  else if seekWaits .outward s then seekMarker .outward s
  else
    match s.rewindStep with
    | some r => if s.sequencer.fixed.isNone && !s.sequencer.haltStop then rewindMarker r s else s
    | none => s

/-- An EOT qualification reaches the sequencer (R50). R50's "in FORWARD motion" is read as the direction of the qualifying
counts, whatever the direction of the motion (DESIGN CHOICE, log 28). -/
def eotQualified (d : Direction) (s : State) : State :=
  if d = .forward ∧ s.sequencer.eot = none then
    raise { name := .eotPassed } (s.onSequencer fun q => { q with eot := some s.tapePos })
  else s

/-- A qualification is handed on (R106). -/
def markerQualified (m : Marker) (d : Direction) (s : State) : State :=
  match m with
  | .bot => botQualified d (markStatus s)
  | .eot => eotQualified d (markStatus s)

/-- The BOT sensor becomes inactive in the outward leg (R133). -/
def botLeft (s : State) : State :=
  if seekWaits .outward s && s.sequencer.botAtLeg && decide (s.generator.dir = some .backward) then seekMarker .outward s else s

/-! ### Emergency stop (R54, R91, R92) -/

/-- The order that runs ends by emergency, HALT or SOFT_RESET; the no-show count and WRITE MODE are cleared (R52, R54). -/
def cutOrder (o : Outcome) (r : Reason) (keepAnchor : Bool) (s : State) : State :=
  let s1 := if s.intake.running.isSome then endOrder o r keepAnchor s else s
  s1.onSequencer fun q => { q with noShow := 0, writeMode := false }

/-- The vacuum is supervised (R102). -/
def State.supervised (s : State) : Bool :=
  s.sensors.windowArmed || (decide (s.sequencer.transport = .loading) && decide (s.sequencer.phase = some .loops))

/-- An emergency request (R91, R92). A stop made with the vacuum supervised leaves its loss watched (R102, log 37). -/
def emergencyStop (s : State) : State :=
  if s.sequencer.transport = .unthreaded ∨ s.sequencer.transport = .faulted then s
  else
    let s1 := clearCaptures (setTransport .faulted none ((dropMotion s).setSignals []))
    let s2 := s1.onSensors fun n => { n with lossWatch := s.supervised }
    cutOrder .failed .emergency true (s2.onServos fun v => { v with tracking := 0 })

end Sys2Proof.Machine
end

