-- ==== Sys2Proof/Machine/Profiles.lean ====
section
/-! DEFINITION. Characterization and the settling of the active set (3.3, 3.4). -/

namespace Sys2Proof.Machine

/-- The active set changes; a change marks STATUS dirty (R60). A set that becomes active with the contents the active set has
is no change (DESIGN CHOICE, log 39). -/
def setActive (a : ActiveSet) (s : State) : State :=
  markStatusIf (decide (a ≠ s.generator.active)) (s.onGenerator fun g => { g with active := a })

/-- The LOAD's active set is settled (R67, R130). The outcome of an earlier LOAD's characterization settles nothing for a
LOAD whose own settlement still waits behind it. -/
def settleLoad (s : State) : State :=
  if s.generator.loadSet.isSome then s
  else s.onSequencer fun q => { q with loadStage := if q.loadStage = .settling then .settled else q.loadStage }

/-- A chain of header order; the sixth is the last. -/
def chainAt (i : Fin 6) : Chain :=
  match i with
  | 0 => .start
  | 1 => .stop
  | 2 => .creepStart
  | 3 => .creepStop
  | 4 => .rewindStart
  | 5 => .rewindStop

/-! ### Ends (R65, R67) -/

/-- The reads of a characterization end with it; its result or the LOAD takes the failure (R65, R67). PROFILE_INVALID is raised
before the ORDER_FAILED that R157 raises beside it (DESIGN CHOICE, log 46). -/
def rejectSet (c : Characterization) (chain : Nat) (segments : Nat) (why : CharactReason) (s : State) : State :=
  let s1 := raise { name := .profileInvalid, d0 := wordOfNat c.source, d1 := packPair chain segments, d2 := wordOfNat why.code }
    (s.onGenerator fun g => { g with charact := none })
  match c.slot with
  | some i => finishResult i .failed .profileInvalid 0 s1
  | none => settleLoad (setActive (builtInSet s.groupB) s1)

/-- The set becomes active (R65). -/
def acceptSet (c : Characterization) (s : State) : State :=
  let s1 := setActive { source := some c.source, label := c.label, heads := c.heads, distances := c.distances }
    (s.onGenerator fun g => { g with charact := none })
  match c.slot with
  | some i => finishResult i .done .none 0 s1
  | none => settleLoad s1

/-! ### Beginning (R62, R63, R67) -/

/-- A characterization before its header is read. -/
def newCharact (source : Nat) (slot : Option (Fin 8)) : Characterization where
  source := source
  slot := slot
  headerRead := false
  label := 0
  heads := Vector.replicate 6 0
  chain := 0
  segments := 0
  v := 0
  sum := 0
  distances := Vector.replicate 6 0

/-- A set's characterization begins; a set out of place fails before any read (R63, log 20). -/
def beginCharact (source : Nat) (slot : Option (Fin 8)) (s : State) : State :=
  let c := newCharact source slot
  if source % 8 = 0 ∧ source + 32 ≤ s.loader.groupA.storeSize then
    makeClaim (.charact source 8) false (s.onGenerator fun g => { g with charact := some c })
  else rejectSet c noChainCode 0 .placement s

/-- The active set is settled for a LOAD (R67). The built-in distances recomputed for new targets are no change of active
set (DESIGN CHOICE, log 39). -/
def settleNow (source : Nat) (s : State) : State :=
  let b := builtInSet s.groupB
  let s1 := if s.generator.active.source.isNone then s.onGenerator fun g => { g with active := b } else s
  if source = Config.allOnes then settleLoad (setActive b s1) else beginCharact source none s1

/-- The generator's one claim is a fetch, or a chain of the store under way makes fetches (R70, R169). -/
def fetching (s : State) : Bool :=
  let g := s.generator
  outstanding OwnAccess.isFetch s ||
    ((decide (g.mode ≠ .hold) || g.run.isSome) && (g.active.source.isSome || g.run.any fun r => !r.builtIn))

/-- A LOAD's settlement can begin: no characterization runs, and one that reads finds no fetch under way (R67, R169,
log 31). -/
def canSettle (source : Nat) (s : State) : Bool :=
  s.generator.charact.isNone && (decide (source = Config.allOnes) || !fetching s)

/-- A LOAD asks for its active set, settled at once or when it can be (R67, log 17). -/
def settleActive (source : Nat) (s : State) : State :=
  if canSettle source s then settleNow source s else s.onGenerator fun g => { g with loadSet := some source }

/-- The waiting settlement of a LOAD can begin. -/
def settlementDue (s : State) : Option State :=
  match s.generator.loadSet with
  | some p => if canSettle p s then some (settleNow p (s.onGenerator fun g => { g with loadSet := none })) else none
  | none => none

/-- What waits for a characterization's end: a LOAD's settlement, then a start request (R62, R67). The settlement is carried
out though HALT, an emergency or SOFT_RESET has ended its LOAD meanwhile (DESIGN CHOICE, log 17). -/
def afterCharact (s : State) : State :=
  vacuumCheck (takeWaiting (match settlementDue s with
    | some s1 => s1
    | none => s))

/-! ### The walk (R63, R64) -/

/-- What a walk has come to. -/
structure Walk where
  v : Int
  sum : Int
  deriving DecidableEq, Repr

/-- One segment sample by sample; `stopping`: a stop chain; `last`: the segment carries LAST (R64). -/
def walkSamples (slope : Int) (stopping last : Bool) : Nat → Walk → Except CharactReason Walk
  | 0, w => .ok w
  | n + 1, w =>
    let v := w.v + slope
    if v < 0 ∨ (Config.vLimit : Int) < v then .error .range
    else if stopping && decide (v = 0) && !(last && decide (n = 0)) then .error .earlyZero
    else walkSamples slope stopping last n { v := v, sum := w.sum + v }

/-- A segment is walked, with the checks of R64. -/
def walkSegment (g : GroupB) (storeSize : Nat) (chain : Chain) (count : Nat) (w : Segment) (a : Walk) : Except CharactReason Walk :=
  if Config.maxSegments < count then .error .length
  else if w.duration = 0 then .error .duration
  else
    match walkSamples w.slope (!chain.isStart) w.last w.duration a with
    | .error e => .error e
    | .ok b =>
      if w.last then (if b.v = (chainTarget g chain : Nat) then .ok b else .error .target)
      else if placeOk w.link storeSize then .ok b
      else .error .link

/-- The walk of a chain begins: its head is read (R64). -/
def beginWalk (i : Fin 6) (c : Characterization) (s : State) : State :=
  let c1 := { c with headerRead := true, chain := i, segments := 0, v := chainBegin s.groupB (chainAt i), sum := 0 }
  makeClaim (.charact c.heads[i] 2) false (s.onGenerator fun g => { g with charact := some c1 })

/-- The header arrives (R63). -/
def headerArrives (c : Characterization) (ws : Vector Word 8) (s : State) : State :=
  let heads : Vector Nat 6 := #v[ws[1].toNat, ws[2].toNat, ws[3].toNat, ws[4].toNat, ws[5].toNat, ws[6].toNat]
  if !formatOk ws[0] then rejectSet c noChainCode 0 .format s
  else if !(heads.toList.all fun h => placeOk h s.loader.groupA.storeSize) then rejectSet c noChainCode 0 .head s
  else beginWalk 0 { c with label := ws[7], heads := heads } s

/-- A chain is valid: its distance is kept and the next chain is walked (R64, R65). -/
def chainWalked (c : Characterization) (a : Walk) (s : State) : State :=
  let c1 := { c with distances := c.distances.set c.chain (ceilDiv a.sum.toNat 256) }
  if h : c.chain.val < 5 then beginWalk ⟨c.chain.val + 1, by omega⟩ c1 s else acceptSet c1 s

/-- A segment arrives (R64). -/
def walkArrives (c : Characterization) (w : Segment) (s : State) : State :=
  let n := c.segments + 1
  match walkSegment s.groupB s.loader.groupA.storeSize (chainAt c.chain) n w { v := c.v, sum := c.sum } with
  | .error e => rejectSet c c.chain.val n e s
  | .ok a =>
    if w.last then chainWalked c a s
    else makeClaim (.charact w.link 2) false
      (s.onGenerator fun g => { g with charact := some { c with segments := n, v := a.v, sum := a.sum } })

/-- The answer to a characterization read whose claim still stands (R63 to R65). -/
def charactAnswered (answer : OwnAnswer) (s : State) : State :=
  match s.generator.charact with
  | none => s
  | some c =>
    let s1 := match answer with
      | .fault => rejectSet c (if c.headerRead then c.chain.val else noChainCode) c.segments .readFault s
      | .done ws => if c.headerRead then walkArrives c (segmentOf ws[0] ws[1]) s else headerArrives c ws s
    if s1.generator.charact.isNone then afterCharact s1 else s1

/-! ### Selections (R62, R66) -/

/-- The first occasion of R62. -/
def charactOccasion (s : State) : Bool :=
  decide (s.sequencer.transport = .stopped) && decide (s.generator.mode = .hold) && s.generator.waiting.isNone &&
    s.generator.run.isNone && s.generator.charact.isNone

/-- A pending selection is applied or begins its characterization (R62, R66). -/
def takePending (p : PendingSet) (s : State) : State :=
  let s1 := s.onGenerator fun g => { g with pendingSet := none }
  match p.source with
  | none => finishResult p.slot .done .none 0 (setActive (builtInSet s.groupB) s1)
  | some o => beginCharact o (some p.slot) s1

/-- A selection becomes pending; an older one is superseded (R66, R157). -/
def selectSet (source : Option Nat) (slot : Fin 8) (s : State) : State :=
  let s1 := match s.generator.pendingSet with
    | some p => cancelResult p.slot .superseded s
    | none => s
  s1.onGenerator fun g => { g with pendingSet := some { source := source, slot := slot } }

/-- SOFT_RESET drops the pending set and abandons a characterization begun for a PROFILE_SELECT (R66). A LOAD's settlement
that waits behind it is carried out (DESIGN CHOICE, log 17). -/
def dropSelections (s : State) : State :=
  let s1 := match s.generator.pendingSet with
    | some p => cancelResult p.slot .softReset (s.onGenerator fun g => { g with pendingSet := none })
    | none => s
  match s1.generator.charact with
  | some c =>
    match c.slot with
    | some i =>
      afterCharact (cancelResult i .softReset
        (withdrawClaims OwnAccess.isCharact (s1.onGenerator fun g => { g with charact := none, waiting := none })))
    | none => s1
  | none => s1

end Sys2Proof.Machine
end

