-- ==== Sys2Proof/Machine/React.lean ====
section
/-! DEFINITION. What the Motion Sequencer does of itself within an event: it takes orders, acts on the generator's reports,
and watches the position conditions (R28, R34, R53, R141, R142, log 8, log 9). -/

namespace Sys2Proof.Machine

/-! ### Taking an order of the sequencer's chapter (R34) -/

/-- The first start check that applies, with its outcome (R34). -/
def startCheck (o : OrderCode) (s : State) : Option (Outcome × Reason) :=
  let writes := decide (o = .write) || decide (o = .erase)
  if s.sequencer.transport = .unthreaded ∨ s.sequencer.transport = .loading then some (.failed, .notThreaded)
  else if s.sequencer.transport = .faulted ∨ s.sequencer.trusted = false then some (.failed, .positionLost)
  else if writes && !s.sensors.ring.debounced then some (.failed, .writeProtected)
  else if (writes || decide (o = .readFwd) || decide (o = .spaceFwd)) && s.beyondEot then some (.failed, .endOfTape)
  else if (decide (o = .readBwd) || decide (o = .spaceBwd)) && decide (s.tapePos ≤ 0) then some (.doneLoadPoint, .none)
  else none

/-- An order that passes its start checks begins (R36, R43, R44, R48). -/
def beginOrder (o : OrderCode) (slot : Fin 8) (n : Nat) (s : State) : State :=
  let s0 := s.onSequencer fun q => { q with noShow := 0, fixed := none, held := false }
  let s1 := if o.ofBlocks then openContext slot (decide (o = .write)) n s0 else s0
  match o with
  | .write => armFlow s1
  | .erase =>
    forwardStart s1.sequencer.anchor .erase (s1.onSequencer fun q => { q with eraseEnd := some (q.anchor + (n : Nat)) })
  | _ => expectAndStart o s1

/-- An order of the sequencer's chapter is taken, or held until STOPPED (R34, log 26). -/
def takeMotionOrder (o : OrderCode) (slot : Fin 8) (n : Nat) (s : State) : State :=
  match s.sequencer.transport with
  | .starting | .running | .stopping | .rewinding | .unloading => holdOrder s
  | .unthreaded | .loading | .faulted | .stopped =>
    match startCheck o s with
    | some (out, rsn) => endOrder out rsn false s
    | none => beginOrder o slot n s

/-- The running order is taken by the sequencer. -/
def takeRunning (s : State) : State :=
  match s.intake.running, s.runningTaken with
  | some slot, some t =>
    let s1 := s.onSequencer fun q => { q with held := false }
    match orderOfCode t.code with
    | some .load => takeLoad s1
    | some .rewind => takeRewind s1
    | some .unload => takeUnload s1
    | some o => if o.ofSequencer then takeMotionOrder o slot t.arg s1 else s1
    | none => s1
  | _, _ => s

/-! ### Reaching STOPPED (R28, R35, R40, R44, R113, R122) -/

/-- The no-show stop has reached STOPPED: A is T (R40, R41). -/
def anchorAtStop (s : State) : State := setAnchor s.tapePos .nominal (s.onSequencer fun q => { q with noShowStop := false })

/-- STOPPED with R absent: a notice held through the stop leads to its arm request; otherwise the order waits (R39). -/
def armIfNoticed (noticed : Bool) (s : State) : State := if noticed then armFlow s else s

/-- STOPPED in a running WRITE whose outcome is open: recovery, no-show, approach, or the arm of R39. The no-show stop sets A
whether or not its record is still ARMED (R30, R40). -/
def writeAtStopped (s : State) : State :=
  let settled := s.onSequencer fun q => { q with approach := none, noShowStop := false, fillHeld := false }
  let anchored := if s.sequencer.noShowStop then anchorAtStop settled else settled
  let next : State :=
    if s.sequencer.recordPoint.isSome then
      if s.sequencer.noShowStop then startToRecord (setRecordPoint anchored)
      else if s.sequencer.approach.isSome then startMotion .forward .write settled
      else startToRecord settled
    else armIfNoticed s.sequencer.fillHeld anchored
  match s.sequencer.recovery with
  | some r =>
    match r.phase with
    | .settle => settleWrite r.target settled
    | .backup => enterRunIn settled
    | .runIn | .reread => next
  | none => next

/-- STOPPED in a running reading or spacing order whose outcome is open. -/
def readAtStopped (o : OrderCode) (s : State) : State :=
  match s.sequencer.recovery with
  | some r =>
    match r.phase with
    | .settle => settleRead o s
    | .backup => beginReread o s
    | .runIn | .reread => expectAndStart o s
  | none => expectAndStart o s

/-- STOPPED with an order running and its outcome open. -/
def goOnAtStopped (o : OrderCode) (s : State) : State :=
  match o with
  | .write => writeAtStopped s
  | .erase =>
    if s.sequencer.approach.isSome then startMotion .forward .erase (s.onSequencer fun q => { q with approach := none }) else s
  | .readFwd | .readBwd | .spaceFwd | .spaceBwd => readAtStopped o s
  | _ => s

/-- STOPPED with the outcome fixed: the order ends (R35, R41). After FORMATTER_SILENT R41 sets A to T here, also over the
anchor that a failure of R117 has set meanwhile (DESIGN CHOICE, log 16). -/
def endAtStopped (f : FixedOutcome) (s : State) : State :=
  let s1 := if s.sequencer.noShowStop && decide (f.reason = .formatterSilent) then anchorAtStop s else s
  endOrder f.outcome f.reason false s1

/-- What the running order does in STOPPED. -/
def orderAtStopped (s : State) : State :=
  if s.intake.running.isNone then s
  else if s.sequencer.held then takeRunning s
  else
    match s.sequencer.fixed, s.runningOrder with
    | some f, _ => endAtStopped f s
    | none, some o => goOnAtStopped o s
    | none, none => s

/-- The transport reaches STOPPED: direction, purpose and WRITE MODE go, and the order goes on (R28, R51). -/
def reachStopped (s : State) : State :=
  orderAtStopped ((setTransport .stopped none s).onSequencer fun q => { q with writeMode := false, startFallback := false })

/-! ### The generator's reports (R28, R53, R133 to R142) -/

/-- The stop of a HALT in REWINDING has ended (R141). -/
def haltStopEnded (s : State) : State :=
  let final := decide (s.sequencer.phase = some (.step .final))
  let s1 := setTransport .stopped none s
  orderAtStopped (if final then anchorAtLoadPoint s1 else s1)

/-- A stop has ended in SEEK (R132 to R135, R142). -/
def seekStopEnded (s : State) : State :=
  match s.sequencer.fixed with
  | some f => endOrder f.outcome f.reason false (setTransport .faulted none s)
  | none =>
    if s.sequencer.legMarked then
      match s.sequencer.seekLeg with
      | some .finalCreep => completeLoad s
      | some .outward => beginFinalCreep s
      | none => s
    else s

/-- A stop has ended in REWINDING (R137, R141, R142). -/
def rewindStopEnded (s : State) : State :=
  if s.sequencer.haltStop then haltStopEnded s
  else
    match s.sequencer.fixed with
    | some f => endOrder f.outcome f.reason false (setTransport .stopped none s)
    | none => if s.rewindStep = some .final then completeRewind s else s

/-- A stop has ended in UNLOADING (R138, R139, R142). -/
def unloadStopEnded (s : State) : State :=
  if s.sequencer.haltStop then beginUnloadRewind (s.onSequencer fun q => { q with haltStop := false })
  else
    match s.sequencer.fixed with
    | some f => endOrder f.outcome f.reason false (setTransport .faulted none s)
    | none =>
      if s.sequencer.phase = some .leader then enterRelease s
      else if s.rewindStep = some .final then enterLeader s
      else s

def stopEnded (s : State) : State :=
  match s.sequencer.transport with
  | .starting | .running | .stopping => reachStopped s
  | .loading => if s.seeking then seekStopEnded s else s
  | .rewinding => rewindStopEnded s
  | .unloading => unloadStopEnded s
  | .unthreaded | .stopped | .faulted => s

def startEnded (s : State) : State :=
  match s.sequencer.transport with
  | .starting => setTransport .running none s
  | _ => if s.rewindStep = some .ramp && !s.sequencer.haltStop then setRewindStep .cruise s else s

def creepReached (s : State) : State := if s.rewindStep = some .approach then setRewindStep .creep s else s

/-- PROFILE_FAULT (R53, R142). -/
def profileFaulted (stopping : Bool) (s : State) : State :=
  match s.sequencer.transport with
  | .starting =>
    let s1 := (setTransport .stopping none s).onSequencer fun q => { q with startFallback := true }
    if s1.intake.running.isSome then
      (fixOutcome .failed .profileFault s1).onSequencer fun q => { q with writeMode := false }
    else s1
  | .loading | .rewinding | .unloading => if stopping then s else fixOutcome .failed .profileFault s
  | _ => s

/-- A report of the generator is acted on. -/
def handleSignal (g : Signal) (s : State) : State :=
  match g with
  | .startEnd => startEnded s
  | .stopEnd => stopEnded s
  | .creepReached => creepReached s
  | .profileFault stopping => profileFaulted stopping s

/-! ### Position conditions (chapter 2, R136, R137, R139; order: log 9) -/

/-- The held first-word read whose release condition is true (R21). -/
def heldRelease (s : State) : Option State :=
  match s.sequencer.recordPoint with
  | some r => if s.holding && releaseCondition s then some (releaseBlock s.tracker.recordCursor r (releaseHeld s)) else none
  | none => none

/-- A decision point reached (R38, R53). -/
def decisionDue (s : State) : Option State :=
  match s.sequencer.decisions with
  | (i, d) :: rest =>
    if s.sequencer.transport.moves && decide (s.sequencer.dir = some .forward) && decide (d ≤ s.tapePos) && !s.sequencer.startFallback
    then some (decisionPoint i rest s) else none
  | [] => none

/-- A no-show (R40). -/
def noShowDue (s : State) : Option State :=
  match s.sequencer.recordPoint with
  | some r =>
    if s.movingAs .forward .write && decide (r + (s.groupB.xExt : Nat) < s.tapePos) && s.sequencer.fixed.isNone
    then some (noShow s) else none
  | none => none

/-- The erase end is a stop distance away (R43). -/
def eraseDue (s : State) : Option State :=
  match s.sequencer.eraseEnd with
  | some e =>
    if s.movingAs .forward .erase && decide (e - s.distance .stop ≤ s.tapePos) && s.sequencer.fixed.isNone
    then some (eraseStop e s) else none
  | none => none

/-- A REPOSITION move has come near its target: the approach point or the backup target (R33, R113, R122). -/
def repositionDue (s : State) : Option State :=
  let d := s.distance .creepStop
  let near (x : Int) : Bool :=
    (s.movingAs .backward .reposition && decide (s.tapePos ≤ x + d)) ||
    (s.movingAs .forward .reposition && decide (x - d ≤ s.tapePos))
  let backup := match s.sequencer.recovery with
    | some r => decide (r.phase = .backup) && near r.target
    | none => false
  let approach := match s.sequencer.approach with
    | some q => near q
    | none => false
  if backup || approach then some (stopMotion s) else none

/-- The transport moves with purpose READ or SPACE, not yet stopping. -/
def State.readingUnderway (s : State) : Bool :=
  s.sequencer.transport.underway && (decide (s.sequencer.purpose = some .read) || decide (s.sequencer.purpose = some .space))

/-- The blank limit is exceeded (R47). -/
def blankDue (s : State) : Option State :=
  match s.sequencer.blankRef with
  | some b =>
    if s.readingUnderway && decide (s.groupB.blankLimit < (s.tapePos - b).natAbs) && s.sequencer.fixed.isNone
    then some (fixAndStop .failed .blankTape s) else none
  | none => none

/-- T ≤ 0 in backward motion (R49). -/
def botDue (s : State) : Option State :=
  if s.sequencer.transport.underway && decide (s.sequencer.dir = some .backward) && decide (s.tapePos ≤ 0)
  then some (botRule s) else none

/-- A forward read or space is beyond the EOT limit (R50). An order held until STOPPED does not move yet. -/
def eotDue (s : State) : Option State :=
  let forwardOrder := decide (s.runningOrder = some .readFwd) || decide (s.runningOrder = some .spaceFwd)
  let moves := s.sequencer.transport.moves && decide (s.sequencer.dir = some .forward) &&
    (decide (s.sequencer.purpose = some .read) || decide (s.sequencer.purpose = some .space))
  if forwardOrder && !s.sequencer.held && moves && s.beyondEot && s.sequencer.fixed.isNone then some (fixAndStop .failed .endOfTape s) else none

/-- The approach distance is reached in a rewind (R136). -/
def rewindNear (s : State) : Option State :=
  let fast := decide (s.rewindStep = some .ramp) || decide (s.rewindStep = some .cruise)
  if fast && !s.farFromLoadPoint && !s.sequencer.haltStop && s.sequencer.fixed.isNone
  then some (setRewindStep .approach (decelToCreep s)) else none

/-- The creep of a rewind has gone past the limit (R137). -/
def rewindLimit (s : State) : Option State :=
  if decide (s.rewindStep = some .creep) && decide (s.tapePos < -((s.groupB.approachDistance : Nat) : Int)) &&
      !s.sequencer.haltStop && s.sequencer.fixed.isNone
  then some (stopRequest .creepStop (fixOutcome .failed .noLoadPoint s)) else none

/-- The leader is wound (R139). -/
def leaderDue (s : State) : Option State :=
  match s.sequencer.leaderStart with
  | some l =>
    let slowing := decide (s.generator.mode = .decel) || decide (s.generator.mode = .fallback)
    if decide (s.sequencer.phase = some .leader) && decide (s.tapePos ≤ l - Config.leaderSteps + s.distance .creepStop) &&
        !slowing && s.sequencer.fixed.isNone
    then some (stopRequest .creepStop s) else none
  | none => none

/-- The first position condition that holds, acted on. -/
def positionEvent (s : State) : Option State :=
  heldRelease s <|> decisionDue s <|> noShowDue s <|> eraseDue s <|> repositionDue s <|> blankDue s <|> botDue s <|> eotDue s <|>
  rewindNear s <|> rewindLimit s <|> leaderDue s

/-! ### The event runs to rest (log 8) -/

/-- A LOAD's settlement that waited for the motion begins, and a start request that waits is taken (R67, R169, log 31). -/
def settlementEvent (s : State) : Option State := (settlementDue s).map fun s1 => vacuumCheck (takeWaiting s1)

/-- The queue's head handed over and taken (R150). -/
def handOverEvent (s : State) : Option State := (handOverDue s).map fun h => takeRunning (handOver h.1 h.2 s)

/-- One thing that the event still brings about, if any: a report of the generator, a position condition, a settlement that
waited, a hand-over. -/
def reactOnce (s : State) : Option State :=
  match s.signals with
  | g :: rest => some (handleSignal g (s.setSignals rest))
  | [] => positionEvent s <|> settlementEvent s <|> handOverEvent s

/-- The event is followed to rest. -/
def react : Nat → State → State
  | 0, s => s
  | fuel + 1, s =>
    match reactOnce s with
    | some s1 => react fuel s1
    | none => s

/-- More than any event brings about. -/
def reactFuel : Nat := 64

/-- The end of an event: followed to rest, then the arbiter's turn (R170). -/
def finishEvent (s : State) : State := arbitrate (react reactFuel s)

end Sys2Proof.Machine
end

