-- ==== Sys2Proof/Machine/Descriptors.lean ====
section
/-! DEFINITION. State-code writes to descriptors, and the check timers (R1, R2, R9 to R15, R109). -/

namespace Sys2Proof.Machine

/-- DESCRIPTOR_CONFLICT with the code written (R2). -/
def conflict (i : Fin 16) (code : Nat) (s : State) : State := raiseBlock .descriptorConflict i (wordOfNat code) 0 s

/-- DESCRIPTOR_INVALID (R2, R9). -/
def invalidEntry (i : Fin 16) (s : State) : State := raiseBlock .descriptorInvalid i 0 0 s

/-- FILLED (R9). -/
def stateFilled (i : Fin 16) (s : State) : State :=
  if (s.record i).state = .free then
    let w0 := s.descriptorWord i 0
    let w1 := s.descriptorWord i 1
    if entryValid w0 w1 s.loader.groupA.bufferSize then
      let s1 := setRecord i (filledRecord w0 w1) s
      if i = s.tracker.recordCursor then cursorFilled s1 else s1
    else invalidEntry i s
  else conflict i 1 s

/-- The span shrinks by one (R11). -/
def shrinkSpan (s : State) : State :=
  s.onTracker fun k => { k with context := k.context.map fun c => { c with span := c.span - 1 } }

/-- Retraction of the ARMED record (R11). -/
def retract (i : Fin 16) (s : State) : State := retracted i (retryHeld (freeRecord i (shrinkSpan s)))

/-- EMPTY (R10, R11). -/
def stateEmpty (i : Fin 16) (s : State) : State :=
  match (s.record i).state with
  | .free => s
  | .filled | .verified | .failed | .received | .unreadable =>
    let s1 := freeRecord i s
    if i = s.tracker.receiveCursor then receiveFreed s1 else s1
  | .recording | .awaitCheck | .expecting => conflict i 0 s
  | .armed => retract i s

/-- A check result; `ok`: RECORDED_OK (R12, R110, R111). -/
def stateCheck (ok : Bool) (i : Fin 16) (s : State) : State :=
  match (s.record i).state with
  | .awaitCheck => if ok then verifyBlock i s else writeFailure i s
  | .filled | .armed => if (s.record i).coords.isSome then s else conflict i (if ok then 2 else 3) s
  | .free | .recording | .verified | .failed | .expecting | .received | .unreadable => conflict i (if ok then 2 else 3) s

/-- The receipts of the formatter. -/
inductive Receipt where
  | block | mark | error
  deriving DecidableEq, Repr

def Receipt.code : Receipt → Nat
  | .block => 4
  | .mark => 5
  | .error => 6

/-- A receipt of a reading order (R13, R14). -/
def readingReceipt (r : Receipt) (o : OrderCode) (i : Fin 16) (s : State) : State :=
  let rec1 := takeReceipt o.dir (decide (r = .mark)) i s
  let c := receivedCoords o.dir rec1.tapeLength s
  match r with
  | .error => readErrorTaken i o c (setBlankRef (setRecord i rec1 s))
  | .block | .mark =>
    readReceipt (decide (r = .mark)) o.dir c (countReceived (advanceReceive (setRecord i { rec1 with state := .received } s)))

/-- A receipt of a spacing order (R15). -/
def spacingReceipt (r : Receipt) (o : OrderCode) (i : Fin 16) (s : State) : State :=
  let rec1 := takeReceipt o.dir (decide (r = .mark)) i s
  let c := receivedCoords o.dir rec1.tapeLength s
  spaceReceipt (decide (r = .mark)) o.dir c (countReceived (setRecord i rec1 s))

/-- RECEIVED, RECEIVED_MARK or RECEIVED_ERROR (R13 to R15). -/
def stateReceipt (r : Receipt) (i : Fin 16) (s : State) : State :=
  if (s.record i).state = .expecting then
    match s.runningOrder with
    | some o => if o.isRead then readingReceipt r o i s else if o.isSpace then spacingReceipt r o i s else conflict i r.code s
    | none => conflict i r.code s
  else conflict i r.code s

/-- A state-code write, by the code in the merged shadow (R1, R2). -/
def stateCodeWrite (i : Fin 16) (code : Nat) (s : State) : State :=
  match code with
  | 0 => stateEmpty i s
  | 1 => stateFilled i s
  | 2 => stateCheck true i s
  | 3 => stateCheck false i s
  | 4 => stateReceipt .block i s
  | 5 => stateReceipt .mark i s
  | 6 => stateReceipt .error i s
  | _ => invalidEntry i s

/-- A check timer expires with its record AWAIT_CHECK (R109). -/
def checkExpiry (i : Fin 16) (s : State) : State :=
  let r := s.record i
  if r.state = .awaitCheck ∧ r.checkTimer.isSome = true then
    finishEvent (writeFailure i (raiseBlock .checkMissing i 0 0 (setRecord i { r with checkTimer := none } s)))
  else s

/-- A word of the descriptor shadow replaced by its merge (R165). -/
def mergeDescriptor (k : Fin 64) (w : BusWord) (s : State) : State :=
  s.onPath fun p => { p with descriptors := p.descriptors.set k (mergeWord p.descriptors[k] w) }

/-- A write to word 2 of a descriptor, merged; during a sweep it is not acted on (R1, R25, R165). -/
def descriptorWrite (i : Fin 16) (w : BusWord) (s : State) : State :=
  let s1 := mergeDescriptor (⟨4 * i.val + 2, by omega⟩ : Fin 64) w s
  if s.path.sweep.isSome then s1 else stateCodeWrite i (s1.descriptorWord i 2).toNat s1

/-- A whole-word state-code write as a command; without configuration the ring is not watched (R1, log 4). -/
def descriptorCommand (i : Fin 16) (code : Word) (s : State) : State :=
  if s.path.configured then finishEvent (descriptorWrite i (fullWord code) s) else s

end Sys2Proof.Machine
end

