-- ==== Sys2Proof/Machine/Setup.lean ====
section
/-! DEFINITION. The Setup Loader and the configuration sweep (chapter 10, 9.6). -/

namespace Sys2Proof.Machine

/-! ### Field checks (R178 to R181) -/

inductive FieldRange where
  | between (lo hi : Nat)
  | oneOf (vs : List Nat)
  /-- a range with a step that the values are multiples of -/
  | stepped (lo hi step : Nat)
  | any
  deriving DecidableEq, Repr

def FieldRange.holds (r : FieldRange) (v : Nat) : Bool :=
  match r with
  | .between lo hi => decide (lo ≤ v) && decide (v ≤ hi)
  | .oneOf vs => vs.contains v
  | .stepped lo hi step => decide (lo ≤ v) && decide (v ≤ hi) && decide (v % step = 0)
  | .any => true

/-- A setup field: its number, range and default. -/
structure FieldSpec where
  number : Nat
  range : FieldRange
  dflt : Nat
  deriving DecidableEq, Repr

/-- A field as checked. -/
structure CheckedField where
  number : Nat
  value : Nat
  published : Nat
  defaulted : Bool
  deriving DecidableEq, Repr

/-- The value read for a field of a group whose first word is `base`. -/
def fieldRead (words : List Word) (base number : Nat) : Nat :=
  match words[number - base]? with
  | some w => w.toNat
  | none => 0

def checkField (words : List Word) (base : Nat) (f : FieldSpec) : CheckedField :=
  let v := fieldRead words base f.number
  if f.range.holds v then { number := f.number, value := v, published := v, defaulted := false }
  else { number := f.number, value := v, published := f.dflt, defaulted := true }

/-- The published value of a field. -/
def publishedOf (cs : List CheckedField) (number : Nat) : Nat :=
  match cs.find? fun c => c.number == number with
  | some c => c.published
  | none => 0

/-- The fields of group A (R178). -/
def specA : List FieldSpec :=
  [⟨0, .stepped 0 Config.allOnes 64, 0x100⟩, ⟨1, .stepped 0 Config.allOnes 64, 0x200⟩, ⟨2, .stepped 0 Config.allOnes 64, 0x400⟩,
   ⟨3, .stepped 0 Config.allOnes 64, 0x1000⟩, ⟨4, .stepped 1024 65536 64, 12288⟩, ⟨5, .stepped 0 Config.allOnes 64, 0x4000⟩,
   ⟨6, .stepped 64 Config.allOnes 64, 245760⟩, ⟨7, .between 0 32, 8⟩, ⟨8, .between 1 15, 8⟩]

/-- The fields of group B but X_ext (R180). -/
def specB : List FieldSpec :=
  [⟨16, .oneOf [2048, 3072, 4096], 3072⟩, ⟨17, .between 256 1024, 512⟩, ⟨18, .between 4096 12800, 10240⟩,
   ⟨19, .between 400 2000, 600⟩, ⟨20, .between 2000 8000, 3000⟩, ⟨21, .between 100 400, 240⟩, ⟨22, .between 0 200, 40⟩,
   ⟨24, .between 0 8000, 3500⟩, ⟨25, .between 20 400, 100⟩, ⟨26, .between 50000 1000000, 300000⟩,
   ⟨27, .between 0 400000, 120000⟩, ⟨28, .between 0 15, 3⟩, ⟨29, .between 0 15, 5⟩, ⟨30, .between 1 15, 3⟩,
   ⟨31, .between 1 20, 2⟩, ⟨32, .between 0 255, 96⟩, ⟨33, .between 0 255, 64⟩, ⟨34, .between 0 255, 40⟩,
   ⟨35, .between 256 768, 512⟩, ⟨36, .between 1 255, 20⟩, ⟨37, .between 0 65535, 4000⟩, ⟨38, .between 1000 65535, 30000⟩,
   ⟨39, .between 1000 65535, 12600⟩, ⟨40, .between 1000 32000, 10000⟩, ⟨41, .between 32001 65535, 40000⟩,
   ⟨42, .oneOf [1, 2, 4, 8], 4⟩, ⟨43, .between 2 64, 8⟩, ⟨44, .between 10000 400000, 60000⟩, ⟨45, .any, 0⟩]

/-- The fields of group C (R179). -/
def specC : List FieldSpec :=
  [⟨48, .between 0 1023, 128⟩, ⟨49, .between 0 1023, 896⟩, ⟨50, .between 1 15, 3⟩, ⟨51, .oneOf [0, 1, 2, 4, 8, 16], 4⟩,
   ⟨52, .between 0 2, 0⟩, ⟨53, .any, 0⟩, ⟨54, .between 1 100, 10⟩]

/-- X_ext is checked against the G published by the same read (R181). -/
def specXExt (gap : Nat) : FieldSpec := ⟨23, .between gap 8000, max 1800 gap⟩

/-- Group B checked in word order (R181). -/
def checkGroupB (words : List Word) : List CheckedField :=
  let cs := specB.map (checkField words 16)
  cs.take 7 ++ [checkField words 16 (specXExt (publishedOf cs 19))] ++ cs.drop 7

def groupBOf (cs : List CheckedField) : GroupB :=
  let p := publishedOf cs
  { vRec := p 16, vCreep := p 17, vRew := p 18, gap := p 19, gapBot := p 20, headOffset := p 21, lateAllowance := p 22,
    xExt := p 23, eExt := p 24, margin := p 25, blankLimit := p 26, eotOverrun := p 27, writeRetry := p 28, readRetry := p 29,
    noShowLimit := p 30, checkTime := p 31, kp := p 32, kv := p 33, kc := p 34, setpoint := p 35, eLim := p 36, kff := p 37,
    wInitSupply := p 38, wInitTakeup := p 39, wMin := p 40, wMax := p 41, conversions := p 42, mq := p 43,
    approachDistance := p 44, profileSet := p 45 }

/-- A window limit replaced because the relation fails (R179). -/
def CheckedField.toDefault (d : Nat) (c : CheckedField) : CheckedField := { c with published := d, defaulted := true }

/-- Group C checked, with the relation of the window limits (R179). -/
def checkGroupC (words : List Word) : List CheckedField :=
  let cs := specC.map (checkField words 48)
  if publishedOf cs 48 + 64 < publishedOf cs 49 then cs
  else cs.map fun c => if c.number = 48 then c.toDefault 128 else if c.number = 49 then c.toDefault 896 else c

def logStyleOf : Nat → LogStyle
  | 1 => .keep
  | 2 => .off
  | _ => .roll

def groupCOf (cs : List CheckedField) : GroupC :=
  let p := publishedOf cs
  { xLo := p 48, xHi := p 49, persistence := p 50, debounce := p 51, style := logStyleOf (p 52), mask := BitVec.ofNat 9 (p 53),
    refresh := p 54 }

/-- The windows of a group A: field number, base, size. -/
def windowsOf (g : GroupA) : List (Nat × Nat × Nat) :=
  [(0, g.ringBase, Config.ringBytes), (1, g.slotBase, Config.slotBytes), (2, g.reportBase, Config.reportBytes),
   (3, g.storeBase, g.storeSize), (5, g.bufferBase, g.bufferSize)]

def windowsOverlap (a b : Nat × Nat × Nat) : Bool :=
  decide (a.2.1 < b.2.1 + b.2.2) && decide (b.2.1 < a.2.1 + a.2.2)

/-- The pairs of windows, the lower-numbered first (log 22). -/
def windowPairs : List (Nat × Nat × Nat) → List ((Nat × Nat × Nat) × (Nat × Nat × Nat))
  | [] => []
  | w :: ws => ws.map (fun v => (w, v)) ++ windowPairs ws

def groupAOf (words : List Word) : GroupA :=
  let v := fieldRead words 0
  { ringBase := v 0, slotBase := v 1, reportBase := v 2, storeBase := v 3, storeSize := v 4, bufferBase := v 5, bufferSize := v 6,
    holdLimit := v 7, passLimit := v 8 }

/-- The first relation that fails: the field reported (R178, log 22). -/
def relationFailure (g : GroupA) : Option Nat :=
  let ws := windowsOf g
  let outside := (ws.find? fun w => decide (0x1000000 < w.2.1 + w.2.2)).map fun w => w.1
  let overlap := ((windowPairs ws).find? fun p => windowsOverlap p.1 p.2).map fun p => max p.1.1 p.2.1
  let setup := (ws.find? fun w => decide (w.2.1 < 0x100)).map fun w => w.1
  outside <|> overlap <|> setup

/-- The first check of group A that fails: the field and its value (R178). -/
def groupAFailure (words : List Word) : Option (Nat × Nat) :=
  match (specA.map (checkField words 0)).find? fun c => c.defaulted with
  | some c => some (c.number, c.value)
  | none => (relationFailure (groupAOf words)).map fun n => (n, fieldRead words 0 n)

/-! ### The setup result (R183) -/

/-- The setup result changes, and IDENTITY is marked. -/
def setSetupResult (f : SetupResult → SetupResult) (s : State) : State :=
  mark .identity (s.onLoader fun l => { l with result := f l.result })

/-- The commit is COMPLETE (R183). -/
def completeCommit (s : State) : State :=
  setSetupResult (fun r => { r with busy := false }) (s.onLoader fun l => { l with commit := none })

/-- A group's code in the setup events. -/
def Activity.groupCode : Activity → Nat
  | .idle => 0
  | .readingA => 1
  | .readingB => 2
  | .readingC => 3

def raiseFieldDefaulted (group count first value : Nat) (s : State) : State :=
  raise { name := .setupFieldDefaulted, d0 := wordOfNat group, d1 := packPair count first, d2 := wordOfNat value } s

def raiseReadFault (a : Activity) (addr : Nat) (s : State) : State :=
  raise { name := .setupReadFault, d0 := wordOfNat a.groupCode, d1 := wordOfNat addr } s

/-- The result of a group B or C read: status, count, first field (R179, R181, R183). -/
def checkedResult (cs : List CheckedField) : GroupResult :=
  match cs.filter fun c => c.defaulted with
  | [] => { status := .accepted, count := 0, first := 0 }
  | c :: rest => { status := .defaulted, count := rest.length + 1, first := c.number }

/-- SETUP_FIELD_DEFAULTED, once for a read with a defaulted field. -/
def raiseDefaults (a : Activity) (cs : List CheckedField) (s : State) : State :=
  match cs.filter fun c => c.defaulted with
  | [] => s
  | c :: rest => raiseFieldDefaulted a.groupCode (rest.length + 1) c.number c.value s

/-! ### Publication (R88, R99, R101, R105, R125, R178, R179, R181, R189, R192) -/

/-- Why group A may not be read or published, as SETUP_DEFERRED gives it (R177); THREADED when both conditions fail (DESIGN
CHOICE, log 42). -/
def deferReason (s : State) : Option Nat :=
  if s.sequencer.transport ≠ .unthreaded then some 1
  else if s.intake.queue.isEmpty then none
  else some 2

/-- Group A is deferred (R177, R183). -/
def deferGroupA (reason : Nat) (s : State) : State :=
  setSetupResult (fun r => { r with groupA := { r.groupA with status := .deferred } })
    (raise { name := .setupDeferred, d0 := wordOfNat reason } s)

/-- The Window Map, the limits and the configured flag are replaced, a held read is answered RETRY and a sweep begins, its
first read not yet claimed (R164, R168, R172, R173, R178; the Configuration columns of R56, R94 and R143). -/
def publishGroupA (g : GroupA) (r : GroupResult) (s : State) : State :=
  let s1 := withdrawClaims OwnAccess.isSweep (retryHeld (s.onLoader fun l =>
    { l with groupA := g, commit := l.commit.map fun c => { c with awaitingSweep := true } }))
  let s2 := s1.onPath fun p => { p with configured := true, sweep := some 0 }
  let s3 := (s2.onSequencer fun q => { q with noShow := 0, settleCount := 0, seekTravel := 0 }).onServos fun v => { v with tracking := 0 }
  setSetupResult (fun x => { x with groupA := r }) s3

/-- An attempts count against the retry limit of its family (R125). -/
def clampAttempts (g : GroupB) (r : BlockRecord) : BlockRecord :=
  match r.state with
  | .filled | .armed | .recording | .awaitCheck | .verified | .failed => { r with attempts := min r.attempts (g.writeRetry + 1) }
  | .expecting | .received | .unreadable => { r with attempts := min r.attempts (g.readRetry + 1) }
  | .free => r

/-- A reel at the start of a LOAD (R88). -/
def freshReel (w : Nat) : ReelServo where
  w := w
  capture := IndexCapture.clear
  rejected := 0

/-- A new Mq: a COUNTING record counts from 0 again (R105). -/
def recountMarker (m : MarkerRecord) : MarkerRecord := if m.state = .counting then { m with steps := 0 } else m

/-- Group B is published: every owner takes up its values (R129, R181). -/
def publishGroupB (g : GroupB) (r : GroupResult) (s : State) : State :=
  let s1 := s.onLoader fun l => { l with groupB := g }
  let s2 := s1.onServos fun v => { v with supply := freshReel g.wInitSupply, takeup := freshReel g.wInitTakeup }
  let s3 := s2.onSensors fun n => { n with bot := recountMarker n.bot, eot := recountMarker n.eot }
  let s4 := (List.finRange 16).foldl (fun a i => setRecord i (clampAttempts g (a.record i)) a) s3
  setSetupResult (fun x => { x with groupB := r }) s4

/-- A running stability timer starts afresh with a new debounce time (R101). -/
def restartStability (ms : Nat) (r : SwitchRecord) : SwitchRecord := { r with timer := r.timer.map fun _ => ms }

/-- Group C is published (R99, R101, R179, R189, R192, R194). -/
def publishGroupC (g : GroupC) (r : GroupResult) (s : State) : State :=
  let s1 := clearWindowCounts (s.onLoader fun l => { l with groupC := g })
  let d := restartStability g.debounce
  let s2 := s1.onSensors fun n =>
    { n with supplyVacuum := d n.supplyVacuum, takeupVacuum := d n.takeupVacuum, door := d n.door, ring := d n.ring,
             tapeInPath := d n.tapeInPath }
  let s3 := s2.onReporter fun x => { x with refreshTimer := x.refreshTimer.map fun _ => g.refresh }
  setSetupResult (fun x => { x with groupC := r }) (followNotice (publishStyle g.style s3))

/-! ### Commits and reads (R175 to R177, R184) -/

/-- A commit of 1 or 2 is taken with the activity IDLE (R175, R177, R184). -/
def takeCommit (configure : Bool) (s : State) : State :=
  let s1 := setSetupResult (fun r => { r with lastCommit := if configure then 1 else 2, busy := true }) (s.onLoader fun l =>
    { l with commit := some { configure := configure, awaitingSweep := s.path.sweep.isSome, groupCDue := false } })
  if configure then
    match deferReason s1 with
    | none =>
      startGroupRead .readingA (s1.onLoader fun l => { l with commit := l.commit.map fun c => { c with groupCDue := true } })
    | some r => startGroupRead .readingC (deferGroupA r s1)
  else startGroupRead .readingC s1

/-- A valid setup commit (R175). -/
def setupCommit (configure : Bool) (s : State) : State :=
  if s.loader.activity = .idle then takeCommit configure s else s.onLoader fun l => { l with waitingCommit := some configure }

/-- The waiting work when the activity has become IDLE (R176). -/
def nextWork (s : State) : State :=
  if s.loader.activity ≠ .idle then s
  else if s.loader.waitingB then startGroupB (s.onLoader fun l => { l with waitingB := false })
  else
    match s.loader.waitingCommit, s.loader.commit with
    | some c, _ => takeCommit c (s.onLoader fun l => { l with waitingCommit := none })
    | none, some c =>
      if c.groupCDue then
        startGroupRead .readingC (s.onLoader fun l => { l with commit := some { c with groupCDue := false } })
      else s
    | none, none => s

/-- The activity returns to IDLE. -/
def readEnds (s : State) : State := s.onLoader fun l => { l with activity := .idle, words := [] }

/-- The first read of a sweep that this event has begun is claimed (R172). -/
def claimSweep (s : State) : State := makeClaim (.sweep 0) false s

/-- The group A read ends; `fault`: the address of the faulted read (R176 to R178). `setupFirst`: log 11. -/
def endGroupA (words : List Word) (fault : Option Nat) (setupFirst : Bool) (s : State) : State :=
  let s1 := readEnds s
  match deferReason s1 with
  | some r => nextWork (deferGroupA r s1)
  | none =>
    let s2 := match fault, groupAFailure words with
      | some a, _ => raiseReadFault .readingA a (publishGroupA GroupA.default { status := .readFault, count := 9, first := 0 } s1)
      | none, some (n, v) =>
        raise { name := .setupGroupADefaulted, d0 := wordOfNat n, d1 := wordOfNat v }
          (publishGroupA GroupA.default { status := .defaulted, count := 9, first := n } s1)
      | none, none => publishGroupA (groupAOf words) { status := .accepted, count := 0, first := 0 } s1
    if setupFirst then claimSweep (nextWork s2) else nextWork (claimSweep s2)

/-- The group B read ends: publication, then the active set (R67, R129). `setupFirst`: log 11. -/
def endGroupB (words : List Word) (fault : Option Nat) (setupFirst : Bool) (s : State) : State :=
  let s1 := readEnds s
  let s2 := match fault with
    | some a => raiseReadFault .readingB a (publishGroupB GroupB.default { status := .readFault, count := 30, first := 0 } s1)
    | none =>
      let cs := checkGroupB words
      raiseDefaults .readingB cs (publishGroupB (groupBOf cs) (checkedResult cs) s1)
  let s3 := s2.onSequencer fun q => { q with loadStage := if q.loadStage = .reading then .settling else q.loadStage }
  let p := s3.groupB.profileSet
  vacuumCheck (if setupFirst then settleActive p (nextWork s3) else nextWork (settleActive p s3))

/-- The group C read ends: publication, and the end of the commit's reads (R179, R184). The read's own setup event is raised
after the publication, so the new log style takes it and an emptying for KEEP does not remove it (R192 leaves either: DESIGN
CHOICE, log 43). -/
def endGroupC (words : List Word) (fault : Option Nat) (s : State) : State :=
  let s1 := readEnds s
  let s2 := match fault with
    | some a => raiseReadFault .readingC a (publishGroupC GroupC.default { status := .readFault, count := 7, first := 0 } s1)
    | none =>
      let cs := checkGroupC words
      raiseDefaults .readingC cs (publishGroupC (groupCOf cs) (checkedResult cs) s1)
  let s3 := match s2.loader.commit with
    | some c => if c.awaitingSweep then s2 else completeCommit s2
    | none => s2
  nextWork s3

/-- A group read ends. -/
def endGroupRead (a : Activity) (words : List Word) (fault : Option Nat) (setupFirst : Bool) (s : State) : State :=
  match a with
  | .idle => s
  | .readingA => endGroupA words fault setupFirst s
  | .readingB => endGroupB words fault setupFirst s
  | .readingC => endGroupC words fault s

/-- The answer to an own read of the Setup Block (R176). -/
def setupAnswered (word count : Nat) (answer : OwnAnswer) (setupFirst : Bool) (s : State) : State :=
  let a := s.loader.activity
  match answer with
  | .fault => endGroupRead a s.loader.words (some (4 * word)) setupFirst s
  | .done ws =>
    let words := s.loader.words ++ firstWords count ws
    match nextGroupRead a words.length with
    | some (w, n) => makeClaim (.setup w n) false (s.onLoader fun l => { l with words := words })
    | none => endGroupRead a words none setupFirst s

/-! ### The sweep (R25, R172, R184, R190) -/

/-- Eight consecutive words of a shadow replaced. -/
def setEight {n : Nat} (v : Vector Word n) (first : Nat) (ws : Vector Word 8) : Vector Word n :=
  (List.finRange 8).foldl (fun a j => if h : first + j.val < n then a.set (first + j.val) ws[j] else a) v

/-- The shadows of a piece of the sweep are replaced (R172). -/
def setSwept (j : Nat) (ws : Vector Word 8) (s : State) : State :=
  s.onPath fun p =>
    if j < 8 then { p with descriptors := setEight p.descriptors (8 * j) ws } else { p with slots := setEight p.slots (8 * (j - 8)) ws }

/-- The state code FILLED. -/
def filledCode : Nat := 1

/-- A block record as the rebuild makes it, and whether its entry was FILLED but invalid (R25). -/
def rebuildRecord (i : Fin 16) (s : State) : State :=
  if (s.descriptorWord i 2).toNat = filledCode then
    if entryValid (s.descriptorWord i 0) (s.descriptorWord i 1) s.loader.groupA.bufferSize then
      setRecord i (filledRecord (s.descriptorWord i 0) (s.descriptorWord i 1)) s
    else raise { name := .descriptorInvalid, index := some i } s
  else s

/-- The Block Table with every record FREE, both cursors 0, no order context and the out-of-turn flag clear; all sixteen
block reports dirty (R25). -/
def emptyTable (s : State) : State :=
  blockReports.foldl (fun a n => mark n a) (s.onTracker fun _ => Tracker.reset)

/-- The Block Table is rebuilt from the shadows (R25), entry by entry in index order, so several DESCRIPTOR_INVALID events of
one rebuild are raised in that order (DESIGN CHOICE, log 47). -/
def rebuildTable (s : State) : State := (List.finRange 16).foldl (fun a i => rebuildRecord i a) (emptyTable s)

/-- The Setup Loader is told that the sweep has ended (R184). -/
def sweepTold (s : State) : State :=
  match s.loader.commit with
  | none => s
  | some c =>
    let reads := c.groupCDue || decide (s.loader.activity = .readingA) || decide (s.loader.activity = .readingC)
    let s1 := s.onLoader fun l => { l with commit := some { c with awaitingSweep := false } }
    if reads then s1 else completeCommit s1

/-- The Report Writer is told that the device is configured (R190). -/
def reportTold (s : State) : State := s.onReporter fun r => { r with configured := true, dirty := allRecords }

/-- The sweep ends (R172). -/
def endSweep (s : State) : State := reportTold (sweepTold (rebuildTable (s.onPath fun p => { p with sweep := none })))

/-- The answer to the k-th sweep read (R172). -/
def sweepAnswered (k addr : Nat) (answer : OwnAnswer) (s : State) : State :=
  let piece := sweepPiece s.loader.groupA k
  let s1 := match answer with
    | .done ws => setSwept piece ws s
    | .fault => raise { name := .busFault, d0 := wordOfNat addr, d1 := 8 } (setSwept piece (Vector.replicate 8 0) s)
  if k < 11 then makeClaim (.sweep (k + 1)) false (s1.onPath fun p => { p with sweep := some (k + 1) }) else endSweep s1

end Sys2Proof.Machine
end

