-- ==== Sys2Proof/Machine/Orders.lean ====
section
/-! DEFINITION. Order Intake: commits, immediate orders, HALT and SOFT_RESET (8.1, 8.2, 8.5, R52, R141). -/

namespace Sys2Proof.Machine

/-! ### HALT (R52, R141, R152) -/

/-- The stop of a HALT in REWINDING (R141). -/
def haltRewind (s : State) : State :=
  let s1 := s.onSequencer fun q => { q with haltStop := true }
  if s.rewindStep = some .final then s1 else stopRequest .rewindStop s1

/-- What HALT and SOFT_RESET do to the motion (R52, R141, R158). -/
def haltMotion (s : State) : State :=
  match s.sequencer.transport with
  | .starting | .running => stopMotion s
  | .rewinding => haltRewind s
  | .loading | .unloading => setTransport .faulted none (dropMotion s)
  | .stopping | .stopped | .unthreaded | .faulted => s

/-- HALT: the motion, then the running order ABORTED (R52, R152). -/
def haltDeck (s : State) : State :=
  let s1 := haltMotion s
  if s1.intake.running.isSome then cutOrder .aborted .halt false s1 else s1

/-! ### SOFT_RESET (R25, R56, R66, R126, R143, R158) -/

/-- The sequencer's order state after SOFT_RESET (R56, R143). -/
def softSequencer (q : Sequencer) : Sequencer :=
  { clearOrderState q with noShow := 0, writeMode := false, settleCount := 0, seekTravel := 0, phaseTimer := none }

/-- SOFT_RESET, but for the slot's own result (R158). The notice pending set is emptied after what is raised here; what the
motion's end lets follow in the same event, a LOAD's settlement that waited for it, raises its events after the emptying
(DESIGN CHOICE, log 45). -/
def softReset (s : State) : State :=
  let s1 := cutOrder .aborted .softReset true (haltMotion s)
  let s2 := setSuspended false (cancelQueue .softReset s1)
  let s3 := dropSelections s2
  let s4 := emptyTable (retryHeld s3)
  let s5 := (s4.onSequencer softSequencer).onServos fun v => { v with tracking := 0 }
  setCeiling 9 (setPendingClasses 0 s5)

/-! ### Immediate orders (R152 to R158) -/

/-- ACK removes the named classes (R155, R193). -/
def ackClasses (named : Nat) (s : State) : State :=
  setPendingClasses (s.reporter.pendingClasses &&& ~~~ BitVec.ofNat 9 named) s

/-- The selection that argument B names (R146, R157). -/
def selectionOf (b : Nat) : Option Nat := if b = Config.allOnes then none else some b

/-- The effect of an accepted order, its result set (R149, R152 to R158). -/
def orderEffect (o : OrderCode) (i : Fin 8) (arg : Nat) (s : State) : State :=
  match o with
  | .halt => haltDeck s
  | .flush => cancelQueue .flush s
  | .resume => setSuspended false s
  | .ack => ackClasses arg s
  | .ceiling => setCeiling arg s
  | .profileSelect => selectSet (selectionOf arg) i s
  | .softReset => softReset s
  | .load | .unload | .rewind | .write | .readFwd | .readBwd | .spaceFwd | .spaceBwd | .erase => setQueue (s.intake.queue ++ [i]) s

/-! ### Commits (R144 to R149) -/

/-- The outcome that an accepted commit gives the result (R148). -/
def OrderCode.acceptedOutcome (o : OrderCode) : Outcome :=
  if o.queued then .queued else if o = .profileSelect then .pending else .done

/-- QUEUED, RUNNING or PENDING (R145). -/
def Outcome.busy : Outcome → Bool
  | .queued | .running | .pending => true
  | _ => false

/-- An order as taken from the slot's shadows (R144). -/
def takenFrom (i : Fin 8) (arg : Nat) (clamped : Bool) (s : State) : TakenOrder :=
  let w := s.slotWord i 3
  { code := commitCode w, arg := arg, clamped := clamped, tag := s.slotWord i 2, seq := commitSeq w }

/-- A commit is taken into a slot: the taken order and the result (R144, R147). -/
def recordCommit (i : Fin 8) (t : TakenOrder) (o : Outcome) (r : Reason) (finalT : Int) (s : State) : State :=
  let s1 := s.onIntake fun k => { k with taken := k.taken.set i t }
  setResult i (fun _ => { code := t.code, tag := t.tag, seq := t.seq, outcome := o, reason := r, arg := t.arg,
                          clamped := t.clamped, blocks := 0, finalT := finalT }) s1

/-- A commit refused at step 2 or 3 (R145). -/
def refuseCommit (i : Fin 8) (arg : Nat) (r : Reason) (s : State) : State :=
  let t := takenFrom i arg false s
  let s1 := recordCommit i t .refused r s.tapePos s
  raise { name := .orderRefused, slot := some i, d0 := packPair t.code t.seq, d1 := wordOfNat r.code } s1

/-- A commit accepted: its result and its effect (R145, R148). -/
def acceptCommit (o : OrderCode) (i : Fin 8) (u : ArgumentUse) (s : State) : State :=
  let t := takenFrom i u.used u.clamped s
  let out := o.acceptedOutcome
  let (x, s1) := if out = .done then (s.tapePos, s) else takeFree s
  orderEffect o i u.used (recordCommit i t out .none x s1)

/-- A commit is judged (R145). -/
def judgeCommit (i : Fin 8) (s : State) : State :=
  let w := s.slotWord i 3
  if (s.intake.results[i]).outcome.busy then
    raise { name := .slotBusy, slot := some i, d0 := packPair (commitCode w) (commitSeq w) } s
  else
    match orderOfCode (commitCode w) with
    | none => refuseCommit i 0 .unknownOrder s
    | some o =>
      let u := argumentOf o (s.slotWord i 0) (s.slotWord i 1) s.loader.groupA.storeSize
      if u.accepted then acceptCommit o i u s else refuseCommit i u.used .badArgument s

/-- A word of the slot shadow replaced by its merge (R165). -/
def mergeSlot (k : Fin 32) (w : BusWord) (s : State) : State :=
  s.onPath fun p => { p with slots := p.slots.set k (mergeWord p.slots[k] w) }

/-- A write to word 3 of a slot, merged and taken as a commit (R144, R165). -/
def slotWrite (i : Fin 8) (w : BusWord) (s : State) : State :=
  judgeCommit i (mergeSlot (⟨4 * i.val + 3, by omega⟩ : Fin 32) w s)

/-- A whole-word commit as a command; without configuration the slots are not watched (R144, log 4). -/
def slotCommand (i : Fin 8) (code seq : Byte) (s : State) : State :=
  if s.path.configured then finishEvent (slotWrite i (fullWord (commitWordOf code seq)) s) else s

/-- The same for the orders whose effect brings nothing else about: FLUSH, ACK, CEILING and refused commits. -/
def quietSlotCommand (i : Fin 8) (code seq : Byte) (s : State) : State :=
  if s.path.configured then slotWrite i (fullWord (commitWordOf code seq)) s else s

end Sys2Proof.Machine
end

