-- ==== Sys2Proof/Machine/Reports.lean ====
section
/-! DEFINITION. The Report Writer: images of the records (12.2) and their writes (R187, R188). -/

namespace Sys2Proof.Machine

/-! ### Words of an image (R197) -/

/-- A value in a field of `width` bits whose lowest is bit `low`. -/
def bitsAt (low width v : Nat) : Nat := (v % 2 ^ width) * 2 ^ low

/-- A flag in bit `low`. -/
def flagAt (low : Nat) (b : Bool) : Nat := if b then 2 ^ low else 0

/-- A word of an image from its fields. -/
def wordOf (fields : List Nat) : Word := wordOfNat fields.sum

/-- An optional tape coordinate; absent it is 0x80000000 (R197). -/
def coordWord (c : Option Int) : Word :=
  match c with
  | some x => wordOfInt x
  | none => 0x80000000#32

/-- The word of an update number. -/
def updateWord (u : BitVec 16) : Word := u.setWidth 32

/-- A record's words between its two update numbers. -/
def framed (u : BitVec 16) (inner : List Word) : List Word := updateWord u :: (inner ++ [updateWord u])

/-! ### IDENTITY and STATUS -/

def identityImage (s : State) : List Word :=
  let r := s.loader.result
  [identityWord1, identityWord2,
   wordOf [flagAt 0 s.path.configured, flagAt 1 r.busy, bitsAt 2 2 r.lastCommit, bitsAt 8 3 r.groupA.status.code,
           bitsAt 12 3 r.groupB.status.code, bitsAt 16 3 r.groupC.status.code],
   wordOf [bitsAt 0 8 r.groupA.count, bitsAt 8 8 r.groupB.count, bitsAt 16 8 r.groupC.count],
   wordOf [bitsAt 0 8 r.groupA.first, bitsAt 8 8 r.groupB.first, bitsAt 16 8 r.groupC.first], 0]

/-- AT_LOAD_POINT (R29). -/
def State.atLoadPoint (s : State) : Bool := decide (s.sequencer.transport = .stopped) && decide (s.tapePos ≤ 0)

/-- PAST_EOT (R29). -/
def State.pastEot (s : State) : Bool :=
  match s.sequencer.eot with
  | some c => decide (c < s.tapePos)
  | none => false

/-- Word 1 of STATUS. -/
def statusState (s : State) : Word :=
  let q := s.sequencer
  let phase := match q.phase with
    | some p => p.code
    | none => 0
  let step := match q.rewindStep with
    | some r => r.code
    | none => 0
  wordOf [bitsAt 0 4 q.transport.code, bitsAt 4 3 phase, bitsAt 8 3 step, bitsAt 12 2 (directionCode q.dir),
          bitsAt 16 3 (purposeCode q.purpose), bitsAt 20 2 s.servos.driveMode.code, flagAt 24 s.servos.brake, flagAt 25 q.writeMode,
          flagAt 26 q.vacuumRequest, flagAt 27 q.trusted, flagAt 28 s.atLoadPoint, flagAt 29 s.pastEot,
          flagAt 30 s.sensors.windowArmed, flagAt 31 (decide (q.gapKind = .loadPoint))]

/-- Word 11 of STATUS: switches, markers, cursors, no-show count. -/
def statusSensors (s : State) : Word :=
  let n := s.sensors
  wordOf [flagAt 0 n.supplyVacuum.debounced, flagAt 1 n.takeupVacuum.debounced, flagAt 2 n.door.debounced,
          flagAt 3 n.ring.debounced, flagAt 4 n.tapeInPath.debounced, flagAt 5 n.supplyVacuum.settled,
          flagAt 6 n.takeupVacuum.settled, flagAt 7 n.door.settled, flagAt 8 n.ring.settled, flagAt 9 n.tapeInPath.settled,
          flagAt 10 n.bot.level, bitsAt 11 2 n.bot.state.code, flagAt 13 n.eot.level, bitsAt 14 2 n.eot.state.code,
          bitsAt 16 4 s.tracker.recordCursor.val, bitsAt 20 4 s.tracker.receiveCursor.val, bitsAt 24 5 s.sequencer.noShow]

def recoveryCode : Option Recovery → Nat
  | none => 0
  | some r => match r.kind with
    | .write => 1
    | .read => 2

/-- Word 12 of STATUS: notices, queue, recovery. -/
def statusOrders (s : State) : Word :=
  let r := s.reporter
  let running := match s.intake.running with
    | some i => i.val
    | none => 0
  let index := match s.sequencer.recovery with
    | some c => c.index.val
    | none => 0
  wordOf [bitsAt 0 9 r.pendingClasses.toNat, bitsAt 9 4 (highestPending r.pendingClasses), bitsAt 13 4 r.ceiling,
          bitsAt 17 4 s.intake.queue.length, flagAt 21 s.intake.suspended, flagAt 22 s.intake.running.isSome, bitsAt 23 3 running,
          bitsAt 26 2 (recoveryCode s.sequencer.recovery), bitsAt 28 4 index]

def statusImage (s : State) : List Word :=
  let q := s.sequencer
  [statusState s, wordOfInt s.tapePos, wordOfInt (Int.tdiv s.generator.p 256), wordOfInt q.anchor,
   if q.transport = .loading then wordOfNat q.seekTravel else coordWord q.recordPoint, coordWord q.eot,
   wordOf [bitsAt 0 14 s.generator.v, bitsAt 16 14 s.gapAfterAnchor],
   wordOf [bitsAt 0 10 s.sensors.supply.x, bitsAt 16 10 s.sensors.takeup.x],
   wordOf [bitsAt 0 16 s.servos.supply.w, bitsAt 16 16 s.servos.takeup.w],
   wordOf [bitsAt 0 16 s.servos.supply.rejected, bitsAt 16 16 s.servos.takeup.rejected],
   statusSensors s, statusOrders s, s.generator.active.label, wordOfNat s.reporter.dropped]

/-! ### RESULT, BLOCK, LOG_HEADER and LOG -/

/-- Zero contents between the update numbers of an 8-word record. -/
def zeroContents : List Word := List.replicate 6 0

def resultImage (i : Fin 8) (r : OrderResult) : List Word :=
  if r.outcome = .none then zeroContents
  else
    [wordOf [bitsAt 0 3 i.val, bitsAt 8 8 r.code, bitsAt 16 8 r.seq, flagAt 24 r.clamped],
     wordOf [bitsAt 0 8 r.outcome.code, bitsAt 8 8 r.reason.code], r.tag, wordOfNat r.arg, wordOfNat r.blocks, wordOfInt r.finalT]

def blockImage (i : Fin 16) (r : BlockRecord) : List Word :=
  let slot := match r.slot with
    | some k => k.val
    | none => 0
  [wordOf [bitsAt 0 4 r.state.code, flagAt 4 (decide (r.kind = .mark)), flagAt 5 r.longGap, bitsAt 8 5 r.attempts,
           flagAt 15 r.slot.isSome, bitsAt 16 3 slot, bitsAt 20 2 (directionCode r.dirReceived), bitsAt 24 4 i.val],
   wordOf [bitsAt 0 16 r.length], wordOfNat r.offset, wordOfNat r.tapeLength,
   coordWord (r.coords.map fun c => c.start), coordWord (r.coords.map fun c => c.stop)]

def headerImage (s : State) : List Word :=
  let r := s.reporter
  [wordOfNat r.nextSeq,
   wordOf [bitsAt 0 4 r.stored, bitsAt 8 3 r.writeIndex.val, bitsAt 16 2 s.loader.groupC.style.code], wordOfNat r.dropped, 0, 0, 0]

def logImage (g : Option LogRecord) : List Word :=
  match g with
  | none => zeroContents
  | some g =>
    let slot := match g.slot with
      | some k => k.val
      | none => 0
    let index := match g.index with
      | some k => k.val
      | none => 0
    [wordOfNat g.seq,
     wordOf [bitsAt 0 8 g.event.code, bitsAt 8 4 g.event.noticeClass.val, bitsAt 16 3 slot, flagAt 19 g.slot.isSome,
             bitsAt 24 4 index, flagAt 28 g.index.isSome],
     wordOfInt g.t, g.d0, g.d1, g.d2]

/-- A record's image as the owning blocks stand (R187, R197). -/
def imageOf (n : RecordName) (u : BitVec 16) (s : State) : List Word :=
  framed u (match n with
    | .identity => identityImage s
    | .status => statusImage s
    | .result i => resultImage i s.intake.results[i]
    | .block i => blockImage i (s.record i)
    | .logHeader => headerImage s
    | .log p => logImage s.reporter.log[p])

/-! ### Record writes (R187, R188) -/

/-- Word offset of a record in the Report Area (11.1). -/
def RecordName.wordOffset : RecordName → Nat
  | .identity => 0
  | .status => 8
  | .result i => 24 + 8 * i.val
  | .block i => 88 + 8 * i.val
  | .logHeader => 216
  | .log p => 224 + 8 * p.val

/-- The Report Writer takes up the first record of the dirty list (R187). -/
def beginRecordWrite (n : RecordName) (rest : List RecordName) (s : State) : State :=
  let u := s.reporter.updates[n.index] + 1#16
  let image := imageOf n u s
  let s1 := s.onReporter fun r =>
    { r with dirty := rest, updates := r.updates.set n.index u, images := r.images.set n.index image,
             writing := some { name := n, second := false } }
  makeClaim (.report n.wordOffset (image.take 8)) false s1

/-- The occasion of a record write, and the dirty list's first name (R187). -/
def recordWriteDue (s : State) : Option (RecordName × List RecordName) :=
  if s.reporter.configured && s.reporter.writing.isNone && !outstanding OwnAccess.isReport s then
    match s.reporter.dirty with
    | n :: rest => some (n, rest)
    | [] => none
  else none

/-- The answer to a report access (R187, R188). -/
def reportAnswered (done : Bool) (s : State) : State :=
  match s.reporter.writing with
  | none => s
  | some w =>
    if done then
      if decide (w.name = .status) && !w.second then
        makeClaim (.report (w.name.wordOffset + 8) ((s.reporter.images[w.name.index]).drop 8)) false
          (s.onReporter fun r => { r with writing := some { w with second := true } })
      else s.onReporter fun r => { r with writing := none }
    else mark w.name (s.onReporter fun r => { r with writing := none })

/-- The refresh timer expires: STATUS is marked and the timer starts again (R189). -/
def refreshExpiry (s : State) : State :=
  match s.reporter.refreshTimer with
  | some _ => markStatus (s.onReporter fun r => { r with refreshTimer := some s.loader.groupC.refresh })
  | none => s

end Sys2Proof.Machine
end

