-- ==== Sys2Proof/Machine/Bus.lean ====
section
/-! DEFINITION. Deck-bus transactions and memory's answers (9.1 to 9.4, R19 to R22). -/

namespace Sys2Proof.Machine

/-! ### Arrivals (R19 to R22, R161, R162, R167) -/

def txnAddr : BusTxn → Nat
  | .read a _ => a.toNat
  | .write a _ => a.toNat

def txnCount : BusTxn → Nat
  | .read _ n => n
  | .write _ ws => ws.length

/-- The words run past the top of the address space (R162). -/
def pastTop (t : BusTxn) : Bool := decide (0xFFFFFC < txnAddr t + 4 * (txnCount t - 1))

/-- A read of a FILLED record's first word: RETRY, and OUT_OF_TURN_READ once for an arming (R22). -/
def filledRead (i : Fin 16) (s : State) : State :=
  if i = s.tracker.recordCursor ∨ s.tracker.outOfTurn = true then answerUpper .retry s
  else answerUpper .retry (raiseBlock .outOfTurnRead i 0 0 (s.onTracker fun k => { k with outOfTurn := true }))

/-- A read of the ARMED record's first word: released, held, or RETRY with a hold limit of 0 (R20, R21, R167, R168). -/
def armedRead (i : Fin 16) (t : BusTxn) (s : State) : State :=
  match s.sequencer.recordPoint with
  | some r =>
    if releaseCondition s then passClaim t (releaseBlock i r s)
    else if s.loader.groupA.holdLimit = 0 then answerUpper .retry s
    else s.onPath fun p => { p with upper := some { txn := t, stage := .held s.loader.groupA.holdLimit } }
  | none => answerUpper .retry s

/-- A read arrives: the tracker's answer to its first word (R19, R167). -/
def readArrives (t : BusTxn) (s : State) : State :=
  match firstWordMatch (txnAddr t) s with
  | none => passClaim t s
  | some i => if (s.record i).state = .armed then armedRead i t s else filledRead i s

/-- A transaction arrives at a free upper port (R161, R162). -/
def txnArrives (t : BusTxn) (s : State) : State :=
  if pastTop t then answerUpper .fault s
  else
    match t with
    | .read _ _ => readArrives t s
    | .write _ _ => passClaim t s

/-- A transaction on the deck bus; while one is being served the requester issues no other (R161, log 3). -/
def busTransaction (t : BusTxn) (s : State) : State :=
  match s.path.upper with
  | some _ => s
  | none => finishEvent (txnArrives t (clearAnswers s))

/-- The transaction that the requester issues with an answer, if any (log 12). -/
def nextTransaction (n : Option BusTxn) (s : State) : State :=
  match n with
  | some t => txnArrives t s
  | none => s

/-! ### Watched words (R1, R144, R163, R165, R166) -/

/-- What a watched word is. -/
inductive Watched where
  | commit
  | descriptor (k : Fin 64)
  | slot (k : Fin 32)
  deriving DecidableEq, Repr

/-- A window's word at an address, if the address lies in it. -/
def wordIn (base words addr : Nat) : Option (Fin words) :=
  if h : base ≤ addr ∧ (addr - base) / 4 < words then some ⟨(addr - base) / 4, h.2⟩ else none

/-- Classification of a write word by the map in force (R163, R164). -/
def classify (g : GroupA) (configured : Bool) (addr : Nat) : Option Watched :=
  if addr = 4 * 63 then some .commit
  else if configured then
    match wordIn g.ringBase 64 addr with
    | some k => some (.descriptor k)
    | none => (wordIn g.slotBase 32 addr).map .slot
  else none

/-- The setup commit by its value (R175). -/
def setupValue (w : Word) (s : State) : State :=
  if w = 1#32 then setupCommit true s
  else if w = 2#32 then setupCommit false s
  else raiseFieldDefaulted 0 0 63 w.toNat s

/-- A write to the setup commit word, merged and handed on (R165, R175). -/
def commitWrite (w : BusWord) (s : State) : State :=
  let s1 := s.onPath fun p => { p with commitWord := mergeWord p.commitWord w }
  setupValue s1.path.commitWord s1

/-- A watched word acts (R165). -/
def watchedWrite (x : Watched) (w : BusWord) (s : State) : State :=
  match x with
  | .commit => commitWrite w s
  | .descriptor k =>
    if k.val % 4 = 2 then descriptorWrite ⟨k.val / 4, by omega⟩ w s else mergeDescriptor k w s
  | .slot k => if k.val % 4 = 3 then slotWrite ⟨k.val / 4, by omega⟩ w s else mergeSlot k w s

/-- The words of a write answered DONE, in address order, each whole before the next (R165). -/
def wordsAct : List BusWord → Nat → State → State
  | [], _, s => s
  | w :: ws, addr, s =>
    match classify s.loader.groupA s.path.configured addr with
    | some x => wordsAct ws (addr + 4) (react reactFuel (watchedWrite x w s))
    | none => wordsAct ws (addr + 4) s

/-- Addresses of the watched words of a write (R166). -/
def watchedAddrs (ws : List BusWord) (addr : Nat) (s : State) : List Nat :=
  ((List.range ws.length).map fun j => addr + 4 * j).filter fun a =>
    (classify s.loader.groupA s.path.configured a).isSome

/-- A write answered FAULT: BUS_FAULT when a word is watched (R166). -/
def writeFaulted (ws : List BusWord) (addr : Nat) (s : State) : State :=
  match watchedAddrs ws addr s with
  | [] => s
  | a :: rest => raise { name := .busFault, d0 := wordOfNat a, d1 := wordOfNat (rest.length + 1) } s

/-! ### Memory's answers -/

/-- The pass-through transaction at memory. -/
def atMemory (s : State) : Option BusTxn :=
  match s.path.port, s.path.upper with
  | some .passThrough, some ⟨t, .atMemory⟩ => some t
  | _, _ => none

/-- A pass-through read is answered: the answer goes upstream unchanged (R161). -/
def passReadAnswered (a : PassAnswer) (next : Option BusTxn) (s : State) : State :=
  match atMemory s with
  | some (.read _ _) =>
    let up : BusAnswer := match a with
      | .done ws => .done ws
      | .fault => .fault
    finishEvent (nextTransaction next (answerUpper up (freePort (clearAnswers s))))
  | _ => s

/-- A pass-through write is answered: on DONE its watched words act (R165, R166). -/
def passWriteAnswered (done : Bool) (next : Option BusTxn) (s : State) : State :=
  match atMemory s with
  | some (.write addr ws) =>
    let s1 := answerUpper (if done then .done [] else .fault) (freePort (clearAnswers s))
    let s2 := if done then wordsAct ws addr.toNat s1 else writeFaulted ws addr.toNat s1
    finishEvent (nextTransaction next s2)
  | _ => s

/-- The own access at memory, if it is of a kind: access, address, and whether its answer is discarded. -/
def ownAtMemory (f : OwnAccess → Bool) (s : State) : Option (OwnAccess × Nat × Bool) :=
  match s.path.port with
  | some (.own a addr d) => if f a then some (a, addr, d) else none
  | _ => none

/-- Memory answers an own access of a kind: the port is FREE, and the claimant acts unless the answer is discarded
(R162, R169). -/
def ownAnswered (f : OwnAccess → Bool) (act : OwnAccess → Nat → State → State) (s : State) : State :=
  match ownAtMemory f s with
  | none => s
  | some (a, addr, d) => finishEvent (if d then freePort s else act a addr (freePort s))

/-- A segment fetch is answered (R70). -/
def fetchAct (answer : OwnAnswer) (a : OwnAccess) (addr : Nat) (s : State) : State :=
  match a with
  | .fetch _ head => fetchAnswered addr head answer s
  | _ => s

/-- A setup read is answered (R176). -/
def setupAct (answer : OwnAnswer) (setupFirst : Bool) (a : OwnAccess) (_addr : Nat) (s : State) : State :=
  match a with
  | .setup w n => setupAnswered w n answer setupFirst s
  | _ => s

/-- A sweep read is answered (R172). -/
def sweepAct (answer : OwnAnswer) (a : OwnAccess) (addr : Nat) (s : State) : State :=
  match a with
  | .sweep k => sweepAnswered k addr answer s
  | _ => s

/-- A whole-word write of the setup commit word as a command (log 4). -/
def commitCommand (w : Word) (s : State) : State := finishEvent (commitWrite (fullWord w) s)

/-- The hold timer expires (R21, R168). -/
def holdExpiry (s : State) : State := retryHeld s

end Sys2Proof.Machine
end

