-- ==== Sys2Proof/Machine/Deck.lean ====
section
/-! DEFINITION. The deck's inputs: encoder counts, index pulses, switches and markers (R79, R86, R87, R100 to R107, R134). -/

namespace Sys2Proof.Machine

/-! ### Encoder counts (R79, R105, R134) -/

/-- One step in a direction. -/
def stepOf : Direction → Int
  | .forward => 1
  | .backward => -1

/-- T after a count (R79). -/
def countStep (d : Direction) (s : State) : State := s.onServos fun v => { v with t := v.t + stepOf d }

/-- The seek travel count (R134). -/
def countSeek (s : State) : State :=
  if s.seeking then s.onSequencer fun q => { q with seekTravel := min (q.seekTravel + 1) Config.seekCountCap } else s

/-- Step count of a COUNTING record after a count of driven motion (R105). -/
def stepsAfter (d : Direction) (m : MarkerRecord) : Nat := if m.dir = some d then m.steps + 1 else 1

/-- A marker record at a count of driven motion qualifies (R105). -/
def qualifiesNow (d : Direction) (mq : Nat) (m : MarkerRecord) : Bool :=
  decide (m.state = .counting) && decide (mq ≤ stepsAfter d m)

/-- A marker record after a count (R105); `driven`: the direction of motion is present. -/
def markerCount (d : Direction) (driven : Bool) (mq : Nat) (m : MarkerRecord) : MarkerRecord :=
  if driven && decide (m.state = .counting) then
    { m with steps := stepsAfter d m, dir := some d, state := if qualifiesNow d mq m then .qualified else .counting }
  else m

/-- A marker takes a count, and its qualification is handed on in the same event (R105, R106). -/
def countMarker (m : Marker) (d : Direction) (s : State) : State :=
  let driven := s.generator.dir.isSome
  let mq := s.groupB.mq
  let old := s.sensors.marker m
  let s1 := s.onSensors fun n => n.setMarker m (markerCount d driven mq old)
  if driven && qualifiesNow d mq old then markerQualified m d s1 else s1

/-- Limit of a seek (R134). -/
def seekLimit (o : Option SeekOrigin) : Nat :=
  match o with
  | some .fromFault => Config.seekLimitFault
  | _ => Config.seekLimitFresh

/-- The seek travel count exceeds its limit with the LOAD not settled (R134). -/
def seekTooFar (s : State) : Bool :=
  s.seeking && s.sequencer.fixed.isNone && decide (seekLimit s.sequencer.seekOrigin < s.sequencer.seekTravel) &&
    !(decide (s.sequencer.seekLeg = some .finalCreep) && s.sequencer.legMarked)

/-- The seek limit ends the search (R134). -/
def checkSeekLimit (s : State) : State :=
  if seekTooFar s then
    let s1 := fixOutcome .failed .noLoadPoint s
    match s.sequencer.seekLeg with
    | some l => stopRequest l.stopChain s1
    | none => s1
  else s

/-- An encoder count, with all that it brings about (R79). Where the same count qualifies a marker and makes a position
condition true, the qualification is taken first, and BOT's record is counted and acted on before EOT's (DESIGN CHOICE,
log 9); the seek limit is tested after both (DESIGN CHOICE, log 32). -/
def encoderCount (d : Direction) (s : State) : State :=
  finishEvent (checkSeekLimit (countMarker .eot d (countMarker .bot d (countSeek (countStep d s)))))

/-- The seek limit is exceeded at the next count. -/
def seekLimitDue (d : Direction) (s : State) : Bool :=
  seekTooFar (countMarker .eot d (countMarker .bot d (countSeek (countStep d s))))

/-! ### Index pulses (R86, R87) -/

/-- The weighted mean of an accepted measurement (R87). -/
def refineW (w meas : Nat) : Nat := (3 * w + meas) / 4

/-- A pulse that is rejected (R86, R87). -/
def rejectPulse (r : ReelServo) : ReelServo := { r with rejected := min (r.rejected + 1) Config.rejectedCap }

/-- The measurement of a pulse with a reference (R86, R87). -/
def measurePulse (t : Int) (d : Direction) (ref : CaptureRef) (lo hi : Nat) (r : ReelServo) : ReelServo :=
  let meas := (t - ref.pos).natAbs
  if ref.dir = d ∧ r.capture.broken = false ∧ lo ≤ meas ∧ meas ≤ hi then { r with w := refineW r.w meas } else rejectPulse r

/-- What a reel's servo holds after an index pulse (R86). -/
def pulseTaken (t : Int) (d : Option Direction) (lo hi : Nat) (r : ReelServo) : ReelServo :=
  match d, r.capture.ref with
  | none, none => r
  | none, some _ => { rejectPulse r with capture := { r.capture with ref := none } }
  | some d, none => { r with capture := { ref := some { pos := t, dir := d }, broken := false } }
  | some d, some ref => { measurePulse t d ref lo hi r with capture := { ref := some { pos := t, dir := d }, broken := false } }

/-- The pulse would be measured and accepted (R87). -/
def pulseAccepted (t : Int) (d : Option Direction) (lo hi : Nat) (r : ReelServo) : Bool :=
  match d, r.capture.ref with
  | some d, some ref =>
    decide (ref.dir = d) && !r.capture.broken && decide (lo ≤ (t - ref.pos).natAbs) && decide ((t - ref.pos).natAbs ≤ hi)
  | _, _ => false

/-- An index pulse; an accepted measurement marks STATUS (R87, R107). -/
def indexPulse (reel : Reel) (s : State) : State :=
  let r := s.servos.reel reel
  let lo := s.groupB.wMin
  let hi := s.groupB.wMax
  let d := s.generator.dir
  markStatusIf (pulseAccepted s.tapePos d lo hi r) (s.onServos fun v => v.setReel reel (pulseTaken s.tapePos d lo hi r))

/-! ### Switches (R100 to R104) -/

/-- What of a column's persistence count a VACUUM_LOST stop leaves to count on (R102, log 37). -/
def cutOf (c : ColumnRecord) : Option Nat := if c.outside = 0 then none else some c.outside

/-- VACUUM_LOST has made its stop: a column counting at the time counts on (R102, log 37). -/
def keepCounts (before : Sensors) (s : State) : State :=
  s.onSensors fun n =>
    { n with supply := { n.supply with cut := cutOf before.supply }, takeup := { n.takeup with cut := cutOf before.takeup } }

/-- With both vacuum switches LOST there is no second loss to watch for (R102, log 37). -/
def followLoss (s : State) : State :=
  s.onSensors fun n => { n with lossWatch := n.lossWatch && (n.supplyVacuum.debounced || n.takeupVacuum.debounced) }

/-- FAULTED by an emergency stop made with the vacuum supervised: the second loss is watched for (R92, R102, log 37). -/
def State.lossWatched (s : State) : Bool := decide (s.sequencer.transport = .faulted) && s.sensors.lossWatch

/-- VACUUM_LOST and the emergency request (R102). -/
def vacuumLost (c : Reel) (s : State) : State :=
  let s1 := emergencyStop (raise { name := .vacuumLost, d0 := wordOfNat (columnCode c) } s)
  followLoss (if s.supervised then keepCounts s.sensors s1 else s1)

/-- A vacuum switch was accepted MADE or LOST (R102, R130). R102 gives the second loss, taken in FAULTED, its event (with
R92), and says that a loss not supervised raises none: the model watches for the second loss after a stop made with the
vacuum supervised (DESIGN CHOICE, log 37). -/
def vacuumChanged (c : Reel) (made : Bool) (s : State) : State :=
  if !made && (s.supervised || s.lossWatched) then vacuumLost c s else vacuumCheck s

/-- The door was accepted CLOSED or OPEN (R103). -/
def doorChanged (closed : Bool) (s : State) : State :=
  if !closed && decide (s.sequencer.transport ≠ .unthreaded) then emergencyStop (raise { name := .doorOpened } s) else s

/-- UNLOADING in phase RELEASE. -/
def State.releasing (s : State) : Bool :=
  decide (s.sequencer.transport = .unloading) && decide (s.sequencer.phase = some .release)

/-- The tape-in-path switch was accepted PRESENT or CLEAR (R103, R140). -/
def pathChanged (present : Bool) (s : State) : State :=
  if present then s
  else if s.releasing then completeUnload s
  else if s.sequencer.transport = .unthreaded then s
  else emergencyStop (raise { name := .tapeOut } s)

/-- An accepted change is handed on (R102 to R104). -/
def switchAccepted (sw : Switch) (active : Bool) (s : State) : State :=
  match sw with
  | .supplyVacuum => vacuumChanged .supply active s
  | .takeupVacuum => vacuumChanged .takeup active s
  | .door => doorChanged active s
  | .ring => s
  | .tapeInPath => pathChanged active s

def setSwitchRecord (sw : Switch) (r : SwitchRecord) (s : State) : State := s.onSensors fun n => n.setSwitch sw r

/-- A first settling hands nothing on (R101). R130 ends VACUUM when both of its conditions hold, whichever becomes true last:
a vacuum switch that settles MADE can be that last one, so the model tests it here too (DESIGN CHOICE, log 23). -/
def firstSettled (sw : Switch) (s : State) : State :=
  match sw with
  | .supplyVacuum | .takeupVacuum => vacuumCheck s
  | .door | .ring | .tapeInPath => s

/-- The debounced state takes the raw level; a settled record hands a change on (R100, R101, log 23). -/
def acceptSwitch (sw : Switch) (s : State) : State :=
  let r := s.sensors.switch sw
  let s1 := markStatus (setSwitchRecord sw { r with debounced := r.raw, settled := true, timer := none } s)
  if !r.settled then firstSettled sw s1
  else if r.raw ≠ r.debounced then switchAccepted sw r.raw s1
  else s1

/-- A raw level arrives (R100, R101). -/
def rawChange (sw : Switch) (level : Bool) (s : State) : State :=
  let r := s.sensors.switch sw
  let ms := s.loader.groupC.debounce
  if level = r.raw then s
  else if !r.settled then setSwitchRecord sw { r with raw := level, timer := some ms } s
  else if level = r.debounced then setSwitchRecord sw { r with raw := level, timer := none } s
  else if ms = 0 then finishEvent (acceptSwitch sw (setSwitchRecord sw { r with raw := level } s))
  else setSwitchRecord sw { r with raw := level, timer := some ms } s

/-- A stability timer expires (R100, R101). -/
def stabilityExpiry (sw : Switch) (s : State) : State :=
  if (s.sensors.switch sw).timer.isSome then finishEvent (acceptSwitch sw s) else s

/-! ### Marker sensors (R105) -/

/-- A marker record when its sensor becomes active (R105). -/
def markerOn (m : MarkerRecord) : MarkerRecord := { m with level := true, state := .counting, steps := 0, dir := none }

/-- A marker record when its sensor becomes inactive (R105). -/
def markerOff (m : MarkerRecord) : MarkerRecord := { m with level := false, state := .idle, steps := 0, dir := none }

def markerActive (m : Marker) (s : State) : State :=
  let r := s.sensors.marker m
  if r.level then s else s.onSensors fun n => n.setMarker m (markerOn r)

/-- A marker sensor becomes inactive; BOT's may be the marker event of the outward leg (R105, R133). -/
def markerInactive (m : Marker) (s : State) : State :=
  let r := s.sensors.marker m
  if !r.level then s
  else
    let s1 := s.onSensors fun n => n.setMarker m (markerOff r)
    match m with
    | .bot => finishEvent (botLeft s1)
    | .eot => s1

end Sys2Proof.Machine
end

