-- ==== Sys2Proof/Machine/Sample.lean ====
section
/-! DEFINITION. The servo sample: generator, converter, drive laws, tests (R57, R81 to R89, R95 to R98, R131; order: log 10). -/

namespace Sys2Proof.Machine

/-! ### Converter (R95, R96) -/

/-- A sensor level saturated to a code (R95). -/
def saturate (level : Int) : Nat := (clampInt 0 1023 level).toNat

/-- One conversion of each column sensor; conversions beyond the interval's N are not taken (R95, log 24). -/
def convert (supplyLevel takeupLevel : Int) (s : State) : State :=
  if s.sensors.taken < s.sensors.intervalN then
    s.onSensors fun n =>
      { n with supply := { n.supply with sum := n.supply.sum + saturate supplyLevel },
               takeup := { n.takeup with sum := n.takeup.sum + saturate takeupLevel }, taken := n.taken + 1 }
  else s

/-- x of a column at a servo sample (R95). -/
def closeColumn (n : Nat) (c : ColumnRecord) : ColumnRecord := { c with x := c.sum / n, sum := 0 }

/-- The interval closes: x is computed, the sums are cleared, and the next interval has the N in force (R95, R96). -/
def closeInterval (s : State) : State :=
  s.onSensors fun n =>
    { n with supply := closeColumn n.intervalN n.supply, takeup := closeColumn n.intervalN n.takeup, taken := 0,
             intervalN := s.groupB.conversions }

/-! ### Drive laws (R83, R85, R89) -/

/-- The clamp of every drive command (R89). -/
def clampCommand (x : Int) : Int := clampInt (-Config.commandLimit) Config.commandLimit x

/-- The tracking error (R83). -/
def State.trackingError (s : State) : Int := s.generator.p - 256 * s.servos.t

/-- V with the sense of the direction (R83). -/
def signedV (v : Nat) (d : Option Direction) : Int :=
  match d with
  | some .forward => v
  | some .backward => -(v : Int)
  | none => 0

/-- The capstan law (R83). -/
def capstanLaw (kp kv : Nat) (e vSigned : Int) : Int := clampCommand (Int.tdiv (kp * e + kv * vSigned) 256)

/-- The loop error (R85). -/
def loopError (kc x setpoint : Nat) : Int := Int.tdiv (kc * ((x : Int) - setpoint)) 16

/-- The signed feedforward (R85). -/
def feedForward (reel : Reel) (d : Option Direction) (v kff w : Nat) : Int :=
  let m : Int := (v * kff / w : Nat)
  match reel, d with
  | .supply, some .forward | .takeup, some .backward => m
  | .supply, some .backward | .takeup, some .forward => -m
  | _, none => 0

/-- The reel law (R85). -/
def reelLaw (g : GroupB) (reel : Reel) (d : Option Direction) (v x w : Nat) : Int :=
  clampCommand (feedForward reel d v g.kff w - loopError g.kc x g.setpoint)

/-- The three commands of a sample, by the drive mode (R81, R83, R85), beside the vacuum level (R127). -/
def driveCommands (vacuum : Bool) (s : State) : DriveLinks :=
  let g := s.groupB
  match s.servos.driveMode with
  | .off => { capstan := 0, supply := 0, takeup := 0, vacuum := vacuum }
  | .wind => { capstan := 0, supply := Config.windCommand, takeup := 0, vacuum := vacuum }
  | .loopHold | .follow =>
    { capstan := capstanLaw g.kp g.kv s.trackingError (signedV s.generator.v s.generator.dir)
      supply := reelLaw g .supply s.generator.dir s.generator.v s.sensors.supply.x s.servos.supply.w
      takeup := reelLaw g .takeup s.generator.dir s.generator.v s.sensors.takeup.x s.servos.takeup.w
      vacuum := vacuum }

/-- The commands are sent (R89, R127). -/
def sendCommands (vacuum : Bool) (s : State) : State := s.onLinks fun _ => driveCommands vacuum s

/-! ### Tests (R84, R98, R131) -/

/-- The drive mode is one in which the capstan is driven by its law. -/
def DriveMode.tracks : DriveMode → Bool
  | .loopHold | .follow => true
  | .off | .wind => false

/-- The tracking persistence count after a sample (R84). -/
def trackingCount (s : State) : Nat :=
  if s.servos.driveMode.tracks then
    if 256 * s.groupB.eLim < s.trackingError.natAbs then s.servos.tracking + 1 else 0
  else s.servos.tracking

def takeTracking (s : State) : State := s.onServos fun v => { v with tracking := trackingCount s }

/-- x lies outside the window (R98). -/
def outsideWindow (g : GroupC) (x : Nat) : Bool := decide (x < g.xLo) || decide (g.xHi < x)

/-- A count that a VACUUM_LOST stop cut off, after a sample: it counts on while x stays outside (R102, log 37). -/
def cutCount (g : GroupC) (c : ColumnRecord) : Option Nat :=
  match c.cut with
  | some n => if outsideWindow g c.x then some (n + 1) else none
  | none => none

/-- A column's persistence count after a sample (R98). -/
def windowCount (armed : Bool) (g : GroupC) (c : ColumnRecord) : ColumnRecord :=
  { c with outside := if armed then (if outsideWindow g c.x then c.outside + 1 else 0) else c.outside, cut := cutCount g c }

def takeWindow (s : State) : State :=
  s.onSensors fun n =>
    { n with supply := windowCount n.windowArmed s.loader.groupC n.supply, takeup := windowCount n.windowArmed s.loader.groupC n.takeup }

/-- What the unit holds for a column. -/
def Sensors.column (n : Sensors) : Reel → ColumnRecord
  | .supply => n.supply
  | .takeup => n.takeup

/-- A column's count that a VACUUM_LOST stop cut off has reached K (R102, log 37). -/
def cutDue (k : Nat) (c : ColumnRecord) : Bool :=
  match c.cut with
  | some n => decide (k ≤ n)
  | none => false

/-- A column's count has reached K (R98). -/
def columnDue (c : Reel) (s : State) : Bool :=
  (s.sensors.windowArmed && decide (s.loader.groupC.persistence ≤ (s.sensors.column c).outside)) ||
    cutDue s.loader.groupC.persistence (s.sensors.column c)

/-- A column's cut count has given its event (R102, log 37). -/
def endCut (c : Reel) (s : State) : State :=
  s.onSensors fun n =>
    match c with
    | .supply => { n with supply := { n.supply with cut := none } }
    | .takeup => { n with takeup := { n.takeup with cut := none } }

/-- COLUMN_FAULT and the emergency request (R98). -/
def columnFault (c : Reel) (x : Nat) (s : State) : State :=
  let side := if x < s.loader.groupC.xLo then 0 else 1
  endCut c (emergencyStop
    (raise { name := .columnFault, d0 := wordOfNat (columnCode c), d1 := wordOfNat side, d2 := wordOfNat x } s))

/-- TRACKING_FAULT and the emergency request (R84). -/
def trackingFaulted (e : Int) (s : State) : State :=
  emergencyStop (raise { name := .trackingFault, d0 := wordOfInt (Int.tdiv e 256) } s)

/-- Both loops lie within 64 codes of the setpoint (R131). -/
def loopsSettled (s : State) : Bool :=
  let near (x : Nat) : Bool := decide (((x : Int) - s.groupB.setpoint).natAbs ≤ Config.settleBand)
  near s.sensors.supply.x && near s.sensors.takeup.x

/-- The phase is LOOPS. -/
def State.looping (s : State) : Bool :=
  decide (s.sequencer.transport = .loading) && decide (s.sequencer.phase = some .loops)

/-- The settle test (R131). -/
def settleTest (s : State) : State :=
  if s.looping then
    let n := if loopsSettled s then s.sequencer.settleCount + 1 else 0
    let s1 := s.onSequencer fun q => { q with settleCount := n }
    if Config.settleLimit ≤ n then enterSeek s1 else s1
  else s

/-! ### The sample -/

/-- Up to the tests' verdicts: generator, sequencer's reactions, converter, commands, counts. The vacuum level sent is the
one that stood before the sample: a change within it takes effect with the next (R127). -/
def sampleCounts (s : State) : State :=
  takeWindow (takeTracking (sendCommands s.sequencer.vacuumRequest (closeInterval (react reactFuel (generatorSample s)))))

/-- The verdicts of a sample are acted on, the tracking fault first, then the columns; both verdicts stand even when the
first stop has cleared the counts (R84, R92, R98). -/
def sampleFaults (takeupFirst : Bool) (s : State) : State :=
  let tracking := decide (Config.trackingLimit ≤ s.servos.tracking)
  let e := s.trackingError
  let one (c : Reel) (a : State) : State := if columnDue c s then columnFault c (s.sensors.column c).x a else a
  let s1 := if tracking then trackingFaulted e s else s
  if takeupFirst then one .supply (one .takeup s1) else one .takeup (one .supply s1)

/-- One servo sample (R57). -/
def servoSample (takeupFirst : Bool) (s : State) : State :=
  finishEvent (settleTest (sampleFaults takeupFirst (sampleCounts s)))

/-! ### Samples at which a named event comes about -/

/-- The tracking count reaches 8 at this sample (R84). -/
def trackingDue (s : State) : Bool := decide (Config.trackingLimit ≤ (sampleCounts s).servos.tracking)

/-- A column's count reaches K at this sample (R98). -/
def columnDueNext (c : Reel) (s : State) : Bool := columnDue c (sampleCounts s)

/-- The settle count reaches 1000 at this sample (R131). -/
def settleDue (s : State) : Bool :=
  let s1 := sampleFaults false (sampleCounts s)
  s1.looping && loopsSettled s1 && decide (Config.settleLimit ≤ s1.sequencer.settleCount + 1)

/-- The working segment's duration runs out at this sample (R69); a segment awaited and arrived works from it on (R71). -/
def durationDue (s : State) : Bool :=
  match s.generator.mode, s.generator.run, s.generator.working, s.generator.reload with
  | .accel, some r, some w, _ | .decel, some r, some w, _ => !r.trim && decide (w.duration ≤ 1)
  | .accel, some r, none, some q | .decel, some r, none, some q => !r.trim && decide (q.segment.duration ≤ 1)
  | _, _, _, _ => false

/-- The chain's late count reaches 8 at this sample (R71). -/
def lateDue (s : State) : Bool :=
  s.generator.isLate && s.generator.reload.isNone &&
    match s.generator.run with
    | some r => decide (Config.lateLimit ≤ r.late + 1)
    | none => false

end Sys2Proof.Machine
end

