-- ==== Sys2Proof/Machine/CommandsDeck.lean ====
section
/-! DEFINITION. Meanings of the commands that come from the deck and from the clocks. -/

namespace Sys2Proof.Machine

/-- What a command answers: this block never faults and refuses nothing. -/
abbrev Answer := Host.Outcome State Fault Refusal

/-! ### RESET -/

/-- A switch contact at cold reset keeps its raw level (R101, log 5). -/
def coldSensors (n : Sensors) : Sensors :=
  { Sensors.reset with
    supplyVacuum := SwitchRecord.reset n.supplyVacuum.raw
    takeupVacuum := SwitchRecord.reset n.takeupVacuum.raw
    door := SwitchRecord.reset n.door.raw
    ring := SwitchRecord.reset n.ring.raw
    tapeInPath := SwitchRecord.reset n.tapeInPath.raw
    bot := MarkerRecord.reset n.bot.level
    eot := MarkerRecord.reset n.eot.level }

/-- COLD_RESET (R25, R56, R78, R94, R101, R108, R126, R143, R159, R174, R185, R195): every block at its reset values, the
input levels as they are (log 5). The queue of waiting commands is not the block's. -/
def execColdReset (s : State) : Answer :=
  .next { State.reset with sensors := coldSensors s.sensors, freeCount := s.freeCount, pending := s.pending }

/-! ### Servo samples -/

/-- SERVO_SAMPLE (R57). -/
def execServoSample (takeupFirst : Bool) (s : State) : Answer := .next (servoSample takeupFirst s)

/-- COLUMN_SENSOR_CONVERSION (R95). -/
def execColumnSensorConversion (supplyLevel takeupLevel : Int) (s : State) : Answer := .next (convert supplyLevel takeupLevel s)

/-- TRACKING_FAULT (R84): the servo sample at which the count reaches 8 (log 2). Of two column faults at that sample
the supply's is taken first (R92 and R98 leave the order open: DESIGN CHOICE, log 11). -/
def execTrackingFault (s : State) : Answer := .next (s.doIf (trackingDue s) (servoSample false))

/-- COLUMN_FAULT (R98): the servo sample at which the column's count reaches K, that column first (log 2). -/
def execColumnFault (column : Reel) (s : State) : Answer :=
  .next (s.doIf (columnDueNext column s) (servoSample (decide (column = .takeup))))

/-- SETTLE_COUNT_COMPLETE (R131): the servo sample at which the count reaches 1000 (log 2). The supply's
column fault comes before the take-up's (log 11). -/
def execSettleCountComplete (s : State) : Answer := .next (s.doIf (settleDue s) (servoSample false))

/-- SEGMENT_DURATION_EXPIRY (R69): the servo sample at which the working segment's duration runs out (log 2). The supply's
column fault comes before the take-up's (log 11). -/
def execSegmentDurationExpiry (s : State) : Answer := .next (s.doIf (durationDue s) (servoSample false))

/-- LATE_COUNT_LIMIT (R71): the servo sample at which the late count reaches 8 (log 2). The supply's
column fault comes before the take-up's (log 11). -/
def execLateCountLimit (s : State) : Answer := .next (s.doIf (lateDue s) (servoSample false))

/-! ### Encoder, markers, index -/

/-- ENCODER_COUNT (R79). -/
def execEncoderCount (dir : Direction) (s : State) : Answer := .next (encoderCount dir s)

/-- MARKER_QUALIFIES (R106): the encoder count at which the step count reaches Mq (log 2). -/
def execMarkerQualifies (m : Marker) (dir : Direction) (s : State) : Answer :=
  .next (s.doIf (s.generator.dir.isSome && qualifiesNow dir s.groupB.mq (s.sensors.marker m)) (encoderCount dir))

/-- SEEK_LIMIT_EXCEEDED (R134): the encoder count at which the travel count exceeds its limit (log 2). -/
def execSeekLimitExceeded (dir : Direction) (s : State) : Answer := .next (s.doIf (seekLimitDue dir s) (encoderCount dir))

/-- MARKER_SENSOR_ACTIVE (R105). -/
def execMarkerSensorActive (m : Marker) (s : State) : Answer := .next (markerActive m s)

/-- MARKER_SENSOR_INACTIVE (R105, R133). -/
def execMarkerSensorInactive (m : Marker) (s : State) : Answer := .next (markerInactive m s)

/-- INDEX_PULSE (R86, R87, R107). -/
def execIndexPulse (reel : Reel) (s : State) : Answer := .next (indexPulse reel s)

/-! ### Switches -/

/-- SWITCH_RAW_CHANGE (R100, R101). -/
def execSwitchRawChange (sw : Switch) (level : Bool) (s : State) : Answer := .next (rawChange sw level s)

/-- STABILITY_TIMER_EXPIRY (R100 to R104). -/
def execStabilityTimerExpiry (sw : Switch) (s : State) : Answer := .next (stabilityExpiry sw s)

/-! ### Timers -/

/-- CHECK_TIMER_EXPIRY (R109). -/
def execCheckTimerExpiry (index : Fin 16) (s : State) : Answer := .next (checkExpiry index s)

/-- HOLD_TIMER_EXPIRY (R168). -/
def execHoldTimerExpiry (s : State) : Answer := .next (retryHeld s)

/-- The phase timer runs in a phase of a transport state. -/
def phaseTimerIn (t : Transport) (p : Phase) (s : State) : Bool :=
  s.sequencer.phaseTimer.isSome && decide (s.sequencer.transport = t) && decide (s.sequencer.phase = some p)

/-- The phase timer has run out. -/
def stopPhaseTimer (s : State) : State := s.onSequencer fun q => { q with phaseTimer := none }

/-- The phase timer expires in VACUUM: with both switches MADE it has no effect but its own end (R130). -/
def vacuumExpiry (s : State) : State :=
  if s.vacuumMade then stopPhaseTimer s else finishEvent (failLoad .vacuumTimeout s)

/-- VACUUM_TIMEOUT (R130). -/
def execVacuumTimeout (s : State) : Answer := .next (s.doIf (phaseTimerIn .loading .vacuum s) vacuumExpiry)

/-- LOOP_TIMEOUT (R131). -/
def execLoopTimeout (s : State) : Answer :=
  .next (s.doIf (phaseTimerIn .loading .loops s) fun a => finishEvent (failLoad .loopTimeout a))

/-- UNLOAD_TIMEOUT (R140). -/
def execUnloadTimeout (s : State) : Answer :=
  .next (s.doIf (phaseTimerIn .unloading .release s) fun a =>
    finishEvent (failOrder .unloadTimeout (setTransport .faulted none a)))

/-- REFRESH_TIMER_EXPIRY (R189). -/
def execRefreshTimerExpiry (s : State) : Answer := .next (refreshExpiry s)

end Sys2Proof.Machine
end

