-- ==== Sys2Proof/Machine/CommandsBus.lean ====
section
/-! DEFINITION. Meanings of the commands at the two ports, and of the two acts that the block begins of itself. -/

namespace Sys2Proof.Machine

/-- DECK_BUS_READ (R161, R162, R167). -/
def execDeckBusRead (addr : BusAddr) (count : Nat) (s : State) : Answer := .next (busTransaction (.read addr count) s)

/-- DECK_BUS_WRITE (R161, R162). -/
def execDeckBusWrite (addr : BusAddr) (words : List BusWord) (s : State) : Answer := .next (busTransaction (.write addr words) s)

/-- PASS_THROUGH_READ_ANSWER (R161). -/
def execPassThroughReadAnswer (answer : PassAnswer) (next : Option BusTxn) (s : State) : Answer :=
  .next (passReadAnswered answer next s)

/-- PASS_THROUGH_WRITE_ANSWER (R165, R166). -/
def execPassThroughWriteAnswer (done : Bool) (next : Option BusTxn) (s : State) : Answer := .next (passWriteAnswered done next s)

/-- SEGMENT_FETCH_ANSWER (R70, R72). -/
def execSegmentFetchAnswer (answer : OwnAnswer) (s : State) : Answer :=
  .next (ownAnswered OwnAccess.isFetch (fetchAct answer) s)

/-- CHARACTERIZATION_READ_ANSWER (R63 to R65). -/
def execCharacterizationReadAnswer (answer : OwnAnswer) (s : State) : Answer :=
  .next (ownAnswered OwnAccess.isCharact (fun _ _ => charactAnswered answer) s)

/-- SETUP_READ_ANSWER (R176 to R181). -/
def execSetupReadAnswer (answer : OwnAnswer) (setupFirst : Bool) (s : State) : Answer :=
  .next (ownAnswered OwnAccess.isSetup (setupAct answer setupFirst) s)

/-- SWEEP_READ_ANSWER (R172). -/
def execSweepReadAnswer (answer : OwnAnswer) (s : State) : Answer := .next (ownAnswered OwnAccess.isSweep (sweepAct answer) s)

/-- REPORT_WRITE_ANSWER (R187, R188). -/
def execReportWriteAnswer (done : Bool) (s : State) : Answer :=
  .next (ownAnswered OwnAccess.isReport (fun _ _ => reportAnswered done) s)

/-- A pending selection's turn has come (R62). -/
def characterizationBegin (s : State) : State :=
  match s.generator.pendingSet with
  | some p => if charactOccasion s then finishEvent (takePending p s) else s
  | none => s

/-- CHARACTERIZATION_BEGIN (R62, R66). -/
def execCharacterizationBegin (s : State) : Answer := .next (characterizationBegin s)

/-- The Report Writer takes up its next record. -/
def reportWriteBegin (s : State) : State :=
  match recordWriteDue s with
  | some (n, rest) => arbitrate (beginRecordWrite n rest s)
  | none => s

/-- REPORT_WRITE_BEGIN (R187). -/
def execReportWriteBegin (s : State) : Answer := .next (reportWriteBegin s)

/-! ### The setup commit word -/

/-- SETUP_COMMIT_CONFIGURE (R175, R177). -/
def execSetupCommitConfigure (s : State) : Answer := .next (commitCommand 1 s)

/-- SETUP_COMMIT_GROUP_C (R175). -/
def execSetupCommitGroupC (s : State) : Answer := .next (commitCommand 2 s)

/-- SETUP_COMMIT_IGNORED (R175). -/
def execSetupCommitIgnored (value : Word) (s : State) : Answer := .next (commitCommand value s)

end Sys2Proof.Machine
end

