-- ==== Sys2Proof/Machine/CommandsWords.lean ====
section
/-! DEFINITION. Meanings of the state-code writes and of the orders, each the action of a watched word written whole (log 4). -/

namespace Sys2Proof.Machine

/-! ### Descriptor codes -/

/-- FILLED (R9). -/
def execFilled (index : Fin 16) (s : State) : Answer := .next (descriptorCommand index 1 s)

/-- EMPTY (R10, R11). -/
def execEmpty (index : Fin 16) (s : State) : Answer := .next (descriptorCommand index 0 s)

/-- RECORDED_OK (R12, R110). -/
def execRecordedOk (index : Fin 16) (s : State) : Answer := .next (descriptorCommand index 2 s)

/-- CHECK_FAILED (R12, R111). -/
def execCheckFailed (index : Fin 16) (s : State) : Answer := .next (descriptorCommand index 3 s)

/-- RECEIVED (R13, R15). -/
def execReceived (index : Fin 16) (s : State) : Answer := .next (descriptorCommand index 4 s)

/-- RECEIVED_MARK (R13, R15). -/
def execReceivedMark (index : Fin 16) (s : State) : Answer := .next (descriptorCommand index 5 s)

/-- RECEIVED_ERROR (R14, R15). -/
def execReceivedError (index : Fin 16) (s : State) : Answer := .next (descriptorCommand index 6 s)

/-- INVALID_STATE_CODE (R2). -/
def execInvalidStateCode (index : Fin 16) (code : Word) (s : State) : Answer := .next (descriptorCommand index code s)

/-! ### Orders -/

/-- LOAD (R128). -/
def execLoad (slot : Fin 8) (seq : Byte) (s : State) : Answer := .next (slotCommand slot OrderCode.load.code seq s)

/-- UNLOAD (R138). -/
def execUnload (slot : Fin 8) (seq : Byte) (s : State) : Answer := .next (slotCommand slot OrderCode.unload.code seq s)

/-- REWIND (R136). -/
def execRewind (slot : Fin 8) (seq : Byte) (s : State) : Answer := .next (slotCommand slot OrderCode.rewind.code seq s)

/-- WRITE (R36). -/
def execWrite (slot : Fin 8) (seq : Byte) (s : State) : Answer := .next (slotCommand slot OrderCode.write.code seq s)

/-- READ_FWD (R44). -/
def execReadFwd (slot : Fin 8) (seq : Byte) (s : State) : Answer := .next (slotCommand slot OrderCode.readFwd.code seq s)

/-- READ_BWD (R44). -/
def execReadBwd (slot : Fin 8) (seq : Byte) (s : State) : Answer := .next (slotCommand slot OrderCode.readBwd.code seq s)

/-- SPACE_FWD (R48). -/
def execSpaceFwd (slot : Fin 8) (seq : Byte) (s : State) : Answer := .next (slotCommand slot OrderCode.spaceFwd.code seq s)

/-- SPACE_BWD (R48). -/
def execSpaceBwd (slot : Fin 8) (seq : Byte) (s : State) : Answer := .next (slotCommand slot OrderCode.spaceBwd.code seq s)

/-- ERASE (R43). -/
def execErase (slot : Fin 8) (seq : Byte) (s : State) : Answer := .next (slotCommand slot OrderCode.erase.code seq s)

/-- HALT (R52, R152). -/
def execHalt (slot : Fin 8) (seq : Byte) (s : State) : Answer := .next (slotCommand slot OrderCode.halt.code seq s)

/-- FLUSH (R153). -/
def execFlush (slot : Fin 8) (seq : Byte) (s : State) : Answer := .next (quietSlotCommand slot OrderCode.flush.code seq s)

/-- RESUME (R154). -/
def execResume (slot : Fin 8) (seq : Byte) (s : State) : Answer := .next (slotCommand slot OrderCode.resume.code seq s)

/-- ACK (R155). -/
def execAck (slot : Fin 8) (seq : Byte) (s : State) : Answer := .next (quietSlotCommand slot OrderCode.ack.code seq s)

/-- CEILING (R156). -/
def execCeiling (slot : Fin 8) (seq : Byte) (s : State) : Answer := .next (quietSlotCommand slot OrderCode.ceiling.code seq s)

/-- PROFILE_SELECT (R157). -/
def execProfileSelect (slot : Fin 8) (seq : Byte) (s : State) : Answer := .next (slotCommand slot OrderCode.profileSelect.code seq s)

/-- SOFT_RESET (R158). -/
def execSoftReset (slot : Fin 8) (seq : Byte) (s : State) : Answer := .next (slotCommand slot OrderCode.softReset.code seq s)

/-- UNKNOWN_ORDER (R145). -/
def execUnknownOrder (slot : Fin 8) (code seq : Byte) (s : State) : Answer := .next (quietSlotCommand slot code seq s)

end Sys2Proof.Machine
end

