-- ==== Sys2Proof/Machine/Dispatch.lean ====
section
/-! DEFINITION. One arm per command: its meaning. -/

namespace Sys2Proof.Machine

def exec (i : Instr) (s : State) : Host.Outcome State Fault Refusal :=
  match i with
  | .coldReset => Sys2Proof.Machine.execColdReset s
  | .servoSample takeupFirst => Sys2Proof.Machine.execServoSample takeupFirst s
  | .encoderCount dir => Sys2Proof.Machine.execEncoderCount dir s
  | .indexPulse reel => Sys2Proof.Machine.execIndexPulse reel s
  | .switchRawChange sw level => Sys2Proof.Machine.execSwitchRawChange sw level s
  | .stabilityTimerExpiry sw => Sys2Proof.Machine.execStabilityTimerExpiry sw s
  | .markerSensorActive m => Sys2Proof.Machine.execMarkerSensorActive m s
  | .markerSensorInactive m => Sys2Proof.Machine.execMarkerSensorInactive m s
  | .markerQualifies m dir => Sys2Proof.Machine.execMarkerQualifies m dir s
  | .trackingFault => Sys2Proof.Machine.execTrackingFault s
  | .columnFault column => Sys2Proof.Machine.execColumnFault column s
  | .settleCountComplete => Sys2Proof.Machine.execSettleCountComplete s
  | .seekLimitExceeded dir => Sys2Proof.Machine.execSeekLimitExceeded dir s
  | .segmentDurationExpiry => Sys2Proof.Machine.execSegmentDurationExpiry s
  | .lateCountLimit => Sys2Proof.Machine.execLateCountLimit s
  | .checkTimerExpiry index => Sys2Proof.Machine.execCheckTimerExpiry index s
  | .holdTimerExpiry => Sys2Proof.Machine.execHoldTimerExpiry s
  | .vacuumTimeout => Sys2Proof.Machine.execVacuumTimeout s
  | .loopTimeout => Sys2Proof.Machine.execLoopTimeout s
  | .unloadTimeout => Sys2Proof.Machine.execUnloadTimeout s
  | .refreshTimerExpiry => Sys2Proof.Machine.execRefreshTimerExpiry s
  | .deckBusRead addr count => Sys2Proof.Machine.execDeckBusRead addr count s
  | .deckBusWrite addr words => Sys2Proof.Machine.execDeckBusWrite addr words s
  | .passThroughReadAnswer answer next => Sys2Proof.Machine.execPassThroughReadAnswer answer next s
  | .passThroughWriteAnswer done next => Sys2Proof.Machine.execPassThroughWriteAnswer done next s
  | .segmentFetchAnswer answer => Sys2Proof.Machine.execSegmentFetchAnswer answer s
  | .characterizationReadAnswer answer => Sys2Proof.Machine.execCharacterizationReadAnswer answer s
  | .setupReadAnswer answer setupFirst => Sys2Proof.Machine.execSetupReadAnswer answer setupFirst s
  | .sweepReadAnswer answer => Sys2Proof.Machine.execSweepReadAnswer answer s
  | .reportWriteAnswer done => Sys2Proof.Machine.execReportWriteAnswer done s
  | .characterizationBegin => Sys2Proof.Machine.execCharacterizationBegin s
  | .reportWriteBegin => Sys2Proof.Machine.execReportWriteBegin s
  | .filled index => Sys2Proof.Machine.execFilled index s
  | .empty index => Sys2Proof.Machine.execEmpty index s
  | .recordedOk index => Sys2Proof.Machine.execRecordedOk index s
  | .checkFailed index => Sys2Proof.Machine.execCheckFailed index s
  | .received index => Sys2Proof.Machine.execReceived index s
  | .receivedMark index => Sys2Proof.Machine.execReceivedMark index s
  | .receivedError index => Sys2Proof.Machine.execReceivedError index s
  | .invalidStateCode index code => Sys2Proof.Machine.execInvalidStateCode index code s
  | .load slot seq => Sys2Proof.Machine.execLoad slot seq s
  | .unload slot seq => Sys2Proof.Machine.execUnload slot seq s
  | .rewind slot seq => Sys2Proof.Machine.execRewind slot seq s
  | .write slot seq => Sys2Proof.Machine.execWrite slot seq s
  | .readFwd slot seq => Sys2Proof.Machine.execReadFwd slot seq s
  | .readBwd slot seq => Sys2Proof.Machine.execReadBwd slot seq s
  | .spaceFwd slot seq => Sys2Proof.Machine.execSpaceFwd slot seq s
  | .spaceBwd slot seq => Sys2Proof.Machine.execSpaceBwd slot seq s
  | .erase slot seq => Sys2Proof.Machine.execErase slot seq s
  | .halt slot seq => Sys2Proof.Machine.execHalt slot seq s
  | .flush slot seq => Sys2Proof.Machine.execFlush slot seq s
  | .resume slot seq => Sys2Proof.Machine.execResume slot seq s
  | .ack slot seq => Sys2Proof.Machine.execAck slot seq s
  | .ceiling slot seq => Sys2Proof.Machine.execCeiling slot seq s
  | .profileSelect slot seq => Sys2Proof.Machine.execProfileSelect slot seq s
  | .softReset slot seq => Sys2Proof.Machine.execSoftReset slot seq s
  | .unknownOrder slot code seq => Sys2Proof.Machine.execUnknownOrder slot code seq s
  | .setupCommitConfigure => Sys2Proof.Machine.execSetupCommitConfigure s
  | .setupCommitGroupC => Sys2Proof.Machine.execSetupCommitGroupC s
  | .setupCommitIgnored value => Sys2Proof.Machine.execSetupCommitIgnored value s
  | .columnSensorConversion supplyLevel takeupLevel => Sys2Proof.Machine.execColumnSensorConversion supplyLevel takeupLevel s

end Sys2Proof.Machine
end

