-- ==== Sys2Proof/Safety.lean ====
section
/-! DEFINITION. What is always so of the block, as one predicate over State, and the words that statements about its commands
are written in. -/

namespace Sys2Proof.Machine

/-- A drive command lies within −2047 to +2047 (R89). -/
def commandWithin (c : Int) : Prop := -Config.commandLimit ≤ c ∧ c ≤ Config.commandLimit

/-- A column's x lies within 0 to 1023 (R95), and its sum holds at most 1023 for each conversion taken. -/
structure ColumnRecord.Within (taken : Nat) (c : ColumnRecord) : Prop where
  x : c.x ≤ 1023
  sum : c.sum ≤ 1023 * taken

/-- The bounds and bonds that hold of the block after every step. -/
structure Sound (s : State) : Prop where
  /-- V lies within 0 to 12800 (R58). -/
  v : s.generator.v ≤ Config.vLimit
  /-- each drive command lies within −2047 to +2047 (R89) -/
  capstan : commandWithin s.links.capstan
  supply : commandWithin s.links.supply
  takeup : commandWithin s.links.takeup
  /-- NOTICE is asserted exactly when some pending enabled class lies below the ceiling (R194) -/
  notice : s.reporter.notice = noticeLevel s.reporter.pendingClasses s.loader.groupC.mask s.reporter.ceiling
  /-- each name stands at most once in the dirty list (R186) -/
  dirty : s.reporter.dirty.Nodup
  /-- the stored log holds at most 8 records (R191) -/
  stored : s.reporter.stored ≤ 8
  /-- x of both columns (R95), with what the converter has summed of the interval in progress -/
  columnS : s.sensors.supply.Within s.sensors.taken
  columnT : s.sensors.takeup.Within s.sensors.taken
  taken : s.sensors.taken ≤ s.sensors.intervalN
  interval : 1 ≤ s.sensors.intervalN
  conversions : 1 ≤ s.loader.groupB.conversions
  /-- a record's tape length is that of its kind and length (R4) -/
  tape : ∀ i : Fin 16, (s.record i).tapeLength = tapeLengthOf (s.record i).kind (s.record i).length
  /-- the drive mode is that of the transport state and phase (R81) -/
  drive : s.servos.driveMode = driveModeOf s.sequencer.transport s.sequencer.phase
  /-- the brake is asserted exactly in the drive mode OFF (R82) -/
  brake : s.servos.brake = decide (s.servos.driveMode = .off)
  /-- the refresh timer runs exactly in the six states of R189 -/
  refresh : s.reporter.refreshTimer.isSome = s.sequencer.transport.refreshes
  /-- direction and purpose are present only in a motion (R27) -/
  still : s.sequencer.transport.moves = false → s.sequencer.dir = none ∧ s.sequencer.purpose = none

/-- Nothing more comes about in the event: no report of the generator waits, no position condition holds, and no order is
due for the sequencer (log 8). -/
def Quiet (s : State) : Prop := reactOnce s = none

/-- A sample's tests have no verdict to act on: the tracking and window counts lie below their limits (R84, R98), and the
phase is not LOOPS (R131). -/
structure Calm (s : State) : Prop where
  tracking : s.servos.tracking < Config.trackingLimit
  supply : columnDue .supply s = false
  takeup : columnDue .takeup s = false
  looping : s.looping = false

/-- The command that commits an order in a slot, with its sequence number (R144, R146). -/
def commitOf (o : OrderCode) (slot : Fin 8) (seq : Byte) : Instr :=
  match o with
  | .load => .load slot seq
  | .unload => .unload slot seq
  | .rewind => .rewind slot seq
  | .write => .write slot seq
  | .readFwd => .readFwd slot seq
  | .readBwd => .readBwd slot seq
  | .spaceFwd => .spaceFwd slot seq
  | .spaceBwd => .spaceBwd slot seq
  | .erase => .erase slot seq
  | .halt => .halt slot seq
  | .flush => .flush slot seq
  | .resume => .resume slot seq
  | .ack => .ack slot seq
  | .ceiling => .ceiling slot seq
  | .profileSelect => .profileSelect slot seq
  | .softReset => .softReset slot seq

/-- A slot can take an order: the watched words act, and its result is not QUEUED, RUNNING or PENDING (R144, R145). -/
structure SlotFree (slot : Fin 8) (s : State) : Prop where
  configured : s.path.configured = true
  free : (s.intake.results[slot]).outcome.busy = false

/-- The ring is watched and no sweep runs (R1, R25). -/
structure RingWatched (s : State) : Prop where
  configured : s.path.configured = true
  sweep : s.path.sweep = none

/-- The queue holds back its head: it is suspended or an order runs (R150). -/
def QueueHeld (s : State) : Prop := s.intake.suspended = true ∨ s.intake.running.isSome = true

/-- No order waits or runs, the queue is active, and no sweep runs: the next queued order is handed over at once (R150). -/
structure IntakeIdle (s : State) : Prop where
  queue : s.intake.queue = []
  running : s.intake.running = none
  active : s.intake.suspended = false
  sweep : s.path.sweep = none

/-- Nothing of an order is left with the sequencer (R35, R36, R44). -/
def NoOrderState (s : State) : Prop := clearOrderState s.sequencer = s.sequencer

/-- STOPPED, threaded, with the queue free to hand over: where an order of the sequencer's chapter begins (R34, R150). -/
structure ReadyToMove (s : State) : Prop where
  quiet : Quiet s
  idle : IntakeIdle s
  clear : NoOrderState s
  stopped : s.sequencer.transport = .stopped
  phase : s.sequencer.phase = none
  trusted : s.sequencer.trusted = true

/-- A slot's order has been handed over and runs (R150). -/
structure Runs (slot : Fin 8) (o : OrderCode) (t : State) : Prop where
  running : t.intake.running = some slot
  queue : t.intake.queue = []
  code : (t.intake.results[slot]).code = o.code.toNat
  outcome : (t.intake.results[slot]).outcome = .running

/-- The running order of `s` has ended in `t` with an outcome and a reason, and the queue is suspended (R148, R151). -/
structure EndsSuspended (o : Outcome) (rsn : Reason) (s t : State) : Prop where
  running : t.intake.running = none
  result : ∀ i : Fin 8, s.intake.running = some i → (t.intake.results[i]).outcome = o ∧ (t.intake.results[i]).reason = rsn
  suspended : s.intake.running.isSome = true → t.intake.suspended = true

/-- An emergency stop has been made between `s` and `t` (R54, R91, R92). -/
structure EmergencyMade (s t : State) : Prop extends EndsSuspended .failed .emergency s t where
  transport : t.sequencer.transport = .faulted
  trusted : t.sequencer.trusted = false
  drive : t.servos.driveMode = .off
  brake : t.servos.brake = true
  v : t.generator.v = 0
  mode : t.generator.mode = .hold
  dir : t.generator.dir = none
  window : t.sensors.windowArmed = false
  tape : t.servos.t = s.servos.t
  notice : t.reporter.pendingClasses.getLsbD 0 = true
  queue : t.intake.queue = s.intake.queue
  links : t.links = s.links
  loader : t.loader = s.loader

/-! ### Encoder counts -/

/-- An encoder count at which no marker qualifies (R105, R106), with nothing of an earlier event left to act on and no LOAD's
settlement waiting (log 17). -/
structure NoMarkerAt (d : Direction) (s : State) : Prop where
  signals : s.signals = []
  bot : s.generator.dir.isSome = true → qualifiesNow d s.loader.groupB.mq s.sensors.bot = false
  eot : s.generator.dir.isSome = true → qualifiesNow d s.loader.groupB.mq s.sensors.eot = false
  settled : s.generator.loadSet = none
  order : s.intake.running.isSome = true

/-- An encoder count in the motion of a running order whose outcome is open: STARTING or RUNNING in a direction with a
purpose (R27, R28). -/
structure CountInMotion (d : Direction) (p : Purpose) (s : State) : Prop extends NoMarkerAt d s where
  underway : s.sequencer.transport.underway = true
  phase : s.sequencer.phase = none
  dir : s.sequencer.dir = some d
  purpose : s.sequencer.purpose = some p
  mode : s.generator.mode = .accel ∨ s.generator.mode = .cruise
  drive : s.servos.driveMode = .follow
  free : s.sequencer.fixed = none

/-- No decision point lies at or before a position in FORWARD motion (R38). -/
def NoDecisionBy (t : Int) (s : State) : Prop := ∀ e ∈ s.sequencer.decisions, t < e.2

/-- The blank limit is not exceeded at a position (R47). -/
def WithinBlankLimit (t : Int) (s : State) : Prop :=
  ∀ b : Int, s.sequencer.blankRef = some b → (t - b).natAbs ≤ s.loader.groupB.blankLimit

/-- The record at the receive cursor is not EXPECTING, so that a fixed outcome gives nothing back (R35). -/
def NothingExpected (s : State) : Prop := (s.record s.tracker.receiveCursor).state ≠ .expecting

/-- An encoder count from `s` to `t` moves T by its step and the marker records by theirs, and nothing else of the deck's
inputs, its drives or its setup (R79, R105). -/
structure Counted (d : Direction) (s t : State) : Prop where
  servos : t.servos = { s.servos with t := s.servos.t + stepOf d }
  sensors : t.sensors = { s.sensors with
    bot := markerCount d s.generator.dir.isSome s.loader.groupB.mq s.sensors.bot
    eot := markerCount d s.generator.dir.isSome s.loader.groupB.mq s.sensors.eot }
  links : t.links = s.links
  loader : t.loader = s.loader

/-- The motion has begun to stop: STOPPING in a chain of the generator that slows down, from the V it held (R28, R75). -/
structure StopBegun (s t : State) : Prop where
  transport : t.sequencer.transport = .stopping
  mode : t.generator.mode = .decel
  v : t.generator.v = s.generator.v
  dir : t.sequencer.dir = s.sequencer.dir
  order : t.intake = s.intake

/-- The release of the ARMED record i between `s` and `t`, T and R being those of `s` (R20, R37). -/
structure Released (i : Fin 16) (r : Int) (s t : State) : Prop where
  block : t.record i = { s.record i with
    state := .recording
    coords := some { start := s.servos.t, stop := s.servos.t + (s.record i).tapeLength }
    longGap := decide (r + s.loader.groupB.lateAllowance < s.servos.t) }
  cursor : t.tracker.recordCursor = i + 1
  receive : t.tracker.receiveCursor = s.tracker.receiveCursor
  anchor : t.sequencer.anchor = s.servos.t + (s.record i).tapeLength
  kind : t.sequencer.gapKind = .nominal
  decisions : t.sequencer.decisions = s.sequencer.decisions ++
    [(i, s.servos.t + (s.record i).tapeLength + s.loader.groupB.headOffset)]
  noShow : t.sequencer.noShow = 0
  transport : t.sequencer.transport = s.sequencer.transport
  generator : t.generator = s.generator
  still : t.sequencer.dir = s.sequencer.dir ∧ t.sequencer.purpose = s.sequencer.purpose ∧
    t.sequencer.writeMode = s.sequencer.writeMode ∧ t.sequencer.eot = s.sequencer.eot
  longGap : r + s.loader.groupB.lateAllowance < s.servos.t → t.reporter.pendingClasses.getLsbD 6 = true

/-! ### Ends of motions -/

/-- The next servo sample brings V to 0 in a stop chain of the store or the built-in profile, or in a fallback stop, with no
start request waiting behind it (R69, R72): the generator reports the end of the stop. -/
def StopEnds (s : State) : Prop :=
  s.generator.waiting = none ∧
  ((s.generator.mode = .fallback ∧ s.generator.v ≤ s.generator.fallSlope) ∨
    ∃ (r : RunningChain) (w : Segment), s.generator.mode = .decel ∧ s.generator.run = some r ∧ s.generator.working = some w ∧
      r.chain.isStart = false ∧ r.toCreep = false ∧ r.trim = false ∧ (s.generator.v : Int) + w.slope ≤ 0)

/-- A servo sample that ends a motion and does nothing else by itself: no report, settlement or hand-over waits, and its
tests have no verdict (R84, R98). -/
structure EndingSample (s : State) : Prop where
  ends : StopEnds s
  signals : s.signals = []
  settled : s.generator.loadSet = none
  calm : Calm (sampleCounts s)
  drive : s.servos.driveMode = driveModeOf s.sequencer.transport s.sequencer.phase

/-- The references have come to rest (R58, R69). -/
structure AtRestIn (t : State) : Prop where
  mode : t.generator.mode = .hold
  v : t.generator.v = 0
  dir : t.generator.dir = none

/-- The order of slot i that runs in `s` has ended in `t` with an outcome and a reason, T taken at the end; the queue is
suspended for FAILED and ABORTED (R35, R147, R148, R151). -/
structure OrderEnds (i : Fin 8) (o : Outcome) (rsn : Reason) (s t : State) : Prop where
  running : t.intake.running = none
  outcome : (t.intake.results[i]).outcome = o
  reason : (t.intake.results[i]).reason = rsn
  finalT : (t.intake.results[i]).finalT = t.servos.t
  others : ∀ j : Fin 8, j ≠ i → t.intake.results[j] = s.intake.results[j]
  queue : t.intake.queue = s.intake.queue
  suspended : t.intake.suspended = (s.intake.suspended || o.suspends)
  event : t.reporter.pendingClasses.getLsbD (outcomeEvent o).noticeClass = true

/-! ### Setup values -/

/-- A group A read has ended in publication: the path is configured and its sweep begun, the counts of the configuration
columns are 0, and the commit's group C read follows (R56, R94, R143, R164, R172, R176, R178). -/
structure Configured (s t : State) : Prop where
  configured : t.path.configured = true
  sweep : t.path.sweep = some 0
  descriptors : t.path.descriptors = s.path.descriptors
  slots : t.path.slots = s.path.slots
  held : t.holding = false
  activity : t.loader.activity = .readingC
  commit : ∃ c, t.loader.commit = some c ∧ c.awaitingSweep = true ∧ c.groupCDue = false
  groupB : t.loader.groupB = s.loader.groupB
  groupC : t.loader.groupC = s.loader.groupC
  sequencer : t.sequencer = { s.sequencer with noShow := 0, settleCount := 0, seekTravel := 0 }
  servos : t.servos = { s.servos with tracking := 0 }
  tracker : t.tracker = s.tracker
  generator : t.generator = s.generator
  links : t.links = s.links
  sensors : t.sensors = s.sensors
  intake : t.intake = s.intake

/-- A field as published: the value read when it lies in its range, else the default (R178 to R181). -/
def rangeOr (lo hi dflt v : Nat) : Nat := if lo ≤ v ∧ v ≤ hi then v else dflt

/-- Group A is valid: every field in its range, every window in the 24-bit space and clear of the Setup Block, and no two
windows overlapping (R178). -/
structure GroupAValid (g : GroupA) : Prop where
  aligned : g.ringBase % 64 = 0 ∧ g.slotBase % 64 = 0 ∧ g.reportBase % 64 = 0 ∧ g.storeBase % 64 = 0 ∧ g.bufferBase % 64 = 0
  store : 1024 ≤ g.storeSize ∧ g.storeSize ≤ 65536 ∧ g.storeSize % 64 = 0
  buffer : 64 ≤ g.bufferSize ∧ g.bufferSize % 64 = 0
  hold : g.holdLimit ≤ 32
  pass : 1 ≤ g.passLimit ∧ g.passLimit ≤ 15
  space : ∀ w ∈ windowsOf g, w.2.1 + w.2.2 ≤ 0x1000000 ∧ 0x100 ≤ w.2.1
  apart : (windowsOf g).Pairwise fun a b => a.2.1 + a.2.2 ≤ b.2.1 ∨ b.2.1 + b.2.2 ≤ a.2.1

end Sys2Proof.Machine
end

