-- ==== Sys2Proof/WellFormed.lean ====
section
/-! DEFINITION. Which commands are commands of the part: the operand ranges that the operands' types do not already give. -/

namespace Sys2Proof

/-- The order codes of R146. -/
def definedOrderCode (code : Nat) : Bool :=
  (1 ≤ code && code ≤ 9) || (16 ≤ code && code ≤ 22)

/-- 1 to 8 consecutive words from an aligned address (00_scope.md 4, R161). A transaction that runs past the top of
the address space is a transaction all the same, and R162 answers it. -/
def BusTxn.wellFormed : BusTxn → Bool
  | .read addr count => decide (addr.toNat % 4 = 0) && decide (1 ≤ count) && decide (count ≤ 8)
  | .write addr words => decide (addr.toNat % 4 = 0) && decide (1 ≤ words.length) && decide (words.length ≤ 8)

/-- A pass-through read is answered with 1 to 8 words, or FAULT. -/
def PassAnswer.wellFormed : PassAnswer → Bool
  | .done words => decide (1 ≤ words.length) && decide (words.length ≤ 8)
  | .fault => true

/-- The transaction issued with an answer, if there is one, is a transaction. -/
def nextWellFormed : Option BusTxn → Bool
  | none => true
  | some t => t.wellFormed

/-- The check that a command is one of the part's. -/
def Instr.wellFormed : Instr → Bool
  | .deckBusRead addr count => (BusTxn.read addr count).wellFormed
  | .deckBusWrite addr words => (BusTxn.write addr words).wellFormed
  | .passThroughReadAnswer answer next => answer.wellFormed && nextWellFormed next
  | .passThroughWriteAnswer _ next => nextWellFormed next
  | .invalidStateCode _ code => decide (6 < code.toNat)
  | .unknownOrder _ code _ => !definedOrderCode code.toNat
  | .setupCommitIgnored value => decide (value ≠ 1#32) && decide (value ≠ 2#32)
  | .coldReset | .servoSample _ | .encoderCount _ | .indexPulse _ | .switchRawChange _ _ | .stabilityTimerExpiry _
  | .markerSensorActive _ | .markerSensorInactive _ | .markerQualifies _ _ | .trackingFault | .columnFault _
  | .settleCountComplete | .seekLimitExceeded _ | .segmentDurationExpiry | .lateCountLimit | .checkTimerExpiry _
  | .holdTimerExpiry | .vacuumTimeout | .loopTimeout | .unloadTimeout | .refreshTimerExpiry
  | .segmentFetchAnswer _ | .characterizationReadAnswer _ | .setupReadAnswer _ _ | .sweepReadAnswer _
  | .reportWriteAnswer _ | .characterizationBegin | .reportWriteBegin
  | .filled _ | .empty _ | .recordedOk _ | .checkFailed _ | .received _ | .receivedMark _ | .receivedError _
  | .load _ _ | .unload _ _ | .rewind _ _ | .write _ _ | .readFwd _ _ | .readBwd _ _ | .spaceFwd _ _ | .spaceBwd _ _
  | .erase _ _ | .halt _ _ | .flush _ _ | .resume _ _ | .ack _ _ | .ceiling _ _ | .profileSelect _ _ | .softReset _ _
  | .setupCommitConfigure | .setupCommitGroupC | .columnSensorConversion _ _ => true

end Sys2Proof
end

