-- ==== Sys2Proof/Certificates/Slice0/Obligations.lean ====
section
/-! DEFINITION. The statements for the provers: what the commands of the TD-610 do, from the rules of spec/. -/

open Sys2Proof Sys2Proof.Machine

/-! ### The step and the machine -/

/-- A step carries out the command at the front of the queue, with the queue's rest left waiting. -/
def Obligations.StepRunsFrontCommand : Prop :=
  ∀ (c : Instr) (rest : List Instr) (s : State), step (s.withQueue (c :: rest)) = exec c (s.withQueue rest)

/-- No step faults or is refused; with no command waiting the block idles (the model's choice, log 1). -/
def Obligations.StepNeverStops : Prop :=
  (∀ s : State, ∃ t, step s = .next t) ∧ ∀ s : State, s.pending = [] → step s = .next s

/-- The machine after reset is sound. -/
def Obligations.ResetIsSound : Prop :=
 Sound State.reset

/-- Every step keeps the machine sound and takes one command from the queue, in order. -/
def Obligations.StepKeepsSound : Prop :=
  ∀ s t : State, Sound s → step s = .next t → Sound t ∧ t.pending = s.pending.tail

/-- Cold reset: every block at the reset values that the spec states, with the inputs' levels as they stand. The reset value
of the vacuum level last sent, of the conversions taken and of the model's own marks is the model's choice (log 35); that
the dirty list holds R25's sixteen block reports, marked after R195's Empty, is the model's reading of the two rules (log 38),
and their order the model's (log 13); that the inputs keep their levels is the model's choice (log 5). -/
def Obligations.ColdResetSetsTheResetValues : Prop :=
  ∀ s : State, ∃ t, exec .coldReset s = .next t ∧
    (∀ i : Fin 16, t.record i = {
      state := .free, kind := .data, length := 0, offset := 0, tapeLength := 40, coords := none, attempts := 0, longGap := false
      slot := none, dirReceived := none, checkTimer := none }) ∧
    t.tracker.recordCursor = 0 ∧ t.tracker.receiveCursor = 0 ∧ t.tracker.context = none ∧ t.tracker.outOfTurn = false ∧
    t.sequencer = {
      transport := .unthreaded, dir := none, purpose := none, trusted := false, anchor := 0, gapKind := .loadPoint
      recordPoint := none, decisions := [], noShow := 0, fillWait := false, fillHeld := false, freeWait := false, eot := none
      blankRef := none, eraseEnd := none, fixed := none, recovery := none, writeMode := false, held := false, approach := none
      noShowStop := false, startFallback := false, vacuumRequest := false, phase := none, rewindStep := none, seekOrigin := none
      seekLeg := none, legMarked := false, botAtLeg := false, phaseTimer := none, settleCount := 0, seekTravel := 0
      leaderStart := none, haltStop := false, loadStage := .idle } ∧
    t.generator = {
      v := 0, p := 0, dir := none, mode := .hold, run := none, working := none, reload := none, fallSlope := 0, waiting := none
      active := { source := none, label := 0, heads := Vector.replicate 6 0, distances := #v[102, 90, 17, 15, 20500, 20460] }
      pendingSet := none, charact := none, loadSet := none } ∧
    t.servos = {
      t := 0, driveMode := .off, brake := true, tracking := 0
      supply := { w := 30000, capture := { ref := none, broken := false }, rejected := 0 }
      takeup := { w := 12600, capture := { ref := none, broken := false }, rejected := 0 } } ∧
    t.links = { capstan := 0, supply := 0, takeup := 0, vacuum := false } ∧
    (∀ c : Reel, t.sensors.column c = { sum := 0, x := 0, outside := 0, cut := none }) ∧ t.sensors.taken = 0 ∧
    t.sensors.intervalN = 4 ∧ t.sensors.windowArmed = false ∧ t.sensors.lossWatch = false ∧
    (∀ sw : Switch, t.sensors.switch sw =
      { raw := (s.sensors.switch sw).raw, debounced := false, settled := false, timer := some 4 }) ∧
    (∀ m : Marker, t.sensors.marker m = { level := (s.sensors.marker m).level, steps := 0, dir := none,
                                          state := if (s.sensors.marker m).level then .counting else .idle }) ∧
    (∀ i : Fin 8, t.intake.results[i] = {
      code := 0, tag := 0, seq := 0, outcome := .none, reason := .none, arg := 0, clamped := false, blocks := 0, finalT := 0 }) ∧
    t.intake.queue = [] ∧ t.intake.suspended = false ∧ t.intake.running = none ∧
    t.path = { configured := false, descriptors := Vector.replicate 64 0, slots := Vector.replicate 32 0, commitWord := 0
               upper := none, claims := [], port := none, sweep := none, answers := [] } ∧
    t.loader = { activity := .idle, words := [], commit := none, waitingCommit := none, waitingB := false
                 groupA := GroupA.default, groupB := GroupB.default, groupC := GroupC.default
                 result := { lastCommit := 0, busy := false, groupA := { status := .notRead, count := 0, first := 0 }
                             groupB := { status := .notRead, count := 0, first := 0 }
                             groupC := { status := .notRead, count := 0, first := 0 } } } ∧
    (∀ n : RecordName, t.reporter.images[n.index] = match n with
      | .identity => [0, 0x061007A1#32, 0x00000101#32, 0, 0, 0, 0, 0]
      | .status => List.replicate 16 0
      | _ => List.replicate 8 0) ∧
    (∀ n : RecordName, t.reporter.updates[n.index] = 0#16) ∧ t.reporter.configured = false ∧ t.reporter.dirty = (List.finRange 16).map .block ∧
    t.reporter.writing = none ∧ t.reporter.refreshTimer = none ∧ (∀ p : Fin 8, t.reporter.log[p] = none) ∧ t.reporter.stored = 0 ∧
    t.reporter.writeIndex = 0 ∧ t.reporter.nextSeq = 0 ∧ t.reporter.dropped = 0 ∧ t.reporter.pendingClasses = 0 ∧
    t.reporter.ceiling = 9 ∧ t.reporter.notice = false ∧ t.signals = [] ∧ t.pending = s.pending

/-! ### Servo samples -/

/-- A servo sample with the references at rest: P, the two loop positions, the tracking and window counts and the three
drive commands of the drive mode in force; every other field of the deck and of the orders stays. The order of the sample's
work is the model's (log 10), as is x of an interval with fewer than N conversions (log 24) and the count that an earlier
stop has cut off (log 37). -/
def Obligations.ServoSampleInHold : Prop :=
  ∀ (b : Bool) (s : State), s.generator.mode = .hold → Quiet s → Calm (sampleCounts s) →
    ∃ t, exec (.servoSample b) s = .next t ∧
      let p := if s.servos.driveMode = .off then 256 * s.servos.t else s.generator.p + signedV s.generator.v s.generator.dir
      let e := p - 256 * s.servos.t
      let g := s.loader.groupB
      let xS := s.sensors.supply.sum / s.sensors.intervalN
      let xT := s.sensors.takeup.sum / s.sensors.intervalN
      let counted (c : ColumnRecord) (x : Nat) : ColumnRecord :=
        let out := x < s.loader.groupC.xLo ∨ s.loader.groupC.xHi < x
        { sum := 0, x := x, outside := if s.sensors.windowArmed then (if out then c.outside + 1 else 0) else c.outside
          cut := if out then c.cut.map (· + 1) else none }
      t.generator = { s.generator with p := p } ∧
      t.sensors = { s.sensors with
        supply := counted s.sensors.supply xS, takeup := counted s.sensors.takeup xT, taken := 0, intervalN := g.conversions } ∧
      t.links = (match s.servos.driveMode with
        | .off => { capstan := 0, supply := 0, takeup := 0, vacuum := s.sequencer.vacuumRequest }
        | .wind => { capstan := 0, supply := -400, takeup := 0, vacuum := s.sequencer.vacuumRequest }
        | _ =>
          { capstan := clampInt (-2047) 2047 (Int.tdiv (g.kp * e + g.kv * signedV s.generator.v s.generator.dir) 256)
            supply := clampInt (-2047) 2047
              (feedForward .supply s.generator.dir s.generator.v g.kff s.servos.supply.w - Int.tdiv (g.kc * ((xS : Int) - g.setpoint)) 16)
            takeup := clampInt (-2047) 2047
              (feedForward .takeup s.generator.dir s.generator.v g.kff s.servos.takeup.w - Int.tdiv (g.kc * ((xT : Int) - g.setpoint)) 16)
            vacuum := s.sequencer.vacuumRequest }) ∧
      t.servos = { s.servos with tracking := match s.servos.driveMode with
        | .off | .wind => s.servos.tracking
        | _ => if 256 * g.eLim < e.natAbs then s.servos.tracking + 1 else 0 } ∧
      t.tracker = s.tracker ∧ t.sequencer = s.sequencer ∧ t.intake = s.intake ∧ t.loader = s.loader ∧ t.reporter = s.reporter ∧
      (s.path.port.isSome = true → s.generator.working = none → t.path = s.path)

/-- A servo sample within a segment of a start chain: V moves by the slope, clamped to 0 to 12800, and P by the new V. At
the sample at which a segment's duration runs out, with the next segment at hand, that one works from then on; the command
is the sample named by what comes about at it (log 2). The order of the sample's work is the model's (log 10). -/
def Obligations.ServoSamplesFollowTheSegments : Prop :=
  (∀ (b : Bool) (s : State) (r : RunningChain) (w : Segment), s.generator.mode = .accel → s.generator.run = some r →
     s.generator.working = some w → r.chain.isStart = true → r.toCreep = false → r.trim = false → 1 < w.duration →
     Quiet s → Calm (sampleCounts s) →
     ∃ t, exec (.servoSample b) s = .next t ∧
       let v := (clampInt 0 12800 ((s.generator.v : Int) + w.slope)).toNat
       t.generator.v = v ∧ t.generator.p = s.generator.p + signedV v s.generator.dir ∧ t.generator.mode = .accel ∧
       t.generator.run = some r ∧ t.generator.working = some { w with duration := w.duration - 1 } ∧
       t.tracker = s.tracker ∧ t.sequencer = s.sequencer ∧ t.intake = s.intake ∧ t.loader = s.loader ∧ t.servos.t = s.servos.t) ∧
  (∀ (s : State) (r : RunningChain) (w : Segment) (q : Reload), s.generator.mode = .accel → s.generator.run = some r →
     s.generator.working = some w → r.chain.isStart = true → r.toCreep = false → r.trim = false → r.builtIn = false →
     r.segments < 32 → w.last = false → w.duration ≤ 1 → s.generator.reload = some q →
     Quiet s → Calm (sampleCounts s) →
     ∃ t, exec .segmentDurationExpiry s = .next t ∧ exec (.servoSample false) s = .next t ∧
       t.generator.v = (clampInt 0 12800 ((s.generator.v : Int) + w.slope)).toNat ∧ t.generator.mode = .accel ∧
       t.generator.run = some { r with segments := r.segments + 1, lateRaised := false } ∧
       t.generator.working = some q.segment ∧ t.generator.reload = none ∧
       t.tracker = s.tracker ∧ t.sequencer = s.sequencer ∧ t.intake = s.intake ∧ t.loader = s.loader ∧ t.servos.t = s.servos.t)

/-- The eighth late sample of a stop chain: the chain is abandoned to the fallback stop from the V it held. The command is
the sample named by what comes about at it (log 2), in the order of log 10. -/
def Obligations.LateCountLimitFallsBack : Prop :=
  ∀ (s : State) (r : RunningChain), s.generator.mode = .decel → s.generator.run = some r → s.generator.working = none →
    s.generator.reload = none → r.chain.isStart = false → r.toCreep = false → r.trim = false → r.late = 7 →
    0 < s.generator.v → s.generator.v ≤ 12800 → s.sequencer.transport = .stopping → Quiet s → Calm (sampleCounts s) →
    ∃ t, exec .lateCountLimit s = .next t ∧ exec (.servoSample false) s = .next t ∧
      t.generator.mode = .fallback ∧ t.generator.fallSlope = (s.generator.v + 15) / 16 ∧ t.generator.run = none ∧
      t.generator.v = s.generator.v ∧ t.reporter.pendingClasses.getLsbD 3 = true ∧
      t.sequencer.transport = .stopping ∧ t.tracker = s.tracker ∧ t.servos.t = s.servos.t ∧ t.intake = s.intake ∧ t.loader = s.loader

/-- The sample at which the tracking count reaches 8, and the sample at which a column's count reaches K, make an emergency
stop. The command is the sample named by what comes about at it (log 2), in the order of log 10. -/
def Obligations.SampleFaultsStopTheDeck : Prop :=
  ∀ s : State, Sound s → (sampleCounts s).sequencer.transport ≠ .unthreaded → (sampleCounts s).sequencer.transport ≠ .faulted →
    handOverDue (sampleCounts s) = none →
    (trackingDue s = true → columnDueNext .supply s = false → columnDueNext .takeup s = false →
      ∃ t, exec .trackingFault s = .next t ∧ exec (.servoSample false) s = .next t ∧ EmergencyMade (sampleCounts s) t) ∧
    (∀ c : Reel, trackingDue s = false → columnDueNext c s = true →
      ∃ t, exec (.columnFault c) s = .next t ∧ EmergencyMade (sampleCounts s) t)

/-- The settled sample that makes the count 1000 ends LOOPS: SEEK begins with the window armed. The command is the sample
named by what comes about at it (log 2), in the order of log 10. -/
def Obligations.SettleCountCompleteBeginsSeek : Prop :=
  ∀ s : State, trackingDue s = false → columnDueNext .supply s = false → columnDueNext .takeup s = false →
    (sampleCounts s).looping = true → loopsSettled (sampleCounts s) = true → (sampleCounts s).sequencer.settleCount = 999 →
    Quiet (sampleCounts s) →
    ∃ t, exec .settleCountComplete s = .next t ∧ exec (.servoSample false) s = .next t ∧
      t.sequencer.transport = .loading ∧ t.sequencer.phase = some .seek ∧ t.sequencer.phaseTimer = none ∧
      t.sequencer.seekTravel = 0 ∧ t.sensors.windowArmed = true ∧ t.servos.driveMode = .follow ∧
      t.sequencer.seekLeg = some (if (sampleCounts s).sequencer.seekOrigin = some .fromFault then .outward else .finalCreep)

/-- The servo sample that ends a stop of a tape order: STOPPED, with direction, purpose and WRITE MODE gone. An order whose
outcome is fixed ends with it: its result, its event, the queue suspended for FAILED and ABORTED, its context and order
state cleared, and the unfinished blocks of a WRITE that is not DONE returned to FILLED. With no order running nothing else
changes. The order of the sample's work is the model's (log 10). -/
def Obligations.StopEndsTheTapeOrder : Prop :=
  ∀ (b : Bool) (s : State), EndingSample s → s.sequencer.transport = .stopping →
    (∀ (i : Fin 8) (f : FixedOutcome), s.intake.running = some i → s.sequencer.fixed = some f → s.sequencer.held = false →
      (s.intake.queue = [] ∨ s.intake.suspended = true ∨ f.outcome.suspends = true) →
      ∃ t, exec (.servoSample b) s = .next t ∧ t.sequencer.transport = .stopped ∧ t.sequencer.phase = none ∧
        t.sequencer.dir = none ∧ t.sequencer.purpose = none ∧ t.sequencer.writeMode = false ∧ AtRestIn t ∧
        OrderEnds i f.outcome f.reason s t ∧ t.tracker.context = none ∧ NoOrderState t ∧
        t.sequencer.trusted = s.sequencer.trusted ∧ t.sequencer.eot = s.sequencer.eot ∧
        (∀ c : OrderContext, s.tracker.context = some c → c.write = true → f.outcome ≠ .done → ∀ j ∈ c.indexes,
          (s.record j).state ∈ [BlockState.armed, .recording, .awaitCheck] → (t.record j).state = .filled) ∧
        (∀ j : Fin 16, (s.record j).state ∉ [BlockState.armed, .recording, .awaitCheck, .expecting] → t.record j = s.record j) ∧
        t.servos.t = s.servos.t ∧ t.servos.driveMode = .follow ∧ t.servos.brake = s.servos.brake ∧ t.loader = s.loader) ∧
    (s.intake.running = none → (s.intake.queue = [] ∨ s.intake.suspended = true) →
      ∃ t, exec (.servoSample b) s = .next t ∧ t.sequencer.transport = .stopped ∧ t.sequencer.phase = none ∧
        t.sequencer.dir = none ∧ t.sequencer.purpose = none ∧ t.sequencer.writeMode = false ∧ AtRestIn t ∧
        t.sequencer.anchor = s.sequencer.anchor ∧ t.sequencer.gapKind = s.sequencer.gapKind ∧
        t.sequencer.trusted = s.sequencer.trusted ∧ t.sequencer.eot = s.sequencer.eot ∧ t.tracker = s.tracker ∧
        t.intake = s.intake ∧ t.servos.t = s.servos.t ∧ t.servos.driveMode = .follow ∧ t.loader = s.loader)

/-- The servo sample that ends a stop of LOAD, REWIND or UNLOAD. The creep stop after the marker completes the LOAD:
STOPPED, the position trusted, A at 0 with kind LOAD_POINT, the EOT coordinate absent. The stop of FINAL completes the
REWIND: STOPPED, A at 0. In an UNLOAD the stop of FINAL begins LEADER, and LEADER's stop begins RELEASE, or with the path
already CLEAR completes the UNLOAD. An order whose outcome is fixed ends with it, in FAULTED, for a REWIND in STOPPED. The
order of the sample's work is the model's (log 10). -/
def Obligations.StopEndsLoadRewindAndUnload : Prop :=
  ∀ (b : Bool) (s : State) (i : Fin 8), EndingSample s → s.intake.running = some i → s.tracker.context = none →
    (s.intake.queue = [] ∨ s.intake.suspended = true) → s.sequencer.haltStop = false →
    (s.seeking = true → s.sequencer.seekLeg = some .finalCreep → s.sequencer.legMarked = true → s.sequencer.fixed = none →
      ∃ t, exec (.servoSample b) s = .next t ∧ t.sequencer.transport = .stopped ∧ t.sequencer.phase = none ∧
        t.sequencer.seekOrigin = none ∧ t.sequencer.trusted = true ∧ t.sequencer.anchor = 0 ∧ t.sequencer.gapKind = .loadPoint ∧
        t.sequencer.eot = none ∧ OrderEnds i .done .none s t ∧ t.reporter.pendingClasses.getLsbD 6 = true ∧
        (t.intake.results[i]).blocks = 0 ∧ AtRestIn t ∧ t.tracker = s.tracker ∧ t.servos.t = s.servos.t ∧ t.loader = s.loader) ∧
    (s.sequencer.transport = .rewinding → s.sequencer.phase = some (.step .final) → s.sequencer.fixed = none →
      ∃ t, exec (.servoSample b) s = .next t ∧ t.sequencer.transport = .stopped ∧ t.sequencer.phase = none ∧
        t.sequencer.trusted = s.sequencer.trusted ∧ t.sequencer.anchor = 0 ∧ t.sequencer.gapKind = .loadPoint ∧
        t.sequencer.eot = s.sequencer.eot ∧ OrderEnds i .done .none s t ∧ t.reporter.pendingClasses.getLsbD 6 = true ∧
        AtRestIn t ∧ t.tracker = s.tracker ∧ t.servos.t = s.servos.t ∧ t.loader = s.loader) ∧
    (s.sequencer.transport = .unloading → s.sequencer.phase = some .rewind → s.sequencer.rewindStep = some .final →
      s.sequencer.fixed = none → s.generator.charact = none → s.distance .creepStop < 40000 →
      ∃ t, exec (.servoSample b) s = .next t ∧ t.sequencer.transport = .unloading ∧ t.sequencer.phase = some .leader ∧
        t.sequencer.rewindStep = none ∧ t.sequencer.leaderStart = some s.servos.t ∧ t.generator.dir = some .backward ∧
        t.intake = s.intake ∧ t.tracker = s.tracker ∧ t.servos.t = s.servos.t ∧ t.servos.driveMode = .follow ∧
        t.loader = s.loader) ∧
    (s.sequencer.transport = .unloading → s.sequencer.phase = some .leader → s.sequencer.fixed = none →
      s.sensors.tapeInPath.debounced = true →
      ∃ t, exec (.servoSample b) s = .next t ∧ t.sequencer.transport = .unloading ∧ t.sequencer.phase = some .release ∧
        t.sequencer.vacuumRequest = false ∧ t.links.vacuum = s.sequencer.vacuumRequest ∧ t.sensors.windowArmed = false ∧
        t.sequencer.phaseTimer = some 60000 ∧ t.servos.driveMode = .wind ∧ t.servos.brake = false ∧ AtRestIn t ∧
        t.intake = s.intake ∧ t.tracker = s.tracker ∧ t.servos.t = s.servos.t ∧ t.loader = s.loader) ∧
    (s.sequencer.transport = .unloading → s.sequencer.phase = some .leader → s.sequencer.fixed = none →
      s.sensors.tapeInPath.debounced = false →
      ∃ t, exec (.servoSample b) s = .next t ∧ t.sequencer.transport = .unthreaded ∧ t.sequencer.phase = none ∧
        t.sequencer.phaseTimer = none ∧ t.sequencer.trusted = false ∧ t.sequencer.eot = none ∧ t.servos.driveMode = .off ∧
        t.servos.brake = true ∧ OrderEnds i .done .none s t ∧ t.tracker = s.tracker ∧ t.servos.t = s.servos.t ∧
        t.loader = s.loader) ∧
    (∀ f : FixedOutcome, s.sequencer.fixed = some f →
      (s.seeking = true ∨ s.sequencer.transport = .unloading →
        ∃ t, exec (.servoSample b) s = .next t ∧ t.sequencer.transport = .faulted ∧ t.sequencer.trusted = false ∧
          t.servos.driveMode = .off ∧ t.servos.brake = true ∧ OrderEnds i f.outcome f.reason s t ∧ t.tracker = s.tracker ∧
          t.servos.t = s.servos.t ∧ t.loader = s.loader) ∧
      (s.sequencer.transport = .rewinding →
        ∃ t, exec (.servoSample b) s = .next t ∧ t.sequencer.transport = .stopped ∧ t.sequencer.anchor = s.sequencer.anchor ∧
          t.sequencer.gapKind = s.sequencer.gapKind ∧ t.sequencer.trusted = s.sequencer.trusted ∧
          t.sequencer.eot = s.sequencer.eot ∧ OrderEnds i f.outcome f.reason s t ∧ t.tracker = s.tracker ∧
          t.servos.t = s.servos.t ∧ t.loader = s.loader))

/-- One conversion: each code is its sensor's level saturated to 0 to 1023, and is added to its column's sum. -/
def Obligations.ConversionAddsTheSaturatedCodes : Prop :=
  ∀ (a b : Int) (s : State), s.sensors.taken < s.sensors.intervalN →
    exec (.columnSensorConversion a b) s = .next (s.onSensors fun n =>
      { n with supply := { n.supply with sum := n.supply.sum + (max 0 (min a 1023)).toNat }
               takeup := { n.takeup with sum := n.takeup.sum + (max 0 (min b 1023)).toNat }
               taken := n.taken + 1 })

/-! ### Encoder, markers, index pulses -/

/-- An encoder count moves T by one step in every state of the transport, but for a count whose BOT qualification rebases
the tape in SEEK or in a rewind. With no marker to qualify, no seek and nothing else due at the new position it moves
nothing else of the deck. -/
def Obligations.EncoderCountMovesTheTape : Prop :=
  (∀ (d : Direction) (s : State),
    ((s.generator.dir.isSome = true → qualifiesNow d s.loader.groupB.mq s.sensors.bot = false) ∨
      (s.seeking = false ∧ s.rewindStep = none)) →
    ∃ t, exec (.encoderCount d) s = .next t ∧
      t.servos.t = s.servos.t + (match d with | .forward => 1 | .backward => -1)) ∧
  (∀ (d : Direction) (s : State), s.seeking = false →
     (s.generator.dir.isSome = true → qualifiesNow d s.loader.groupB.mq s.sensors.bot = false ∧
       qualifiesNow d s.loader.groupB.mq s.sensors.eot = false) →
     Quiet (countStep d s) →
     ∃ t, exec (.encoderCount d) s = .next t ∧
       t.servos = { s.servos with t := s.servos.t + (match d with | .forward => 1 | .backward => -1) } ∧
       t.sensors = { s.sensors with
         bot := markerCount d s.generator.dir.isSome s.loader.groupB.mq s.sensors.bot
         eot := markerCount d s.generator.dir.isSome s.loader.groupB.mq s.sensors.eot } ∧
       t.tracker = s.tracker ∧ t.sequencer = s.sequencer ∧ t.generator = s.generator ∧ t.links = s.links ∧
       t.intake = s.intake ∧ t.loader = s.loader ∧ t.reporter = s.reporter)

/-- The count at which the EOT marker qualifies in forward motion: the EOT coordinate is set to T and EOT_PASSED raised; a
qualification counted backward, or with the coordinate present, has no effect on it. The count at which BOT qualifies in the
final creep of a LOAD: the rebase, with the tracking error kept, and the stop. The commands are the encoder count named by
what comes about at it (log 2). That forward is the direction of the qualifying counts is the model's choice (log 28). -/
def Obligations.MarkerQualificationsAct : Prop :=
  (∀ s : State, s.seeking = false → s.generator.dir.isSome = true →
     qualifiesNow .forward s.loader.groupB.mq s.sensors.bot = false →
     qualifiesNow .forward s.loader.groupB.mq s.sensors.eot = true → s.sequencer.eot = none → Quiet (countStep .forward s) →
     ∃ t, exec (.markerQualifies .eot .forward) s = .next t ∧ exec (.encoderCount .forward) s = .next t ∧
       t.servos.t = s.servos.t + 1 ∧ t.sequencer = { s.sequencer with eot := some (s.servos.t + 1) } ∧
       t.sensors.eot.state = .qualified ∧ t.reporter.pendingClasses = s.reporter.pendingClasses ||| 0x40#9 ∧
       t.tracker = s.tracker ∧ t.generator = s.generator ∧ t.links = s.links ∧ t.intake = s.intake ∧ t.loader = s.loader) ∧
  (∀ (d : Direction) (s : State), s.seeking = false → s.generator.dir.isSome = true →
    qualifiesNow d s.loader.groupB.mq s.sensors.bot = false → qualifiesNow d s.loader.groupB.mq s.sensors.eot = true →
    d = .backward ∨ s.sequencer.eot.isSome = true → Quiet (countStep d s) →
    ∃ t, exec (.markerQualifies .eot d) s = .next t ∧ t.sequencer = s.sequencer ∧ t.sensors.eot.state = .qualified ∧
      t.reporter.pendingClasses = s.reporter.pendingClasses ∧ t.tracker = s.tracker ∧ t.generator = s.generator ∧
      t.links = s.links ∧ t.intake = s.intake ∧ t.loader = s.loader) ∧
  (∀ s : State, s.seeking = true → s.sequencer.seekLeg = some .finalCreep → s.sequencer.legMarked = false →
     s.sequencer.fixed = none →
     s.sequencer.seekTravel < seekLimit s.sequencer.seekOrigin → s.generator.mode = .cruise → s.generator.dir.isSome = true →
     qualifiesNow .forward s.loader.groupB.mq s.sensors.bot = true →
     qualifiesNow .forward s.loader.groupB.mq s.sensors.eot = false → s.signals = [] → handOverDue s = none →
     ∃ t, exec (.markerQualifies .bot .forward) s = .next t ∧ exec (.encoderCount .forward) s = .next t ∧
       t.servos.t = 0 ∧ t.generator.p = s.generator.p - 256 * (s.servos.t + 1) ∧ t.generator.mode = .decel ∧
       t.sequencer.legMarked = true ∧ t.sequencer.eot = s.sequencer.eot.map (fun c => c - (s.servos.t + 1)) ∧
       t.sensors.bot.state = .qualified ∧ t.tracker = s.tracker ∧ t.links = s.links ∧ t.intake = s.intake ∧ t.loader = s.loader)

/-- The count that takes the seek past its limit fixes NO_LOAD_POINT and begins the stop. The command is the encoder count
named by what comes about at it (log 2). -/
def Obligations.SeekLimitEndsTheSearch : Prop :=
  ∀ (d : Direction) (s : State) (i : Fin 8) (l : SeekLeg), s.seeking = true → s.sequencer.seekLeg = some l →
    s.sequencer.legMarked = false → s.sequencer.fixed = none → s.intake.running = some i → s.signals = [] →
    s.sequencer.seekTravel = seekLimit s.sequencer.seekOrigin → s.generator.mode = .cruise →
    qualifiesNow d s.loader.groupB.mq s.sensors.bot = false → qualifiesNow d s.loader.groupB.mq s.sensors.eot = false →
    ∃ t, exec (.seekLimitExceeded d) s = .next t ∧ exec (.encoderCount d) s = .next t ∧
      t.sequencer.fixed = some { outcome := .failed, reason := .noLoadPoint } ∧
      t.sequencer.seekTravel = s.sequencer.seekTravel + 1 ∧ t.generator.mode = .decel ∧ t.sequencer.transport = .loading ∧
      t.intake = s.intake ∧ t.links = s.links ∧ t.loader = s.loader

/-- An encoder count of a writing motion that reaches one of its points. The record point, with a read of the armed block
held: the block is released. A decision point: its record is AWAIT_CHECK with the check timer started; the motion goes on
for another listed block or toward an ARMED one, and stops when the cursor record is neither ARMED nor FILLED. Past the
release window: a no-show, which stops the motion, and beyond the limit fixes FORMATTER_SILENT. The erase end: it becomes
the anchor, and the order stops DONE. -/
def Obligations.CountsReachTheWritingPoints : Prop :=
  (∀ (s : State) (txn : BusTxn) (ms : Nat) (r : Int), CountInMotion .forward .write s →
    s.path.upper = some { txn := txn, stage := .held ms } → s.sequencer.recordPoint = some r →
    releaseCondition (countStep .forward s) = true → (s.record s.tracker.recordCursor).state = .armed →
    0 < (s.record s.tracker.recordCursor).tapeLength → NoDecisionBy (s.servos.t + 1) s →
    (countStep .forward s).beyondEot = false → (s.record (s.tracker.recordCursor + 1)).state ≠ .filled →
    ∃ t, exec (.encoderCount .forward) s = .next t ∧ Counted .forward s t ∧
      Released s.tracker.recordCursor r (countStep .forward s) t ∧
      (∃ stage, t.path.upper = some { txn := txn, stage := stage } ∧ (stage = .claimed ∨ stage = .atMemory)) ∧
      t.sequencer.recordPoint = none ∧ t.sequencer.fillWait = true ∧
      (∀ j : Fin 16, j ≠ s.tracker.recordCursor → t.record j = s.record j) ∧ t.intake = s.intake) ∧
  (∀ (s : State) (i : Fin 16) (x : Int) (rest : List (Fin 16 × Int)), CountInMotion .forward .write s →
    s.sequencer.startFallback = false → s.sequencer.decisions = (i, x) :: rest → x ≤ s.servos.t + 1 →
    (∀ e ∈ rest, s.servos.t + 1 < e.2) → (s.record i).state = .recording → s.holding = false →
    (∀ r : Int, s.sequencer.recordPoint = some r → s.servos.t + 1 ≤ r + s.loader.groupB.xExt) →
    (rest ≠ [] ∨ (s.record s.tracker.recordCursor).state = .armed →
      ∃ t, exec (.encoderCount .forward) s = .next t ∧ Counted .forward s t ∧
        t.record i = { s.record i with state := .awaitCheck, checkTimer := some s.loader.groupB.checkTime } ∧
        (∀ j : Fin 16, j ≠ i → t.record j = s.record j) ∧ t.sequencer = { s.sequencer with decisions := rest } ∧
        t.tracker.recordCursor = s.tracker.recordCursor ∧ t.generator = s.generator ∧ t.intake = s.intake) ∧
    (rest = [] → s.sequencer.transport = .running → (s.record s.tracker.recordCursor).state ∉ [BlockState.armed, .filled] →
      ∃ t, exec (.encoderCount .forward) s = .next t ∧ Counted .forward s t ∧ StopBegun s t ∧
        t.record i = { s.record i with state := .awaitCheck, checkTimer := some s.loader.groupB.checkTime } ∧
        (∀ j : Fin 16, j ≠ i → t.record j = s.record j) ∧ t.sequencer.decisions = [])) ∧
  (∀ (s : State) (r : Int), CountInMotion .forward .write s → s.sequencer.recordPoint = some r →
    s.servos.t = r + s.loader.groupB.xExt → NoDecisionBy (s.servos.t + 1) s → NothingExpected s →
    (s.sequencer.noShow + 1 ≤ s.loader.groupB.noShowLimit →
      ∃ t, exec (.encoderCount .forward) s = .next t ∧ Counted .forward s t ∧ StopBegun s t ∧
        t.sequencer.noShow = s.sequencer.noShow + 1 ∧ t.sequencer.recordPoint = some r ∧ t.sequencer.fixed = none ∧
        t.reporter.pendingClasses = s.reporter.pendingClasses ||| 0x100#9 ∧ t.tracker = s.tracker) ∧
    (s.loader.groupB.noShowLimit < s.sequencer.noShow + 1 →
      ∃ t, exec (.encoderCount .forward) s = .next t ∧ Counted .forward s t ∧ StopBegun s t ∧
        t.sequencer.noShow = s.sequencer.noShow + 1 ∧ t.sequencer.recordPoint = none ∧
        t.sequencer.fixed = some { outcome := .failed, reason := .formatterSilent } ∧
        t.record s.tracker.recordCursor = { s.record s.tracker.recordCursor with state := .filled, checkTimer := none } ∧
        (∀ j : Fin 16, j ≠ s.tracker.recordCursor → t.record j = s.record j) ∧
        t.reporter.pendingClasses = s.reporter.pendingClasses ||| 0x100#9 ∧
        (s.holding = true → t.path.upper = none ∧ t.path.answers = s.path.answers ++ [.retry]))) ∧
  (∀ (s : State) (e : Int), CountInMotion .forward .erase s → s.sequencer.eraseEnd = some e →
    e - s.distance .stop ≤ s.servos.t + 1 → s.sequencer.recordPoint = none → NoDecisionBy (s.servos.t + 1) s → NothingExpected s →
    ∃ t, exec (.encoderCount .forward) s = .next t ∧ Counted .forward s t ∧ StopBegun s t ∧ t.sequencer.anchor = e ∧
      t.sequencer.gapKind = .nominal ∧ t.sequencer.fixed = some { outcome := .done, reason := .none } ∧ t.tracker = s.tracker)

/-- An encoder count that takes a motion to a limit. The blank limit, and the EOT limit in a forward reading or spacing
order: the outcome is fixed FAILED, and the motion stops. T ≤ 0 in backward motion: LOAD_POINT_REACHED and the stop, with
DONE_LOAD_POINT fixed for a read or space. An EXPECTING record is given back at the fixing. At a count that reaches the blank
limit and T ≤ 0 or the EOT limit too, that the blank limit is acted on first, and so BLANK_TAPE is fixed, is the model's
choice (log 9). -/
def Obligations.CountsReachTheLimits : Prop :=
  (∀ (d : Direction) (p : Purpose) (s : State) (ref : Int), p = .read ∨ p = .space → CountInMotion d p s →
    (d = .forward → s.sequencer.recordPoint = none ∧ s.sequencer.decisions = []) → s.sequencer.blankRef = some ref →
    s.loader.groupB.blankLimit < (s.servos.t + stepOf d - ref).natAbs →
    ∃ t, exec (.encoderCount d) s = .next t ∧ Counted d s t ∧ StopBegun s t ∧
      t.sequencer.fixed = some { outcome := .failed, reason := .blankTape } ∧
      ((s.record s.tracker.receiveCursor).state = .expecting → t.record s.tracker.receiveCursor = BlockRecord.blank) ∧
      (NothingExpected s → t.record s.tracker.receiveCursor = s.record s.tracker.receiveCursor) ∧
      (∀ j : Fin 16, j ≠ s.tracker.receiveCursor → t.record j = s.record j)) ∧
  (∀ (p : Purpose) (s : State), CountInMotion .backward p s → s.servos.t - 1 ≤ 0 → WithinBlankLimit (s.servos.t - 1) s →
    (p = .read ∨ p = .space →
      ∃ t, exec (.encoderCount .backward) s = .next t ∧ Counted .backward s t ∧ StopBegun s t ∧
        t.sequencer.fixed = some { outcome := .doneLoadPoint, reason := .none } ∧
        t.reporter.pendingClasses = s.reporter.pendingClasses ||| 0x40#9 ∧
        ((s.record s.tracker.receiveCursor).state = .expecting → t.record s.tracker.receiveCursor = BlockRecord.blank) ∧
        (∀ j : Fin 16, j ≠ s.tracker.receiveCursor → t.record j = s.record j)) ∧
    (p = .reposition → repositionDue (countStep .backward s) = none →
      ∃ t, exec (.encoderCount .backward) s = .next t ∧ Counted .backward s t ∧ StopBegun s t ∧ t.sequencer.fixed = none ∧
        t.reporter.pendingClasses = s.reporter.pendingClasses ||| 0x40#9 ∧ t.tracker = s.tracker)) ∧
  (∀ (p : Purpose) (s : State) (o : OrderCode) (c : Int), p = .read ∨ p = .space → CountInMotion .forward p s →
    s.sequencer.recordPoint = none → s.sequencer.decisions = [] → s.runningOrder = some o → o = .readFwd ∨ o = .spaceFwd →
    s.sequencer.held = false →
    s.sequencer.eot = some c → c + s.loader.groupB.eotOverrun < s.servos.t + 1 → WithinBlankLimit (s.servos.t + 1) s →
    ∃ t, exec (.encoderCount .forward) s = .next t ∧ Counted .forward s t ∧ StopBegun s t ∧
      t.sequencer.fixed = some { outcome := .failed, reason := .endOfTape } ∧ t.sequencer.eot = some c ∧
      ((s.record s.tracker.receiveCursor).state = .expecting → t.record s.tracker.receiveCursor = BlockRecord.blank) ∧
      (∀ j : Fin 16, j ≠ s.tracker.receiveCursor → t.record j = s.record j))

/-- An encoder count that takes a move near its target. A REPOSITION move within a creep stop of its approach point or
backup target stops. In a rewind's RAMP or CRUISE the approach distance begins the deceleration to creep, and its CREEP past
the negative of that distance fixes NO_LOAD_POINT and begins the stop. LEADER stops a creep stop short of its 40,000 steps.
-/
def Obligations.CountsReachTheApproachPoints : Prop :=
  (∀ (d : Direction) (s : State) (q : Int), CountInMotion d .reposition s →
    (d = .forward → s.sequencer.recordPoint = none ∧ s.sequencer.decisions = []) →
    (s.sequencer.approach = some q ∨ ∃ r, s.sequencer.recovery = some r ∧ r.phase = .backup ∧ r.target = q) →
    (match d with
      | .backward => s.servos.t - 1 ≤ q + s.distance .creepStop
      | .forward => q - s.distance .creepStop ≤ s.servos.t + 1) →
    ∃ t, exec (.encoderCount d) s = .next t ∧ Counted d s t ∧ StopBegun s t ∧ t.sequencer.fixed = none ∧
      t.sequencer.approach = s.sequencer.approach ∧ t.sequencer.recovery = s.sequencer.recovery ∧ t.tracker = s.tracker) ∧
  (∀ (d : Direction) (s : State) (step : RewindStep), NoMarkerAt d s → s.rewindStep = some step → s.sequencer.haltStop = false →
    s.sequencer.fixed = none → s.servos.driveMode = .follow →
    (step = .ramp ∨ step = .cruise →
      s.generator.mode = .cruise ∨ (s.generator.mode = .accel ∧ s.loader.groupB.vCreep < s.generator.v) →
      s.servos.t + stepOf d ≤ s.loader.groupB.approachDistance →
      ∃ t, exec (.encoderCount d) s = .next t ∧ Counted d s t ∧ t.rewindStep = some .approach ∧
        t.sequencer.transport = s.sequencer.transport ∧ t.generator.mode = .decel ∧
        (∃ r, t.generator.run = some r ∧ r.toCreep = true ∧ r.target = s.loader.groupB.vCreep) ∧ t.generator.v = s.generator.v ∧
        t.sequencer.fixed = none ∧ t.tracker = s.tracker ∧ t.intake = s.intake) ∧
    (step = .creep → s.generator.mode = .accel ∨ s.generator.mode = .cruise →
      s.servos.t + stepOf d < -(s.loader.groupB.approachDistance : Int) → NothingExpected s →
      ∃ t, exec (.encoderCount d) s = .next t ∧ Counted d s t ∧ t.rewindStep = some .creep ∧
        t.sequencer = { s.sequencer with fixed := some { outcome := .failed, reason := .noLoadPoint } } ∧
        t.generator.mode = .decel ∧ (∃ r, t.generator.run = some r ∧ r.chain = .creepStop ∧ r.toCreep = false) ∧
        t.generator.v = s.generator.v ∧ t.tracker = s.tracker ∧ t.intake = s.intake)) ∧
  (∀ (d : Direction) (s : State) (l : Int), NoMarkerAt d s → s.sequencer.transport = .unloading →
    s.sequencer.phase = some .leader → s.sequencer.leaderStart = some l → s.sequencer.fixed = none →
    s.generator.mode = .accel ∨ s.generator.mode = .cruise →
    s.servos.t + stepOf d ≤ l - 40000 + s.distance .creepStop →
    ∃ t, exec (.encoderCount d) s = .next t ∧ Counted d s t ∧ t.sequencer = s.sequencer ∧ t.generator.mode = .decel ∧
      (∃ r, t.generator.run = some r ∧ r.chain = .creepStop ∧ r.toCreep = false) ∧ t.generator.v = s.generator.v ∧
      t.tracker = s.tracker ∧ t.intake = s.intake)

/-- A marker sensor becomes active: its record is COUNTING from 0. It becomes inactive outside LOADING: its record is IDLE.
Nothing else of the deck changes. -/
def Obligations.MarkerLevelsSetTheRecord : Prop :=
  ∀ (m : Marker) (s : State),
    ((s.sensors.marker m).level = false →
      exec (.markerSensorActive m) s =
        .next (s.onSensors fun n => n.setMarker m { level := true, state := .counting, steps := 0, dir := none })) ∧
    ((s.sensors.marker m).level = true → s.sequencer.transport ≠ .loading → Quiet s →
      ∃ t, exec (.markerSensorInactive m) s = .next t ∧
        t.sensors = s.sensors.setMarker m { level := false, state := .idle, steps := 0, dir := none } ∧
        t.tracker = s.tracker ∧ t.sequencer = s.sequencer ∧ t.generator = s.generator ∧ t.servos = s.servos ∧ t.links = s.links ∧
        t.intake = s.intake ∧ t.loader = s.loader ∧ t.reporter = s.reporter)

/-- An index pulse in driven motion with a reference: a measurement within the bounds, of one direction and unbroken,
refines W; any other is rejected and counted; either way the pulse is the next reference. -/
def Obligations.IndexPulseMeasuresTheReel : Prop :=
  ∀ (reel : Reel) (s : State) (d : Direction) (ref : CaptureRef), s.generator.dir = some d →
    (s.servos.reel reel).capture.ref = some ref →
    ∃ t, exec (.indexPulse reel) s = .next t ∧
      let r := s.servos.reel reel
      let meas := (s.servos.t - ref.pos).natAbs
      let good := ref.dir = d ∧ r.capture.broken = false ∧ s.loader.groupB.wMin ≤ meas ∧ meas ≤ s.loader.groupB.wMax
      (t.servos.reel reel).capture = { ref := some { pos := s.servos.t, dir := d }, broken := false } ∧
      (good → (t.servos.reel reel).w = (3 * r.w + meas) / 4 ∧ (t.servos.reel reel).rejected = r.rejected) ∧
      (¬good → (t.servos.reel reel).w = r.w ∧ (t.servos.reel reel).rejected = min (r.rejected + 1) 65535) ∧
      t.servos.t = s.servos.t ∧ t.servos.driveMode = s.servos.driveMode ∧ t.servos.brake = s.servos.brake ∧
      t.servos.tracking = s.servos.tracking ∧
      t.tracker = s.tracker ∧ t.sequencer = s.sequencer ∧ t.generator = s.generator ∧ t.links = s.links ∧
      t.sensors = s.sensors ∧ t.intake = s.intake ∧ t.path = s.path ∧ t.loader = s.loader

/-! ### Switches -/

/-- A switch's raw level changes away from its debounced state: the stability timer starts, and with a debounce time of 0
the change is accepted in the same event, as at the timer's expiry; back to it: the timer stops; an unsettled switch starts
its timer again. Nothing else changes. -/
def Obligations.RawChangeMovesTheStabilityTimer : Prop :=
  ∀ (sw : Switch) (level : Bool) (s : State), (s.sensors.switch sw).raw = !level →
    let r := s.sensors.switch sw
    let ms := s.loader.groupC.debounce
    (r.settled = true → level ≠ r.debounced → ms ≠ 0 →
      exec (.switchRawChange sw level) s = .next (s.onSensors fun n => n.setSwitch sw { r with raw := level, timer := some ms })) ∧
    (r.settled = true → level = r.debounced →
      exec (.switchRawChange sw level) s = .next (s.onSensors fun n => n.setSwitch sw { r with raw := level, timer := none })) ∧
    (r.settled = true → level ≠ r.debounced → ms = 0 →
      exec (.switchRawChange sw level) s =
        exec (.stabilityTimerExpiry sw) (s.onSensors fun n => n.setSwitch sw { r with raw := level, timer := some 0 })) ∧
    (r.settled = false → ms ≠ 0 →
      exec (.switchRawChange sw level) s = .next (s.onSensors fun n => n.setSwitch sw { r with raw := level, timer := some ms }))

/-- The write-ring switch's stability timer expires: the debounced state takes the raw level; nothing else of the deck
changes. That STATUS is marked at the first settling too is the model's choice (log 23). -/
def Obligations.RingSwitchIsAccepted : Prop :=
  ∀ (s : State) (ms : Nat), s.sensors.ring.timer = some ms → Quiet s →
    ∃ t, exec (.stabilityTimerExpiry .ring) s = .next t ∧
      t.sensors = { s.sensors with ring := { raw := s.sensors.ring.raw, debounced := s.sensors.ring.raw, settled := true, timer := none } } ∧
      t.tracker = s.tracker ∧ t.sequencer = s.sequencer ∧ t.generator = s.generator ∧ t.servos = s.servos ∧ t.links = s.links ∧
      t.intake = s.intake ∧ t.loader = s.loader ∧ .status ∈ t.reporter.dirty

/-- The door accepted OPEN with tape threaded, a vacuum switch accepted LOST while the vacuum is supervised, and
tape-in-path accepted CLEAR outside RELEASE make an emergency stop. A vacuum switch accepted LOST in FAULTED, after a stop
made with the vacuum supervised, adds its event and changes nothing else of the deck; that it does so while not supervised
is the model's choice (log 37). -/
def Obligations.AcceptedLossesStopTheDeck : Prop :=
  (∀ (sw : Switch) (s : State) (ms : Nat), Sound s → (s.sensors.switch sw).timer = some ms → (s.sensors.switch sw).settled = true →
    (s.sensors.switch sw).raw = false → (s.sensors.switch sw).debounced = true → s.sequencer.transport ≠ .unthreaded →
    s.sequencer.transport ≠ .faulted → handOverDue s = none →
    sw = .door ∨ ((sw = .supplyVacuum ∨ sw = .takeupVacuum) ∧ s.supervised = true) ∨ (sw = .tapeInPath ∧ s.releasing = false) →
    ∃ t, exec (.stabilityTimerExpiry sw) s = .next t ∧ (t.sensors.switch sw).debounced = false ∧ EmergencyMade s t) ∧
  (∀ (sw : Switch) (s : State) (ms : Nat), sw = .supplyVacuum ∨ sw = .takeupVacuum → (s.sensors.switch sw).timer = some ms →
    (s.sensors.switch sw).settled = true → (s.sensors.switch sw).raw = false → (s.sensors.switch sw).debounced = true →
    s.sequencer.transport = .faulted → s.sensors.windowArmed = false → s.sensors.lossWatch = true → Quiet s →
    ∃ t, exec (.stabilityTimerExpiry sw) s = .next t ∧ (t.sensors.switch sw).debounced = false ∧
      t.reporter.pendingClasses = s.reporter.pendingClasses ||| 1#9 ∧ t.tracker = s.tracker ∧ t.sequencer = s.sequencer ∧
      t.generator = s.generator ∧ t.servos = s.servos ∧ t.links = s.links ∧ t.intake = s.intake ∧ t.loader = s.loader)

/-- A vacuum switch accepted MADE, the other MADE already and the active set settled, ends VACUUM: LOOPS begins with its
phase timer of 3 s. Tape-in-path accepted CLEAR ends RELEASE and completes the UNLOAD. That a first settling ends VACUUM too
is the model's choice (log 23). -/
def Obligations.AcceptedSwitchesEndThePhases : Prop :=
  (∀ (sw : Switch) (s : State) (ms : Nat), sw = .supplyVacuum ∨ sw = .takeupVacuum → (s.sensors.switch sw).timer = some ms →
    (s.sensors.switch sw).raw = true → (s.sensors.switch sw).debounced = false →
    (∀ other : Switch, other = .supplyVacuum ∨ other = .takeupVacuum → other ≠ sw → (s.sensors.switch other).debounced = true) →
    s.sequencer.transport = .loading → s.sequencer.phase = some .vacuum → s.sequencer.loadStage = .settled → Quiet s →
    ∃ t, exec (.stabilityTimerExpiry sw) s = .next t ∧ (t.sensors.switch sw).debounced = true ∧
      t.sequencer.transport = .loading ∧ t.sequencer.phase = some .loops ∧ t.sequencer.phaseTimer = some 3000 ∧
      t.sequencer.settleCount = 0 ∧ t.sequencer.seekOrigin = s.sequencer.seekOrigin ∧
      t.sequencer.vacuumRequest = s.sequencer.vacuumRequest ∧ t.servos.driveMode = .loopHold ∧
      (s.servos.driveMode = .off → t.servos.brake = false) ∧ t.servos.t = s.servos.t ∧ t.tracker = s.tracker ∧
      t.generator = s.generator ∧ t.links = s.links ∧ t.intake = s.intake ∧ t.loader = s.loader) ∧
  (∀ (s : State) (ms : Nat) (i : Fin 8), s.sensors.tapeInPath.timer = some ms → s.sensors.tapeInPath.settled = true →
    s.sensors.tapeInPath.raw = false → s.sensors.tapeInPath.debounced = true → s.releasing = true → s.intake.running = some i →
    (s.intake.queue = [] ∨ s.intake.suspended = true) → s.tracker.context = none → Quiet s →
    ∃ t, exec (.stabilityTimerExpiry .tapeInPath) s = .next t ∧ t.sensors.tapeInPath.debounced = false ∧
      t.sequencer.transport = .unthreaded ∧ t.sequencer.phase = none ∧ t.sequencer.phaseTimer = none ∧
      t.sequencer.trusted = false ∧ t.sequencer.eot = none ∧ t.servos.driveMode = .off ∧
      (s.servos.driveMode ≠ .off → t.servos.brake = true) ∧ OrderEnds i .done .none s t ∧ t.servos.t = s.servos.t ∧
      t.tracker = s.tracker ∧ t.generator = s.generator ∧ t.links = s.links ∧ t.loader = s.loader)

/-! ### Timers -/

/-- The hold timer expires: the held read is answered RETRY, and nothing else changes. The refresh timer expires: STATUS is
marked dirty, the timer starts again, and nothing else changes. The phase timer expires in VACUUM with a vacuum switch LOST,
or in LOOPS: the LOAD fails and the deck is UNTHREADED. It expires in RELEASE: the UNLOAD fails and the deck is FAULTED. -/
def Obligations.TimersExpire : Prop :=
  (∀ s : State,
     (s.holding = true →
       exec .holdTimerExpiry s = .next (s.onPath fun p => { p with upper := none, answers := p.answers ++ [.retry] })) ∧
     (∀ ms : Nat, s.reporter.refreshTimer = some ms →
       exec .refreshTimerExpiry s = .next (s.onReporter fun r =>
         { r with refreshTimer := some s.loader.groupC.refresh
                  dirty := if .status ∈ r.dirty then r.dirty else r.dirty ++ [.status] }))) ∧
  (∀ (s : State) (i : Fin 8), s.intake.running = some i → s.signals = [] →
     (phaseTimerIn .loading .vacuum s = true → s.vacuumMade = false →
       ∃ t, exec .vacuumTimeout s = .next t ∧ t.sequencer.transport = .unthreaded ∧ t.sequencer.vacuumRequest = false ∧
         t.servos.driveMode = .off ∧ t.sequencer.phaseTimer = none ∧ EndsSuspended .failed .vacuumTimeout s t) ∧
     (phaseTimerIn .loading .loops s = true →
       ∃ t, exec .loopTimeout s = .next t ∧ t.sequencer.transport = .unthreaded ∧ t.sequencer.vacuumRequest = false ∧
         t.servos.driveMode = .off ∧ t.sequencer.phaseTimer = none ∧ EndsSuspended .failed .loopTimeout s t) ∧
     (phaseTimerIn .unloading .release s = true →
       ∃ t, exec .unloadTimeout s = .next t ∧ t.sequencer.transport = .faulted ∧ t.servos.driveMode = .off ∧
         t.sequencer.phaseTimer = none ∧ EndsSuspended .failed .unloadTimeout s t))

/-- A recoverable write failure, by CHECK_FAILED or by the check timer, found while the transport stops: the block is FILLED
again with one attempt more, and recovery waits in SETTLE for its backup target. CHECK_FAILED is the watched word itself
(log 4). -/
def Obligations.WriteFailureOpensRecovery : Prop :=
  ∀ (s : State) (k : Fin 16) (c : Coords) (ctx : OrderContext), (s.record k).state = .awaitCheck →
    (s.record k).coords = some c → (s.record k).attempts < s.loader.groupB.writeRetry → s.sequencer.fixed = none →
    s.sequencer.recovery = none → s.sequencer.transport = .stopping → s.tracker.context = some ctx → ctx.write = true →
    Quiet s →
    ∀ command : Instr, (command = .checkFailed k ∧ RingWatched s) ∨ (command = .checkTimerExpiry k ∧ (s.record k).checkTimer.isSome = true) →
      ∃ t, exec command s = .next t ∧ (t.record k).state = .filled ∧ (t.record k).attempts = (s.record k).attempts + 1 ∧
        (t.record k).coords = some c ∧ (t.record k).checkTimer = none ∧ t.tracker.recordCursor = k ∧
        t.sequencer.anchor = c.start + s.loader.groupB.eExt - s.loader.groupB.gap ∧
        t.sequencer.recovery = some { kind := .write, index := k, phase := .settle,
                                      target := c.start - (s.distance .start + s.loader.groupB.margin) } ∧
        t.sequencer.recordPoint = none ∧ t.sequencer.decisions = [] ∧ t.sequencer.transport = .stopping ∧
        t.reporter.pendingClasses.getLsbD 2 = true ∧ t.generator = s.generator ∧ t.servos = s.servos ∧ t.links = s.links ∧
        t.sensors = s.sensors ∧ t.intake = s.intake ∧ t.loader = s.loader

/-! ### The deck bus -/

/-- A transaction arrives at a free upper port. One that would run past the top of the address space is answered FAULT
without a claim. A write, and a read whose first word is no ready block's, becomes the pass-through claim, and waits for its
turn while the lower port is BUSY. -/
def Obligations.BusTransactionsArrive : Prop :=
  ∀ s : State, s.path.upper = none → Quiet s →
    (∀ txn : BusTxn, 0xFFFFFC < txnAddr txn + 4 * (txnCount txn - 1) →
      ∃ t, exec (match txn with | .read a n => .deckBusRead a n | .write a ws => .deckBusWrite a ws) s = .next t ∧
        t.path.answers = [.fault] ∧ t.path.upper = none ∧ t.path.descriptors = s.path.descriptors ∧
        t.path.slots = s.path.slots ∧ t.tracker = s.tracker ∧ t.sequencer = s.sequencer ∧ t.generator = s.generator ∧
        t.servos = s.servos ∧ t.links = s.links ∧ t.sensors = s.sensors ∧ t.intake = s.intake ∧ t.loader = s.loader ∧
        t.reporter = s.reporter) ∧
    (∀ (x : PortTxn) (a : BusAddr) (ws : List BusWord), s.path.port = some x → a.toNat + 4 * (ws.length - 1) ≤ 0xFFFFFC →
      exec (.deckBusWrite a ws) s = .next (s.onPath fun p => { p with upper := some { txn := .write a ws, stage := .claimed }, answers := [] })) ∧
    (∀ (x : PortTxn) (a : BusAddr) (n : Nat), s.path.port = some x → a.toNat + 4 * (n - 1) ≤ 0xFFFFFC →
      (∀ i : Fin 16, (s.record i).state = .armed ∨ (s.record i).state = .filled →
        s.loader.groupA.bufferBase + (s.record i).offset ≠ a.toNat) →
      exec (.deckBusRead a n) s = .next (s.onPath fun p => { p with upper := some { txn := .read a n, stage := .claimed }, answers := [] }))

/-- A first-word read that finds the ARMED record. Under the release condition it becomes the pass-through claim and the
block is released. Otherwise it is held for the hold limit, or with a hold limit of 0 answered RETRY, and the record stays
ARMED. -/
def Obligations.ArmedReadsAreGated : Prop :=
  ∀ (s : State) (a : BusAddr) (n : Nat) (i : Fin 16) (r : Int), s.path.upper = none → Quiet s → a.toNat + 4 * (n - 1) ≤ 0xFFFFFC →
    firstWordMatch a.toNat s = some i → (s.record i).state = .armed → s.sequencer.recordPoint = some r →
    (releaseCondition s = true → 0 < (s.record i).tapeLength → s.beyondEot = false → (s.record (i + 1)).state ≠ .filled →
      ∃ t, exec (.deckBusRead a n) s = .next t ∧ Released i r s t ∧ t.path.answers = [] ∧
        (∃ stage, t.path.upper = some { txn := .read a n, stage := stage } ∧ (stage = .claimed ∨ stage = .atMemory)) ∧
        t.sequencer.recordPoint = none ∧ (s.sequencer.fixed = none → t.sequencer.fillWait = true) ∧
        (∀ j : Fin 16, j ≠ i → t.record j = s.record j) ∧
        t.servos = s.servos ∧ t.links = s.links ∧ t.sensors = s.sensors ∧ t.intake = s.intake ∧ t.loader = s.loader) ∧
    (releaseCondition s = false → s.loader.groupA.holdLimit ≠ 0 →
      ∃ t, exec (.deckBusRead a n) s = .next t ∧ t.path.answers = [] ∧
        t.path.upper = some { txn := .read a n, stage := .held s.loader.groupA.holdLimit } ∧
        t.tracker = s.tracker ∧ t.sequencer = s.sequencer ∧ t.generator = s.generator ∧ t.servos = s.servos ∧ t.links = s.links ∧
        t.sensors = s.sensors ∧ t.intake = s.intake ∧ t.loader = s.loader ∧ t.reporter = s.reporter) ∧
    (releaseCondition s = false → s.loader.groupA.holdLimit = 0 →
      ∃ t, exec (.deckBusRead a n) s = .next t ∧ t.path.answers = [.retry] ∧ t.path.upper = none ∧
        t.tracker = s.tracker ∧ t.sequencer = s.sequencer ∧ t.generator = s.generator ∧ t.servos = s.servos ∧ t.links = s.links ∧
        t.sensors = s.sensors ∧ t.intake = s.intake ∧ t.loader = s.loader ∧ t.reporter = s.reporter)

/-- A first-word read of a FILLED record is answered RETRY. Out of turn, that is, not at the cursor, with the flag clear, it
sets the flag and raises OUT_OF_TURN_READ; at the cursor, or with the flag set, nothing else changes. -/
def Obligations.FilledReadsAreRetried : Prop :=
  ∀ (s : State) (a : BusAddr) (n : Nat) (i : Fin 16), s.path.upper = none → Quiet s → a.toNat + 4 * (n - 1) ≤ 0xFFFFFC →
    firstWordMatch a.toNat s = some i → (s.record i).state = .filled →
    (i ≠ s.tracker.recordCursor → s.tracker.outOfTurn = false →
      ∃ t, exec (.deckBusRead a n) s = .next t ∧ t.path.upper = none ∧ t.path.answers = [.retry] ∧
        t.tracker = { s.tracker with outOfTurn := true } ∧ t.reporter.pendingClasses = s.reporter.pendingClasses ||| 0x10#9 ∧
        t.sequencer = s.sequencer ∧ t.generator = s.generator ∧ t.servos = s.servos ∧ t.links = s.links ∧ t.sensors = s.sensors ∧
        t.intake = s.intake ∧ t.loader = s.loader) ∧
    (i = s.tracker.recordCursor ∨ s.tracker.outOfTurn = true →
      ∃ t, exec (.deckBusRead a n) s = .next t ∧ t.path.upper = none ∧ t.path.answers = [.retry] ∧
        t.tracker = s.tracker ∧ t.reporter = s.reporter ∧ t.sequencer = s.sequencer ∧ t.generator = s.generator ∧
        t.servos = s.servos ∧ t.links = s.links ∧ t.sensors = s.sensors ∧ t.intake = s.intake ∧ t.loader = s.loader)

/-- Memory answers a pass-through read: the answer is given at the upper port, with its words, and nothing of the deck
changes. With no own claim waiting the lower port stays free; a single own claim has the next turn. The requester issues
nothing with the answer (log 12). -/
def Obligations.PassThroughReadIsAnswered : Prop :=
  ∀ (s : State) (a : BusAddr) (n : Nat) (answer : PassAnswer), atMemory s = some (.read a n) → Quiet s →
    ∃ t, exec (.passThroughReadAnswer answer none) s = .next t ∧ t.path.upper = none ∧
      t.path.answers = [match answer with | .done ws => .done ws | .fault => .fault] ∧
      t.path.descriptors = s.path.descriptors ∧ t.path.slots = s.path.slots ∧
      (s.path.claims = [] → t.path.port = none ∧ t.path.claims = []) ∧
      (∀ c : OwnClaim, s.path.claims = [c] →
        t.path.port = some (.own c.access (accessAddr s.loader.groupA c.access) false) ∧ t.path.claims = []) ∧
      t.tracker = s.tracker ∧ t.sequencer = s.sequencer ∧ t.generator = s.generator ∧ t.servos = s.servos ∧ t.links = s.links ∧
      t.sensors = s.sensors ∧ t.intake = s.intake ∧ t.loader = s.loader ∧ t.reporter = s.reporter

/-- Memory answers a one-word pass-through write. DONE, the word a ring word other than a state code: its enabled bytes are
merged into that shadow word, and nothing else of the shadows or the deck changes. FAULT, the word watched: BUS_FAULT, and
the shadows stay as they were. The requester issues nothing with the answer (log 12). -/
def Obligations.PassThroughWriteIsAnswered : Prop :=
  ∀ (s : State) (a : BusAddr) (w : BusWord), atMemory s = some (.write a [w]) → Quiet s →
    (∀ k : Fin 64, s.path.configured = true → a.toNat = s.loader.groupA.ringBase + 4 * k.val → a.toNat ≠ 252 → k.val % 4 ≠ 2 →
      ∃ t, exec (.passThroughWriteAnswer true none) s = .next t ∧ t.path.upper = none ∧ t.path.answers = [.done []] ∧
        t.path.descriptors = s.path.descriptors.set k (mergeWord s.path.descriptors[k] w) ∧ t.path.slots = s.path.slots ∧
        (∀ b : Fin 32, (t.path.descriptors[k]).getLsbD b =
          if w.enables.getLsbD (b / 8) then w.data.getLsbD b else (s.path.descriptors[k]).getLsbD b) ∧
        t.tracker = s.tracker ∧ t.sequencer = s.sequencer ∧ t.generator = s.generator ∧ t.servos = s.servos ∧ t.links = s.links ∧
        t.sensors = s.sensors ∧ t.intake = s.intake ∧ t.loader = s.loader ∧ t.reporter = s.reporter) ∧
    ((classify s.loader.groupA s.path.configured a.toNat).isSome = true →
      ∃ t, exec (.passThroughWriteAnswer false none) s = .next t ∧ t.path.upper = none ∧ t.path.answers = [.fault] ∧
        t.path.descriptors = s.path.descriptors ∧ t.path.slots = s.path.slots ∧ t.path.commitWord = s.path.commitWord ∧
        t.reporter.pendingClasses = s.reporter.pendingClasses ||| 0x10#9 ∧
        t.tracker = s.tracker ∧ t.sequencer = s.sequencer ∧ t.generator = s.generator ∧ t.servos = s.servos ∧ t.links = s.links ∧
        t.sensors = s.sensors ∧ t.intake = s.intake ∧ t.loader = s.loader)

/-! ### Answers to own accesses -/

/-- An own access whose claim was withdrawn runs to its answer, and the answer is discarded: only the ports change. -/
def Obligations.DiscardedAnswersChangeNothing : Prop :=
  ∀ (s : State) (a : OwnAccess) (addr : Nat) (answer : OwnAnswer) (b : Bool), s.path.port = some (.own a addr true) → Quiet s →
    ∃ t, exec (match a with
        | .fetch _ _ => .segmentFetchAnswer answer
        | .charact _ _ => .characterizationReadAnswer answer
        | .setup _ _ => .setupReadAnswer answer b
        | .sweep _ => .sweepReadAnswer answer
        | .report _ _ => .reportWriteAnswer b) s = .next t ∧
      t.path.descriptors = s.path.descriptors ∧ t.path.slots = s.path.slots ∧ t.path.sweep = s.path.sweep ∧
      t.tracker = s.tracker ∧ t.sequencer = s.sequencer ∧ t.generator = s.generator ∧ t.servos = s.servos ∧ t.links = s.links ∧
      t.sensors = s.sensors ∧ t.intake = s.intake ∧ t.loader = s.loader ∧ t.reporter = s.reporter

/-- A valid segment arrives during a ramp or in CRUISE: it waits in the reload slot. A valid header arrives: its label and
heads are kept, and the walk of the first chain begins. -/
def Obligations.GeneratorReadsAreAnswered : Prop :=
  (∀ (s : State) (o addr : Nat) (head : Option Chain) (ws : Vector Word 8), s.path.port = some (.own (.fetch o head) addr false) →
     s.generator.mode ≠ .hold → s.generator.loadSet = none ∨ s.generator.active.source.isSome = true →
       fetchedOk (segmentOf ws[0] ws[1]) s.loader.groupA.storeSize = true → Quiet s →
     ∃ t, exec (.segmentFetchAnswer (.done ws)) s = .next t ∧
       t.generator = { s.generator with reload := some { segment := segmentOf ws[0] ws[1], head := head } } ∧
       t.tracker = s.tracker ∧ t.sequencer = s.sequencer ∧ t.servos = s.servos ∧ t.links = s.links ∧ t.sensors = s.sensors ∧
       t.intake = s.intake ∧ t.loader = s.loader ∧ t.reporter = s.reporter) ∧
  (∀ (s : State) (o n addr : Nat) (c : Characterization) (ws : Vector Word 8), s.path.port = some (.own (.charact o n) addr false) →
     s.generator.charact = some c → c.headerRead = false → formatOk ws[0] = true →
     (∀ j : Fin 6, placeOk (ws[j.val + 1]).toNat s.loader.groupA.storeSize = true) → Quiet s →
     ∃ t, exec (.characterizationReadAnswer (.done ws)) s = .next t ∧
       t.generator = { s.generator with charact := some { c with
         headerRead := true, label := ws[7], chain := 0, segments := 0, v := 0, sum := 0,
         heads := #v[ws[1].toNat, ws[2].toNat, ws[3].toNat, ws[4].toNat, ws[5].toNat, ws[6].toNat] } } ∧
       t.tracker = s.tracker ∧ t.sequencer = s.sequencer ∧ t.servos = s.servos ∧ t.links = s.links ∧ t.sensors = s.sensors ∧
       t.intake = s.intake ∧ t.loader = s.loader ∧ t.reporter = s.reporter)

/-- The group A read of a configure commit ends. A valid group is published as read, any other as the defaults with
SETUP_GROUP_A_DEFAULTED, a faulted read as the defaults with SETUP_READ_FAULT: the path is configured, the sweep begins, the
counts of the configuration columns are cleared, and the group C read follows. With the deck threaded or orders queued the
group is deferred and stays. In which order the two claims are made is an operand (log 11). -/
def Obligations.GroupAReadPublishes : Prop :=
  ∀ (s : State) (addr : Nat) (ws : Vector Word 8) (b : Bool) (c : SetupCommit) (w : Vector Word 8),
    s.path.port = some (.own (.setup 8 1) addr false) → s.loader.activity = .readingA → s.loader.words = w.toList →
    s.loader.commit = some c → c.groupCDue = true → s.loader.waitingB = false → s.loader.waitingCommit = none → Quiet s →
    let g : GroupA :=
      { ringBase := w[0].toNat, slotBase := w[1].toNat, reportBase := w[2].toNat, storeBase := w[3].toNat, storeSize := w[4].toNat
        bufferBase := w[5].toNat, bufferSize := w[6].toNat, holdLimit := w[7].toNat, passLimit := ws[0].toNat }
    (s.sequencer.transport = .unthreaded → s.intake.queue = [] →
      (GroupAValid g → ∃ t, exec (.setupReadAnswer (.done ws) b) s = .next t ∧ Configured s t ∧ t.loader.groupA = g ∧
        t.loader.result.groupA = { status := .accepted, count := 0, first := 0 } ∧
        t.reporter.pendingClasses = s.reporter.pendingClasses) ∧
      (¬GroupAValid g → ∃ t, exec (.setupReadAnswer (.done ws) b) s = .next t ∧ Configured s t ∧
        t.loader.groupA = GroupA.default ∧ t.loader.result.groupA.status = .defaulted ∧ t.loader.result.groupA.count = 9 ∧
        t.reporter.pendingClasses = s.reporter.pendingClasses ||| 0x20#9) ∧
      (∃ t, exec (.setupReadAnswer .fault b) s = .next t ∧ Configured s t ∧ t.loader.groupA = GroupA.default ∧
        t.loader.result.groupA = { status := .readFault, count := 9, first := 0 } ∧
        t.reporter.pendingClasses = s.reporter.pendingClasses ||| 0x20#9)) ∧
    (s.sequencer.transport ≠ .unthreaded ∨ s.intake.queue ≠ [] →
      ∃ t, exec (.setupReadAnswer (.done ws) b) s = .next t ∧ t.loader.groupA = s.loader.groupA ∧
        t.loader.result.groupA.status = .deferred ∧ t.loader.activity = .readingC ∧ t.path.configured = s.path.configured ∧
        t.path.sweep = s.path.sweep ∧ t.reporter.pendingClasses = s.reporter.pendingClasses ||| 0x20#9 ∧
        t.tracker = s.tracker ∧ t.sequencer = s.sequencer ∧ t.generator = s.generator ∧ t.servos = s.servos ∧ t.links = s.links ∧
        t.sensors = s.sensors ∧ t.intake = s.intake)

/-- The group B read of a LOAD in VACUUM ends: the checked values, or after a FAULT the defaults, are published and taken
up, W starting afresh, the marker counts from 0, the attempts counts within their limits. The built-in profile named is
settled at once, with the distances of the new targets; a set in place begins its characterization. -/
def Obligations.GroupBReadPublishes : Prop :=
  ∀ (s : State) (addr : Nat) (answer : OwnAnswer) (b : Bool) (w : Vector Word 24),
    s.path.port = some (.own (.setup 40 6) addr false) → s.loader.activity = .readingB → s.loader.words = w.toList →
    s.loader.commit = none → s.loader.waitingB = false → s.loader.waitingCommit = none → s.sequencer.loadStage = .reading →
    s.sequencer.transport = .loading → s.sequencer.phase = some .vacuum → s.generator.charact = none → s.generator.loadSet = none →
    s.vacuumMade = false → Quiet s →
    ∃ t, exec (.setupReadAnswer answer b) s = .next t ∧
      let g := match answer with
        | .done ws => groupBOf (checkGroupB (w.toList ++ firstWords 6 ws))
        | .fault => GroupB.default
      t.loader.groupB = g ∧ t.loader.groupA = s.loader.groupA ∧ t.loader.groupC = s.loader.groupC ∧ t.loader.activity = .idle ∧
      t.loader.result.groupB = (match answer with
        | .done ws => checkedResult (checkGroupB (w.toList ++ firstWords 6 ws))
        | .fault => { status := .readFault, count := 30, first := 0 }) ∧
      (answer = .fault → t.reporter.pendingClasses.getLsbD 5 = true) ∧
      t.servos = { s.servos with
        supply := { w := g.wInitSupply, capture := { ref := none, broken := false }, rejected := 0 }
        takeup := { w := g.wInitTakeup, capture := { ref := none, broken := false }, rejected := 0 } } ∧
      (∀ m : Marker, t.sensors.marker m = if (s.sensors.marker m).state = .counting then { s.sensors.marker m with steps := 0 }
        else s.sensors.marker m) ∧
      (∀ i : Fin 16, { t.record i with attempts := 0 } = { s.record i with attempts := 0 }) ∧
      (∀ i : Fin 16, (s.record i).state ∈ [BlockState.filled, .armed, .recording, .awaitCheck, .verified, .failed] →
        (t.record i).attempts = min (s.record i).attempts (g.writeRetry + 1)) ∧
      (∀ i : Fin 16, (s.record i).state ∈ [BlockState.expecting, .received, .unreadable] →
        (t.record i).attempts = min (s.record i).attempts (g.readRetry + 1)) ∧
      (g.profileSet = 4294967295 →
        t.generator = { s.generator with active := builtInSet g } ∧
        t.sequencer = { s.sequencer with loadStage := .settled }) ∧
      (g.profileSet ≠ 4294967295 → g.profileSet % 8 = 0 → g.profileSet + 32 ≤ s.loader.groupA.storeSize → fetching s = false →
        t.sequencer = { s.sequencer with loadStage := .settling } ∧
        ∃ c, t.generator.charact = some c ∧ c.source = g.profileSet ∧ c.slot = none ∧ c.headerRead = false) ∧
      t.links = s.links ∧ t.intake = s.intake

/-- The group C read of a commit is answered: the checked values are published, the setup result shows the check, the commit
is complete, and NOTICE follows the new mask. -/
def Obligations.GroupCReadPublishes : Prop :=
  ∀ (s : State) (addr : Nat) (ws : Vector Word 8) (b : Bool) (c : SetupCommit), s.path.port = some (.own (.setup 48 7) addr false) →
    s.loader.activity = .readingC → s.loader.words = [] → s.loader.waitingB = false → s.loader.waitingCommit = none →
    s.loader.commit = some c → c.awaitingSweep = false → Quiet s →
    ∃ t, exec (.setupReadAnswer (.done ws) b) s = .next t ∧
      let checked := checkGroupC (firstWords 7 ws)
      t.loader = { s.loader with activity := .idle, words := [], commit := none, groupC := groupCOf checked,
                                 result := { s.loader.result with busy := false, groupC := checkedResult checked } } ∧
      t.reporter.notice = noticeLevel t.reporter.pendingClasses t.loader.groupC.mask t.reporter.ceiling ∧
      t.sensors.supply.outside = 0 ∧ t.sensors.takeup.outside = 0 ∧
      t.tracker = s.tracker ∧ t.sequencer = s.sequencer ∧ t.generator = s.generator ∧ t.servos = s.servos ∧ t.links = s.links ∧
      t.intake = s.intake

/-- Whatever words are read, each field of group B and of group C is published as read when it lies in its range and as its
default otherwise; X_ext is held against the G published, and the two window limits take their defaults when they lie too
near each other. The published group C values therefore lie in their ranges. -/
def Obligations.SetupFieldsArePublishedOneByOne : Prop :=
  ∀ words : List Word,
    (let v := fieldRead words 16
     let g := groupBOf (checkGroupB words)
     g.vRec = (if v 16 = 2048 ∨ v 16 = 3072 ∨ v 16 = 4096 then v 16 else 3072) ∧ g.vCreep = rangeOr 256 1024 512 (v 17) ∧
     g.vRew = rangeOr 4096 12800 10240 (v 18) ∧ g.gap = rangeOr 400 2000 600 (v 19) ∧ g.gapBot = rangeOr 2000 8000 3000 (v 20) ∧
     g.headOffset = rangeOr 100 400 240 (v 21) ∧ g.lateAllowance = rangeOr 0 200 40 (v 22) ∧
     g.xExt = rangeOr g.gap 8000 (max 1800 g.gap) (v 23) ∧ g.eExt = rangeOr 0 8000 3500 (v 24) ∧
     g.margin = rangeOr 20 400 100 (v 25) ∧ g.blankLimit = rangeOr 50000 1000000 300000 (v 26) ∧
     g.eotOverrun = rangeOr 0 400000 120000 (v 27) ∧ g.writeRetry = rangeOr 0 15 3 (v 28) ∧ g.readRetry = rangeOr 0 15 5 (v 29) ∧
     g.noShowLimit = rangeOr 1 15 3 (v 30) ∧ g.checkTime = rangeOr 1 20 2 (v 31) ∧ g.kp = rangeOr 0 255 96 (v 32) ∧
     g.kv = rangeOr 0 255 64 (v 33) ∧ g.kc = rangeOr 0 255 40 (v 34) ∧ g.setpoint = rangeOr 256 768 512 (v 35) ∧
     g.eLim = rangeOr 1 255 20 (v 36) ∧ g.kff = rangeOr 0 65535 4000 (v 37) ∧ g.wInitSupply = rangeOr 1000 65535 30000 (v 38) ∧
     g.wInitTakeup = rangeOr 1000 65535 12600 (v 39) ∧ g.wMin = rangeOr 1000 32000 10000 (v 40) ∧
     g.wMax = rangeOr 32001 65535 40000 (v 41) ∧
     g.conversions = (if v 42 = 1 ∨ v 42 = 2 ∨ v 42 = 4 ∨ v 42 = 8 then v 42 else 4) ∧ g.mq = rangeOr 2 64 8 (v 43) ∧
     g.approachDistance = rangeOr 10000 400000 60000 (v 44) ∧ g.profileSet = v 45) ∧
    (let v := fieldRead words 48
     let g := groupCOf (checkGroupC words)
     let lo := rangeOr 0 1023 128 (v 48)
     let hi := rangeOr 0 1023 896 (v 49)
     g.xLo = (if lo + 64 < hi then lo else 128) ∧ g.xHi = (if lo + 64 < hi then hi else 896) ∧
     g.persistence = rangeOr 1 15 3 (v 50) ∧
     g.debounce = (if v 51 = 0 ∨ v 51 = 1 ∨ v 51 = 2 ∨ v 51 = 4 ∨ v 51 = 8 ∨ v 51 = 16 then v 51 else 4) ∧
     g.style = (if v 52 = 1 then .keep else if v 52 = 2 then .off else .roll) ∧ g.mask = BitVec.ofNat 9 (v 53) ∧
     g.refresh = rangeOr 1 100 10 (v 54)) ∧
    (let g := groupCOf (checkGroupC words)
     g.xHi ≤ 1023 ∧ g.xLo + 64 < g.xHi ∧ 1 ≤ g.persistence ∧ g.persistence ≤ 15 ∧ g.debounce ∈ [0, 1, 2, 4, 8, 16] ∧
     1 ≤ g.refresh ∧ g.refresh ≤ 100)

/-- The sweep's twelve reads are made in address order. A sweep read before the last: DONE replaces the eight shadow words it
covers, of the ring in the first eight reads and of the slots in the next three, or, where the map puts the slots below the
ring, of the slots in the first four and of the ring in the next seven; FAULT sets them to 0 and raises BUS_FAULT. The next
read follows, and nothing else changes. -/
def Obligations.SweepReadsReplaceShadows : Prop :=
  (∀ (g : GroupA) (k : Nat), k < 11 → g.ringBase + 256 ≤ g.slotBase ∨ g.slotBase + 128 ≤ g.ringBase →
    accessAddr g (.sweep k) < accessAddr g (.sweep (k + 1))) ∧
  ∀ (s : State) (k j addr : Nat) (ws : Vector Word 8), s.path.port = some (.own (.sweep k) addr false) → s.path.sweep = some k →
    k < 11 → Quiet s →
    (if s.loader.groupA.ringBase ≤ s.loader.groupA.slotBase then j = k else if k < 4 then j = k + 8 else j + 4 = k) →
    ∀ answer : OwnAnswer, answer = .done ws ∨ (answer = .fault ∧ ws = Vector.replicate 8 0) →
    ∃ t, exec (.sweepReadAnswer answer) s = .next t ∧ t.path.sweep = some (k + 1) ∧
      (∀ i : Fin 64, t.path.descriptors[i] =
        if h : 8 * j ≤ i.val ∧ i.val < 8 * j + 8 then ws[i.val - 8 * j]'(by omega) else s.path.descriptors[i]) ∧
      (∀ i : Fin 32, t.path.slots[i] =
        if h : 8 * j ≤ i.val + 64 ∧ i.val + 64 < 8 * j + 8 then ws[i.val + 64 - 8 * j]'(by omega) else s.path.slots[i]) ∧
      (answer = .done ws → t.reporter = s.reporter) ∧
      (answer = .fault → t.reporter.pendingClasses = s.reporter.pendingClasses ||| 0x10#9) ∧
      t.tracker = s.tracker ∧ t.sequencer = s.sequencer ∧ t.generator = s.generator ∧ t.servos = s.servos ∧ t.links = s.links ∧
      t.sensors = s.sensors ∧ t.intake = s.intake ∧ t.loader = s.loader

/-- The twelfth sweep read is answered: the last eight slot words are replaced, or, where the map puts the slots below the
ring, the last eight ring words; the sweep ends, and the Block Table is rebuilt from the descriptor shadows as they then
stand: FILLED where a valid entry holds that code, FREE otherwise, with DESCRIPTOR_INVALID for
an entry that is not valid; both cursors are 0 and no order has a context. The report area is rewritten whole, and the
commit that awaited the sweep is complete once its group reads have ended. -/
def Obligations.SweepEndRebuildsTheTable : Prop :=
  ∀ (s : State) (addr : Nat) (ws : Vector Word 8), s.path.port = some (.own (.sweep 11) addr false) → s.path.sweep = some 11 →
    s.sequencer.transport = .unthreaded → s.sequencer.phase = none → s.signals = [] → s.generator.loadSet = none →
    (s.intake.queue = [] ∨ s.intake.suspended = true) →
    ∀ answer : OwnAnswer, answer = .done ws ∨ (answer = .fault ∧ ws = Vector.replicate 8 0) →
    ∃ t, exec (.sweepReadAnswer answer) s = .next t ∧ t.path.sweep = none ∧
      (s.loader.groupA.ringBase ≤ s.loader.groupA.slotBase → t.path.descriptors = s.path.descriptors ∧
        ∀ j : Fin 32, t.path.slots[j] = if h : 24 ≤ j.val then ws[j.val - 24]'(by omega) else s.path.slots[j]) ∧
      (s.loader.groupA.slotBase < s.loader.groupA.ringBase → t.path.slots = s.path.slots ∧
        ∀ j : Fin 64, t.path.descriptors[j] = if h : 56 ≤ j.val then ws[j.val - 56]'(by omega) else s.path.descriptors[j]) ∧
      (∀ i : Fin 16, t.record i =
        if t.descriptorWord i 2 = 1#32 ∧ entryValid (t.descriptorWord i 0) (t.descriptorWord i 1) s.loader.groupA.bufferSize = true then
          filledRecord (t.descriptorWord i 0) (t.descriptorWord i 1)
        else BlockRecord.blank) ∧
      t.tracker.recordCursor = 0 ∧ t.tracker.receiveCursor = 0 ∧ t.tracker.context = none ∧ t.tracker.outOfTurn = false ∧
      (∀ i : Fin 16, t.descriptorWord i 2 = 1#32 →
        entryValid (t.descriptorWord i 0) (t.descriptorWord i 1) s.loader.groupA.bufferSize = false →
        t.reporter.pendingClasses.getLsbD 4 = true) ∧
      t.reporter.configured = true ∧ t.reporter.dirty = allRecords ∧
      (∀ c : SetupCommit, s.loader.commit = some c →
        if c.groupCDue = true ∨ s.loader.activity = .readingA ∨ s.loader.activity = .readingC then
          t.loader = { s.loader with commit := some { c with awaitingSweep := false } }
        else t.loader.commit = none ∧ t.loader.result = { s.loader.result with busy := false }) ∧
      t.loader.groupA = s.loader.groupA ∧ t.loader.groupB = s.loader.groupB ∧ t.loader.groupC = s.loader.groupC ∧
      t.sequencer = s.sequencer ∧ t.generator = s.generator ∧ t.servos = s.servos ∧ t.links = s.links ∧ t.sensors = s.sensors ∧
      t.intake = s.intake

/-- The Report Writer takes the first dirty record: it leaves the list, its update number grows by one, and its image is
formed of the blocks as they stand, with that number at both ends. A report access is answered: DONE ends the write but for
the first of STATUS; FAULT ends it and marks the record again. -/
def Obligations.ReportRecordsAreWritten : Prop :=
  (∀ (s : State) (n : RecordName) (rest : List RecordName), s.reporter.configured = true → s.reporter.writing = none →
     outstanding OwnAccess.isReport s = false → s.reporter.dirty = n :: rest →
     ∃ t, exec .reportWriteBegin s = .next t ∧
       let u := s.reporter.updates[n.index] + 1#16
       t.reporter = { s.reporter with dirty := rest, updates := s.reporter.updates.set n.index u,
                                      images := s.reporter.images.set n.index (imageOf n u s),
                                      writing := some { name := n, second := false } } ∧
       (imageOf n u s).head? = some (u.setWidth 32) ∧ (imageOf n u s).getLast? = some (u.setWidth 32) ∧
       t.tracker = s.tracker ∧ t.sequencer = s.sequencer ∧ t.generator = s.generator ∧ t.servos = s.servos ∧ t.links = s.links ∧
       t.sensors = s.sensors ∧ t.intake = s.intake ∧ t.loader = s.loader) ∧
  (∀ (s : State) (o addr : Nat) (data : List Word) (n : RecordName) (second : Bool),
     s.path.port = some (.own (.report o data) addr false) → s.reporter.writing = some { name := n, second := second } → Quiet s →
     (n ≠ .status ∨ second = true →
       ∃ t, exec (.reportWriteAnswer true) s = .next t ∧ t.reporter = { s.reporter with writing := none } ∧
         t.tracker = s.tracker ∧ t.sequencer = s.sequencer ∧ t.generator = s.generator ∧ t.servos = s.servos ∧ t.links = s.links ∧
         t.sensors = s.sensors ∧ t.intake = s.intake ∧ t.loader = s.loader) ∧
     (∃ t, exec (.reportWriteAnswer false) s = .next t ∧
       t.reporter = { s.reporter with writing := none, dirty := if n ∈ s.reporter.dirty then s.reporter.dirty else s.reporter.dirty ++ [n] } ∧
       t.tracker = s.tracker ∧ t.sequencer = s.sequencer ∧ t.generator = s.generator ∧ t.servos = s.servos ∧ t.links = s.links ∧
       t.sensors = s.sensors ∧ t.intake = s.intake ∧ t.loader = s.loader))

/-- PROFILE_SELECT with a taken argument: the selection becomes pending and the result PENDING; another slot's pending
selection is CANCELLED, superseded. A pending built-in selection is applied in STOPPED: the built-in profile is active with
the distances of the targets in force, and the slot's result is DONE. PROFILE_SELECT is the watched word itself (log 4). -/
def Obligations.ProfileSelectionsAreTakenAndApplied : Prop :=
  (∀ (s : State) (i : Fin 8) (q : Byte), SlotFree i s → s.intake.running ≠ some i →
     (argumentOf .profileSelect (s.slotWord i 0) (s.slotWord i 1) s.loader.groupA.storeSize).accepted = true → Quiet s →
     ∃ t, exec (.profileSelect i q) s = .next t ∧
       t.generator = { s.generator with pendingSet := some { source :=
         (if s.slotWord i 1 = 0xFFFFFFFF#32 then none else some (s.slotWord i 1).toNat), slot := i } } ∧
       (∀ p, s.generator.pendingSet = some p → p.slot ≠ i → (t.intake.results[p.slot]).outcome = .cancelled ∧
         (t.intake.results[p.slot]).reason = .superseded) ∧
       ((∀ p, s.generator.pendingSet = some p → p.slot ≠ i) → (t.intake.results[i]).outcome = .pending) ∧
       t.intake.queue = s.intake.queue ∧ t.tracker = s.tracker ∧ t.sequencer = s.sequencer ∧ t.servos = s.servos ∧
       t.links = s.links ∧ t.sensors = s.sensors ∧ t.loader = s.loader) ∧
  (∀ (s : State) (i : Fin 8), s.generator.pendingSet = some { source := none, slot := i } → charactOccasion s = true →
     s.sequencer.phase = none → Quiet s →
     ∃ t, exec .characterizationBegin s = .next t ∧
       t.generator = { s.generator with pendingSet := none, active := builtInSet s.loader.groupB } ∧
       (t.intake.results[i]).outcome = .done ∧ (t.intake.results[i]).finalT = s.servos.t ∧
       t.reporter.pendingClasses = s.reporter.pendingClasses ||| 0x80#9 ∧
       t.tracker = s.tracker ∧ t.sequencer = s.sequencer ∧ t.servos = s.servos ∧ t.links = s.links ∧ t.sensors = s.sensors ∧
       t.loader = s.loader)

/-! ### Descriptors -/

/-- The tape length of every record is computed from its kind and length: for DATA length + 40, for MARK 80; in every sound
state, and so after every step. -/
def Obligations.TapeLengthFollowsKindAndLength : Prop :=
  ∀ (s t : State) (i : Fin 16), Sound s → step s = .next t →
    ((t.record i).kind = .data → (t.record i).tapeLength = (t.record i).length + 40) ∧
    ((t.record i).kind = .mark → (t.record i).tapeLength = 80)

/-- FILLED of a valid entry over a FREE record that no order waits for: the block of the shadows is taken. FILLED of an
entry that is not valid, and a code above 6: DESCRIPTOR_INVALID, every record as it was; the shadow keeps the written code.
The command is the watched word itself (log 4). -/
def Obligations.FilledWritesAreTakenOrIgnored : Prop :=
  (∀ (s : State) (i : Fin 16), RingWatched s → (s.record i).state = .free →
     entryValid (s.descriptorWord i 0) (s.descriptorWord i 1) s.loader.groupA.bufferSize = true →
     (i ≠ s.tracker.recordCursor ∨ s.sequencer.fillWait = false) → Quiet s →
     ∃ t, exec (.filled i) s = .next t ∧
       let kind := descriptorKind (s.descriptorWord i 1)
       let len := descriptorLength (s.descriptorWord i 1)
       t.record i = { BlockRecord.blank with state := .filled, kind := kind, length := len, offset := (s.descriptorWord i 0).toNat,
                                             tapeLength := (match kind with | .data => len + 40 | .mark => 80) } ∧
       (∀ j : Fin 16, j ≠ i → t.record j = s.record j) ∧ t.descriptorWord i 2 = 1#32 ∧ .block i ∈ t.reporter.dirty ∧
       t.sequencer = s.sequencer ∧ t.generator = s.generator ∧ t.servos = s.servos ∧ t.links = s.links ∧ t.sensors = s.sensors ∧
       t.intake = s.intake ∧ t.loader = s.loader) ∧
  (∀ (s : State) (i : Fin 16) (code : Word), RingWatched s → Quiet s →
     (((s.record i).state = .free ∧ entryValid (s.descriptorWord i 0) (s.descriptorWord i 1) s.loader.groupA.bufferSize = false ∧
         code = 1#32) ∨ 6 < code.toNat) →
     ∃ t, exec (if code = 1#32 then .filled i else .invalidStateCode i code) s = .next t ∧ t.descriptorWord i 2 = code ∧
       t.reporter.pendingClasses = s.reporter.pendingClasses ||| 0x10#9 ∧ t.tracker = s.tracker ∧ t.sequencer = s.sequencer ∧
       t.generator = s.generator ∧ t.servos = s.servos ∧ t.links = s.links ∧ t.sensors = s.sensors ∧ t.intake = s.intake ∧
       t.loader = s.loader)

/-- EMPTY gives a descriptor back from FILLED, VERIFIED, FAILED, RECEIVED and UNREADABLE: the record is FREE with the values
of a FREE record. The command is the watched word itself (log 4). -/
def Obligations.EmptyFreesTheRecord : Prop :=
  ∀ (s : State) (i : Fin 16), RingWatched s → (s.record i).state ∈ [BlockState.filled, .verified, .failed, .received, .unreadable] →
    (i ≠ s.tracker.receiveCursor ∨ s.sequencer.freeWait = false) → Quiet s →
    ∃ t, exec (.empty i) s = .next t ∧ t.record i = BlockRecord.blank ∧ (∀ j : Fin 16, j ≠ i → t.record j = s.record j) ∧
      t.tracker.recordCursor = s.tracker.recordCursor ∧ t.tracker.receiveCursor = s.tracker.receiveCursor ∧
      t.sequencer = s.sequencer ∧ t.generator = s.generator ∧ t.servos = s.servos ∧ t.links = s.links ∧ t.sensors = s.sensors ∧
      t.intake = s.intake ∧ t.loader = s.loader

/-- EMPTY of the ARMED record retracts it: the record is FREE, the order's span shrinks by one, the record point goes, a
held read is answered RETRY, and the order waits for the cursor record to be filled. With no block in the decision list the
motion stops; otherwise it goes on. A motion whose start the generator still holds back ends in STOPPED at once, and the
WRITE waits there. The command is the watched word itself (log 4). That the wait begins here is the model's reading (log
15). -/
def Obligations.EmptyRetractsTheArmedRecord : Prop :=
  (∀ (s : State) (i : Fin 16) (c : OrderContext), Sound s → RingWatched s → (s.record i).state = .armed →
     s.tracker.context = some c →
     (s.sequencer.transport.underway = true → s.generator.mode ≠ .hold ∨ s.sequencer.decisions ≠ []) → Quiet s →
     ∃ t, exec (.empty i) s = .next t ∧ t.record i = BlockRecord.blank ∧ (∀ j : Fin 16, j ≠ i → t.record j = s.record j) ∧
       t.tracker.recordCursor = s.tracker.recordCursor ∧ t.tracker.receiveCursor = s.tracker.receiveCursor ∧
       (∃ c', t.tracker.context = some c' ∧ c'.span = c.span - 1 ∧ c'.n = c.n ∧ c'.first = c.first ∧ c'.slot = c.slot) ∧
       t.sequencer.recordPoint = none ∧ t.sequencer.fillWait = true ∧ t.sequencer.decisions = s.sequencer.decisions ∧
       (s.holding = true → t.path.upper = none ∧ t.path.answers = s.path.answers ++ [.retry]) ∧
       (s.holding = false → t.path.answers = s.path.answers) ∧
       (s.sequencer.decisions = [] → s.sequencer.transport.underway = true → s.sequencer.purpose.isSome = true →
         s.generator.mode = .accel ∨ s.generator.mode = .cruise → StopBegun s t) ∧
       (s.sequencer.decisions ≠ [] ∨ s.sequencer.transport.underway = false →
         t.sequencer.transport = s.sequencer.transport ∧ t.generator = s.generator) ∧
       t.servos.t = s.servos.t ∧ t.links = s.links ∧ t.sensors = s.sensors ∧ t.intake = s.intake ∧ t.loader = s.loader) ∧
  (∀ (s : State) (i : Fin 16) (c : OrderContext), Sound s → RingWatched s → (s.record i).state = .armed →
     s.tracker.context = some c → c.write = true → s.runningOrder = some .write → s.sequencer.transport.underway = true →
     s.sequencer.phase = none → s.sequencer.purpose.isSome = true → s.generator.mode = .hold → s.sequencer.decisions = [] →
     s.sequencer.fixed = none → s.sequencer.recovery = none → s.sequencer.held = false → s.sequencer.fillHeld = false → Quiet s →
     ∃ t, exec (.empty i) s = .next t ∧ t.record i = BlockRecord.blank ∧ (∀ j : Fin 16, j ≠ i → t.record j = s.record j) ∧
       t.tracker.recordCursor = s.tracker.recordCursor ∧ t.tracker.receiveCursor = s.tracker.receiveCursor ∧
       (∃ c', t.tracker.context = some c' ∧ c'.span = c.span - 1 ∧ c'.n = c.n ∧ c'.first = c.first ∧ c'.slot = c.slot) ∧
       t.sequencer.recordPoint = none ∧ t.sequencer.fillWait = true ∧ t.sequencer.decisions = [] ∧
       (s.holding = true → t.path.upper = none ∧ t.path.answers = s.path.answers ++ [.retry]) ∧
       (s.holding = false → t.path.answers = s.path.answers) ∧
       t.sequencer.transport = .stopped ∧ t.sequencer.dir = none ∧ t.sequencer.purpose = none ∧ t.sequencer.writeMode = false ∧
       t.generator.mode = .hold ∧ t.generator.waiting = none ∧ t.generator.dir = none ∧
       t.servos.t = s.servos.t ∧ t.links = s.links ∧ t.sensors = s.sensors ∧ t.intake = s.intake ∧ t.loader = s.loader)

/-- RECORDED_OK of an AWAIT_CHECK record verifies it; when the done count reaches n, the outcome DONE is fixed. The command
is the watched word itself (log 4). -/
def Obligations.RecordedOkVerifiesTheBlock : Prop :=
  ∀ (s : State) (i : Fin 16) (c : OrderContext), RingWatched s → (s.record i).state = .awaitCheck → s.tracker.context = some c →
    c.write = true → s.sequencer.fixed = none → s.intake.running.isSome = true → s.sequencer.transport ≠ .stopped → Quiet s →
    ∃ t, exec (.recordedOk i) s = .next t ∧ (t.record i).state = .verified ∧ (t.record i).checkTimer = none ∧
      (t.record i).coords = (s.record i).coords ∧
      (∀ j : Fin 16, j ≠ i → j ≠ s.tracker.receiveCursor → t.record j = s.record j) ∧
      (∃ c', t.tracker.context = some c' ∧ c'.n = c.n ∧
        c'.done = (c.indexes.filter fun j => decide ((t.record j).state = .verified)).length ∧
        t.sequencer.fixed = if c.n ≤ c'.done then some { outcome := .done, reason := .none } else none) ∧
      t.generator = s.generator ∧ t.servos = s.servos ∧ t.links = s.links ∧ t.sensors = s.sensors ∧ t.intake = s.intake ∧
      t.loader = s.loader

/-- RECEIVED in a reading order that goes on: the record takes the block of the shadow with its coordinates, the receive
cursor advances, the next record is expected, and the anchor follows the block. RECEIVED_MARK in a reading order that runs:
the record is a MARK of 80 steps, DONE_MARK is fixed and the stop begins. The n-th RECEIVED fixes DONE and begins the stop;
before it, with the next record not FREE, the stop begins and the order waits for that record. In a spacing order each of
the three codes counts one block passed: the EXPECTING record takes the block's fields and stays, and the motion goes on; a
mark, and the n-th block, fix DONE_MARK and DONE, give the record back and begin the stop. The command is the watched word
itself (log 4). -/
def Obligations.ReceiptsAreTaken : Prop :=
  (∀ (s : State) (o : OrderCode) (c : OrderContext), RingWatched s → s.runningOrder = some o → o.isRead = true →
     (s.record s.tracker.receiveCursor).state = .expecting → s.sequencer.fixed = none → s.sequencer.recovery = none →
     s.tracker.context = some c → c.write = false → c.received + 1 < c.n →
     (s.record (s.tracker.receiveCursor + 1)).state = .free → Quiet s →
     let k := s.tracker.receiveCursor
     ∃ t, exec (.received k) s = .next t ∧
       let b := s.servos.t - s.loader.groupB.headOffset
       let tl := (t.record k).tapeLength
       (t.record k).state = .received ∧ (t.record k).kind = descriptorKind (s.descriptorWord k 1) ∧
       (t.record k).length = descriptorLength (s.descriptorWord k 1) ∧ (t.record k).dirReceived = some o.dir ∧
       (t.record k).coords = some (match o.dir with
         | .forward => { start := b - tl, stop := b }
         | .backward => { start := b, stop := b + tl }) ∧
       t.tracker.receiveCursor = k + 1 ∧ t.tracker.context = some { c with received := c.received + 1 } ∧
       (t.record (k + 1)).state = .expecting ∧ (∀ j : Fin 16, j ≠ k → j ≠ k + 1 → t.record j = s.record j) ∧
       t.tracker.recordCursor = s.tracker.recordCursor ∧
       t.sequencer.anchor = (match o.dir with | .forward => b | .backward => b - s.loader.groupB.gap) ∧
       t.sequencer.blankRef = some s.servos.t ∧ t.sequencer.transport = s.sequencer.transport ∧
       t.generator = s.generator ∧ t.servos = s.servos ∧ t.links = s.links ∧ t.sensors = s.sensors ∧ t.intake = s.intake ∧
       t.loader = s.loader) ∧
  (∀ (s : State) (o : OrderCode) (p : Purpose) (c : OrderContext), Sound s → RingWatched s → s.runningOrder = some o → o.isRead = true →
     (s.record s.tracker.receiveCursor).state = .expecting → s.sequencer.fixed = none → s.tracker.context = some c → c.write = false →
     s.sequencer.transport = .running → s.sequencer.purpose = some p → s.generator.mode = .cruise → Quiet s →
     let k := s.tracker.receiveCursor
     ∃ t, exec (.receivedMark k) s = .next t ∧ (t.record k).state = .received ∧ (t.record k).kind = .mark ∧
       (t.record k).tapeLength = 80 ∧ t.tracker.receiveCursor = k + 1 ∧
       t.tracker.context = some { c with received := c.received + 1 } ∧
       t.sequencer.fixed = some { outcome := .doneMark, reason := .none } ∧ t.sequencer.transport = .stopping ∧
       (∀ j : Fin 16, j ≠ k → j ≠ k + 1 → t.record j = s.record j) ∧ t.tracker.recordCursor = s.tracker.recordCursor ∧
       t.generator.mode = .decel ∧ t.generator.v = s.generator.v ∧ t.servos = s.servos ∧ t.links = s.links ∧ t.sensors = s.sensors ∧
       t.intake = s.intake ∧ t.loader = s.loader) ∧
  (∀ (s : State) (o : OrderCode) (p : Purpose) (c : OrderContext), Sound s → RingWatched s → s.runningOrder = some o → o.isRead = true →
     (s.record s.tracker.receiveCursor).state = .expecting → s.sequencer.fixed = none → s.tracker.context = some c → c.write = false →
     s.sequencer.recovery = none → s.sequencer.transport = .running → s.sequencer.purpose = some p → s.generator.mode = .cruise →
     Quiet s →
     let k := s.tracker.receiveCursor
     let b := s.servos.t - s.loader.groupB.headOffset
     (c.n = c.received + 1 ∨ (c.received + 1 < c.n ∧ (s.record (k + 1)).state ≠ .free) →
       ∃ t, exec (.received k) s = .next t ∧ (t.record k).state = .received ∧ t.tracker.receiveCursor = k + 1 ∧
         t.tracker.context = some { c with received := c.received + 1 } ∧
         t.sequencer.anchor = (match o.dir with | .forward => b | .backward => b - s.loader.groupB.gap) ∧
         t.sequencer.blankRef = some s.servos.t ∧ StopBegun s t ∧
         (c.n = c.received + 1 → t.sequencer.fixed = some { outcome := .done, reason := .none }) ∧
         (c.received + 1 < c.n → t.sequencer.fixed = none ∧ t.sequencer.freeWait = true ∧ t.record (k + 1) = s.record (k + 1)) ∧
         (∀ j : Fin 16, j ≠ k → j ≠ k + 1 → t.record j = s.record j) ∧ t.tracker.recordCursor = s.tracker.recordCursor ∧
         t.servos = s.servos ∧ t.links = s.links ∧ t.sensors = s.sensors ∧ t.loader = s.loader)) ∧
  (∀ (s : State) (o : OrderCode) (c : OrderContext), RingWatched s → s.runningOrder = some o → o.isSpace = true →
     (s.record s.tracker.receiveCursor).state = .expecting → s.sequencer.fixed = none → s.tracker.context = some c → c.write = false →
     Quiet s →
     let k := s.tracker.receiveCursor
     let b := s.servos.t - s.loader.groupB.headOffset
     let anchor := match o.dir with | .forward => b | .backward => b - s.loader.groupB.gap
     (∀ command : Instr, command = .received k ∨ command = .receivedError k → c.n = 0 ∨ c.received + 1 < c.n →
       ∃ t, exec command s = .next t ∧
         let tl := (t.record k).tapeLength
         (t.record k).state = .expecting ∧ (t.record k).kind = descriptorKind (s.descriptorWord k 1) ∧
         (t.record k).length = descriptorLength (s.descriptorWord k 1) ∧ (t.record k).dirReceived = some o.dir ∧
         (t.record k).coords = some (match o.dir with
           | .forward => { start := b - tl, stop := b }
           | .backward => { start := b, stop := b + tl }) ∧
         t.tracker.context = some { c with received := c.received + 1 } ∧ t.tracker.receiveCursor = k ∧
         (∀ j : Fin 16, j ≠ k → t.record j = s.record j) ∧ t.tracker.recordCursor = s.tracker.recordCursor ∧
         t.sequencer = { s.sequencer with anchor := anchor, gapKind := .nominal, blankRef := some s.servos.t } ∧
         t.generator = s.generator ∧ t.servos = s.servos ∧ t.links = s.links ∧ t.sensors = s.sensors ∧ t.intake = s.intake ∧
         t.loader = s.loader) ∧
     (∀ (p : Purpose) (command : Instr) (out : Outcome), Sound s → s.sequencer.transport = .running → s.sequencer.purpose = some p →
       s.generator.mode = .cruise →
       (command = .receivedMark k ∧ out = .doneMark) ∨
         ((command = .received k ∨ command = .receivedError k) ∧ c.n = c.received + 1 ∧ out = .done) →
       ∃ t, exec command s = .next t ∧ t.record k = BlockRecord.blank ∧ (∀ j : Fin 16, j ≠ k → t.record j = s.record j) ∧
         t.tracker.context = some { c with received := c.received + 1 } ∧ t.tracker.receiveCursor = k ∧
         t.tracker.recordCursor = s.tracker.recordCursor ∧ t.sequencer.fixed = some { outcome := out, reason := .none } ∧
         t.sequencer.anchor = anchor ∧ t.sequencer.blankRef = some s.servos.t ∧ StopBegun s t ∧
         t.servos = s.servos ∧ t.links = s.links ∧ t.sensors = s.sensors ∧ t.loader = s.loader))

/-- RECEIVED_ERROR within the limit in a reading order that runs: one attempt more, and read recovery settles toward its
backup target, half a gap outside the block. The command is the watched word itself (log 4). -/
def Obligations.ReceivedErrorOpensRecovery : Prop :=
  ∀ (s : State) (o : OrderCode) (p : Purpose), Sound s → RingWatched s → s.runningOrder = some o → o.isRead = true →
    (s.record s.tracker.receiveCursor).state = .expecting → s.sequencer.fixed = none → s.sequencer.recovery = none →
    (s.record s.tracker.receiveCursor).attempts < s.loader.groupB.readRetry → s.sequencer.transport = .running →
    s.sequencer.purpose = some p → s.generator.mode = .cruise → Quiet s →
    let k := s.tracker.receiveCursor
    ∃ t, exec (.receivedError k) s = .next t ∧ (t.record k).state = .expecting ∧
      (t.record k).attempts = (s.record k).attempts + 1 ∧ t.tracker.receiveCursor = k ∧
      (∃ c, (t.record k).coords = some c ∧ t.sequencer.recovery = some { kind := .read, index := k, phase := .settle, target :=
        match o.dir with
        | .forward => c.start - (s.loader.groupB.gap / 2 : Nat)
        | .backward => c.stop + (s.loader.groupB.gap / 2 : Nat) + 2 * s.loader.groupB.headOffset }) ∧
      (∀ j : Fin 16, j ≠ k → t.record j = s.record j) ∧ t.tracker.recordCursor = s.tracker.recordCursor ∧
      t.sequencer.transport = .stopping ∧ t.reporter.pendingClasses.getLsbD 2 = true ∧
      t.servos = s.servos ∧ t.links = s.links ∧ t.sensors = s.sensors ∧ t.intake = s.intake ∧ t.loader = s.loader

/-! ### Orders -/

/-- A queued order committed while the queue holds: the slot's result is QUEUED with the order taken, and the slot joins the
queue's end. Nothing of the deck changes. The final T of a queued result is left open (log 14); the command is the watched
word itself (log 4). -/
def Obligations.QueuedCommitWaits : Prop :=
  ∀ (s : State) (o : OrderCode) (i : Fin 8) (q : Byte), o.queued = true → SlotFree i s → QueueHeld s → s.intake.running ≠ some i →
    (argumentOf o (s.slotWord i 0) (s.slotWord i 1) s.loader.groupA.storeSize).accepted = true → Quiet s →
    ∃ t, exec (commitOf o i q) s = .next t ∧
      let u := argumentOf o (s.slotWord i 0) (s.slotWord i 1) s.loader.groupA.storeSize
      t.intake.queue = s.intake.queue ++ [i] ∧
      (∃ x, t.intake.results[i] = { code := o.code.toNat, tag := s.slotWord i 2, seq := q.toNat, outcome := .queued, reason := .none,
                                    arg := u.used, clamped := u.clamped, blocks := 0, finalT := x }) ∧
      (∀ j : Fin 8, j ≠ i → t.intake.results[j] = s.intake.results[j]) ∧
      t.intake.running = s.intake.running ∧ t.intake.suspended = s.intake.suspended ∧
      t.tracker = s.tracker ∧ t.sequencer = s.sequencer ∧ t.generator = s.generator ∧ t.servos = s.servos ∧ t.links = s.links ∧
      t.sensors = s.sensors ∧ t.loader = s.loader

/-- A commit of any order, or of an unknown code, in a busy slot: SLOT_BUSY, and the slot's result stays as it was. A commit
of a code that no order has: the result is REFUSED with UNKNOWN_ORDER, and ORDER_REFUSED is raised and, in style ROLL,
stored in the event log at the write index; nothing of the deck changes. The command is the watched word itself (log 4). -/
def Obligations.CommitsThatAreNotTaken : Prop :=
  (∀ (s : State) (i : Fin 8) (q : Byte), s.path.configured = true → (s.intake.results[i]).outcome.busy = true → Quiet s →
     ∀ command : Instr, ((∃ o, command = commitOf o i q) ∨ ∃ code, command = .unknownOrder i code q) →
       ∃ t, exec command s = .next t ∧ t.intake = s.intake ∧ t.reporter.pendingClasses = s.reporter.pendingClasses ||| 0x10#9 ∧
         t.tracker = s.tracker ∧ t.sequencer = s.sequencer ∧ t.generator = s.generator ∧ t.servos = s.servos ∧
         t.links = s.links ∧ t.sensors = s.sensors ∧ t.loader = s.loader) ∧
  (∀ (s : State) (i : Fin 8) (code q : Byte), SlotFree i s → definedOrderCode code.toNat = false →
     ∃ t, exec (.unknownOrder i code q) s = .next t ∧ (t.intake.results[i]).outcome = .refused ∧
       (t.intake.results[i]).reason = .unknownOrder ∧ (t.intake.results[i]).code = code.toNat ∧ (t.intake.results[i]).seq = q.toNat ∧
       (t.intake.results[i]).finalT = s.servos.t ∧ (∀ j : Fin 8, j ≠ i → t.intake.results[j] = s.intake.results[j]) ∧
       t.reporter.pendingClasses = s.reporter.pendingClasses ||| 0x10#9 ∧
       (s.loader.groupC.style = .roll → s.reporter.nextSeq < Config.sequenceCap →
         t.reporter.log[s.reporter.writeIndex] = some {
           seq := s.reporter.nextSeq, event := .orderRefused, slot := some i, index := none, t := s.servos.t,
           d0 := BitVec.ofNat 32 (code.toNat + 256 * q.toNat), d1 := 23#32, d2 := 0#32 } ∧
         (∀ j : Fin 8, j ≠ s.reporter.writeIndex → t.reporter.log[j] = s.reporter.log[j]) ∧
         t.reporter.writeIndex = s.reporter.writeIndex + 1 ∧ t.reporter.stored = min (s.reporter.stored + 1) 8 ∧
         t.reporter.nextSeq = s.reporter.nextSeq + 1 ∧ t.reporter.dropped = s.reporter.dropped) ∧
       t.intake.queue = s.intake.queue ∧ t.intake.running = s.intake.running ∧ t.tracker = s.tracker ∧ t.sequencer = s.sequencer ∧ t.generator = s.generator ∧
       t.servos = s.servos ∧ t.links = s.links ∧ t.sensors = s.sensors ∧ t.loader = s.loader)

/-- LOAD from UNTHREADED with the door CLOSED and tape in the path: LOADING begins in VACUUM, with the vacuum asked for, the
phase timer of 2 s and the group B read. REWIND from STOPPED beyond the approach distance: REWINDING begins with its ramp,
backward. UNLOAD begins the same rewind in UNLOADING. The command is the watched word itself (log 4). -/
def Obligations.LoadRewindAndUnloadBegin : Prop :=
  (∀ (s : State) (i : Fin 8) (q : Byte), SlotFree i s → IntakeIdle s → Quiet s → s.sequencer.transport = .unthreaded →
     s.sensors.door.debounced = true → s.sensors.tapeInPath.debounced = true → s.loader.activity = .idle →
     ∃ t, exec (.load i q) s = .next t ∧ Runs i .load t ∧ t.sequencer.transport = .loading ∧ t.sequencer.phase = some .vacuum ∧
       t.sequencer.vacuumRequest = true ∧ t.sequencer.phaseTimer = some 2000 ∧ t.sequencer.seekOrigin = some .fresh ∧
       t.sequencer.trusted = false ∧ t.loader.activity = .readingB ∧ t.servos.driveMode = .off ∧
       t.servos.t = s.servos.t ∧ t.tracker = s.tracker ∧ t.generator = s.generator ∧ t.sensors = s.sensors ∧ t.links = s.links) ∧
  (∀ (s : State) (i : Fin 8) (q : Byte), SlotFree i s → ReadyToMove s → (s.loader.groupB.approachDistance : Int) < s.servos.t →
     s.generator.mode = .hold → s.generator.settling = false →
     (∃ t, exec (.rewind i q) s = .next t ∧ Runs i .rewind t ∧ t.sequencer.transport = .rewinding ∧
       t.sequencer.phase = some (.step .ramp) ∧ t.generator.dir = some .backward ∧ t.servos.t = s.servos.t ∧ t.tracker = s.tracker ∧
       t.links = s.links ∧ t.sensors = s.sensors ∧ t.loader = s.loader) ∧
     (∃ t, exec (.unload i q) s = .next t ∧ Runs i .unload t ∧ t.sequencer.transport = .unloading ∧
       t.sequencer.phase = some .rewind ∧ t.sequencer.rewindStep = some .ramp ∧ t.generator.dir = some .backward ∧
       t.servos.t = s.servos.t ∧ t.tracker = s.tracker ∧ t.links = s.links ∧ t.sensors = s.sensors ∧ t.loader = s.loader))

/-- WRITE with the block at the cursor FILLED and room to start: the block is ARMED, R is a gap after the anchor, and the
forward start begins with WRITE MODE asserted. ERASE with room to start: the forward start begins with WRITE MODE asserted,
toward an end n steps after the anchor. The command is the watched word itself (log 4). -/
def Obligations.WriteAndEraseBegin : Prop :=
  (∀ (s : State) (i : Fin 8) (q : Byte), SlotFree i s → ReadyToMove s → s.sensors.ring.debounced = true → s.beyondEot = false →
     1 ≤ (s.slotWord i 0).toNat → (s.record s.tracker.recordCursor).state = .filled →
     s.servos.t ≤ s.sequencer.anchor + s.gapAfterAnchor - (s.distance .start + s.loader.groupB.margin) →
     ∃ t, exec (.write i q) s = .next t ∧ Runs i .write t ∧ t.sequencer.transport = .starting ∧ t.sequencer.dir = some .forward ∧
       t.sequencer.purpose = some .write ∧ t.sequencer.writeMode = true ∧
       t.sequencer.recordPoint = some (s.sequencer.anchor + s.gapAfterAnchor) ∧
       (t.record s.tracker.recordCursor).state = .armed ∧ (t.record s.tracker.recordCursor).slot = some i ∧
       (∃ c, t.tracker.context = some c ∧ c.write = true ∧ c.n = min (s.slotWord i 0).toNat 16 ∧ c.span = 1) ∧
       (∀ j : Fin 16, j ≠ s.tracker.recordCursor → t.record j = s.record j) ∧ t.tracker.recordCursor = s.tracker.recordCursor ∧
       t.tracker.receiveCursor = s.tracker.receiveCursor ∧ t.servos.t = s.servos.t ∧ t.links = s.links ∧ t.sensors = s.sensors ∧
       t.loader = s.loader) ∧
  (∀ (s : State) (i : Fin 8) (q : Byte), SlotFree i s → ReadyToMove s → s.sensors.ring.debounced = true → s.beyondEot = false →
     1 ≤ (s.slotWord i 0).toNat →
     s.servos.t ≤ s.sequencer.anchor - (s.distance .start + s.loader.groupB.margin) →
     s.servos.t < s.sequencer.anchor + (min (s.slotWord i 0).toNat 65535 : Nat) - s.distance .stop →
     ∃ t, exec (.erase i q) s = .next t ∧ Runs i .erase t ∧ t.sequencer.transport = .starting ∧ t.sequencer.dir = some .forward ∧
       t.sequencer.purpose = some .erase ∧ t.sequencer.writeMode = true ∧
       t.sequencer.eraseEnd = some (s.sequencer.anchor + (min (s.slotWord i 0).toNat 65535 : Nat)) ∧
       t.tracker = s.tracker ∧ t.servos.t = s.servos.t ∧ t.links = s.links ∧ t.sensors = s.sensors ∧ t.loader = s.loader)

/-- READ and SPACE orders with the record at the receive cursor FREE: the record is expected, and the start begins in the
order's direction. The command is the watched word itself (log 4). -/
def Obligations.ReadsAndSpacesBegin : Prop :=
  ∀ (s : State) (o : OrderCode) (i : Fin 8) (q : Byte), o ∈ [OrderCode.readFwd, .readBwd, .spaceFwd, .spaceBwd] → SlotFree i s →
    ReadyToMove s → s.beyondEot = false → (o.dir = .backward → 0 < s.servos.t) → 1 ≤ (s.slotWord i 0).toNat →
    (s.record s.tracker.receiveCursor).state = .free →
    ∃ t, exec (commitOf o i q) s = .next t ∧ Runs i o t ∧ t.sequencer.transport = .starting ∧ t.sequencer.dir = some o.dir ∧
      t.sequencer.purpose = some (if o.isRead then .read else .space) ∧ t.sequencer.blankRef = some s.servos.t ∧
      (t.record s.tracker.receiveCursor).state = .expecting ∧
      (∀ j : Fin 16, j ≠ s.tracker.receiveCursor → t.record j = s.record j) ∧ t.tracker.recordCursor = s.tracker.recordCursor ∧
      t.tracker.receiveCursor = s.tracker.receiveCursor ∧ t.servos.t = s.servos.t ∧ t.links = s.links ∧ t.sensors = s.sensors ∧
      t.loader = s.loader

/-- HALT in RUNNING: the stop begins, the running order ends ABORTED by HALT, the queue is suspended, and HALT's own result
is DONE. The command is the watched word itself (log 4). -/
def Obligations.HaltAbortsTheOrder : Prop :=
  ∀ (s : State) (i j : Fin 8) (q : Byte) (p : Purpose), SlotFree i s → s.intake.running = some j → j ≠ i →
    s.sequencer.transport = .running → s.sequencer.purpose = some p → s.generator.mode = .cruise → s.signals = [] →
    ∃ t, exec (.halt i q) s = .next t ∧ EndsSuspended .aborted .halt s t ∧ t.sequencer.transport = .stopping ∧
      t.sequencer.writeMode = false ∧ t.sequencer.noShow = 0 ∧ t.generator.mode = .decel ∧ t.generator.v = s.generator.v ∧
      (t.intake.results[i]).outcome = .done ∧ t.tracker.context = none ∧ t.intake.queue = s.intake.queue ∧
      t.servos.t = s.servos.t ∧ t.links = s.links ∧ t.sensors = s.sensors ∧ t.loader = s.loader

/-- FLUSH: every queued result is CANCELLED with reason FLUSH and the queue is empty. RESUME of an empty queue makes it
active. RESUME with orders queued and none running hands over the head: while a motion runs or stops it is held until
STOPPED, its result RUNNING, and in UNTHREADED a tape order fails NOT_THREADED, which suspends the queue again. Each order's
own result is DONE; nothing else of the intake or the deck changes. That an order handed over while the tape moves is held
is the model's reading for the states R34 does not name (log 26). The command is the watched word itself (log 4). -/
def Obligations.FlushAndResume : Prop :=
  ∀ (s : State) (i : Fin 8) (q : Byte), SlotFree i s →
    (∃ t, exec (.flush i q) s = .next t ∧ t.intake.queue = [] ∧
      (∀ j ∈ s.intake.queue, (t.intake.results[j]).outcome = .cancelled ∧ (t.intake.results[j]).reason = .flush) ∧
      (i ∉ s.intake.queue → (t.intake.results[i]).outcome = .done) ∧
      (∀ j : Fin 8, j ∉ s.intake.queue → j ≠ i → t.intake.results[j] = s.intake.results[j]) ∧
      t.intake.suspended = s.intake.suspended ∧ t.intake.running = s.intake.running ∧
      t.tracker = s.tracker ∧ t.sequencer = s.sequencer ∧ t.generator = s.generator ∧ t.servos = s.servos ∧ t.links = s.links ∧
      t.sensors = s.sensors ∧ t.loader = s.loader ∧ t.reporter.pendingClasses = s.reporter.pendingClasses) ∧
    (s.intake.queue = [] → s.intake.running ≠ some i → Quiet s →
      ∃ t, exec (.resume i q) s = .next t ∧ t.intake.suspended = false ∧ (t.intake.results[i]).outcome = .done ∧
        (∀ j : Fin 8, j ≠ i → t.intake.results[j] = s.intake.results[j]) ∧ t.intake.queue = [] ∧
        t.intake.running = s.intake.running ∧ t.tracker = s.tracker ∧ t.sequencer = s.sequencer ∧ t.generator = s.generator ∧
        t.servos = s.servos ∧ t.links = s.links ∧ t.sensors = s.sensors ∧ t.loader = s.loader) ∧
    (∀ (j : Fin 8) (rest : List (Fin 8)) (o : OrderCode), s.intake.queue = j :: rest → s.intake.suspended = true →
      s.intake.running = none → s.path.sweep = none → j ≠ i → orderOfCode (s.intake.taken[j]).code = some o → o.queued = true →
      NoOrderState s → Quiet s →
      (s.sequencer.transport.moves = true →
        ∃ t, exec (.resume i q) s = .next t ∧ t.intake.suspended = false ∧ t.intake.queue = rest ∧ t.intake.running = some j ∧
          (t.intake.results[j]).outcome = .running ∧ (t.intake.results[i]).outcome = .done ∧
          (∀ k : Fin 8, k ≠ i → k ≠ j → t.intake.results[k] = s.intake.results[k]) ∧
          t.sequencer = { s.sequencer with held := true } ∧ t.tracker = s.tracker ∧ t.generator = s.generator ∧
          t.servos = s.servos ∧ t.links = s.links ∧ t.sensors = s.sensors ∧ t.loader = s.loader) ∧
      (s.sequencer.transport = .unthreaded → s.sequencer.phase = none → o.ofSequencer = true → s.tracker.context = none →
        ∃ t, exec (.resume i q) s = .next t ∧ t.intake.suspended = true ∧ t.intake.queue = rest ∧ t.intake.running = none ∧
          (t.intake.results[j]).outcome = .failed ∧ (t.intake.results[j]).reason = .notThreaded ∧
          (t.intake.results[i]).outcome = .done ∧ t.sequencer.transport = .unthreaded ∧ t.tracker = s.tracker ∧
          t.generator = s.generator ∧ t.servos = s.servos ∧ t.links = s.links ∧ t.sensors = s.sensors ∧ t.loader = s.loader))

/-- ACK removes each class its argument names from the pending set, the others stay pending, NOTICE follows, and the event
log is not touched; an empty set changes nothing but ACK's result, with RESULT's mark and the slot's commit word; a class that
an event names afterwards is pending again. The command is the watched word itself, merged into its slot (log 4). -/
def Obligations.AckClearsTheNamedClasses : Prop :=
  ∀ (s : State) (i : Fin 8) (q : Byte), SlotFree i s →
    ∃ t, exec (.ack i q) s = .next t ∧
      (∀ c : Fin 9, t.reporter.pendingClasses.getLsbD c = (s.reporter.pendingClasses.getLsbD c && !(s.slotWord i 0).getLsbD c)) ∧
      t.reporter.notice = noticeLevel t.reporter.pendingClasses s.loader.groupC.mask s.reporter.ceiling ∧
      t.reporter.log = s.reporter.log ∧ t.reporter.nextSeq = s.reporter.nextSeq ∧ t.reporter.stored = s.reporter.stored ∧
      t.reporter.writeIndex = s.reporter.writeIndex ∧ t.reporter.dropped = s.reporter.dropped ∧
      t.reporter.ceiling = s.reporter.ceiling ∧ (t.intake.results[i]).outcome = .done ∧
      (∀ j : Fin 8, j ≠ i → t.intake.results[j] = s.intake.results[j]) ∧ t.intake.queue = s.intake.queue ∧
      t.tracker = s.tracker ∧ t.sequencer = s.sequencer ∧ t.generator = s.generator ∧ t.servos = s.servos ∧ t.links = s.links ∧
      t.sensors = s.sensors ∧ t.loader = s.loader ∧
      t.intake.running = s.intake.running ∧ t.intake.suspended = s.intake.suspended ∧
      (∀ j : Fin 8, j ≠ i → t.intake.taken[j] = s.intake.taken[j]) ∧
      (∀ k : Fin 32, t.path.slots[k] = if k.val = 4 * i.val + 3 then (0#16 ++ q) ++ 19#8 else s.path.slots[k]) ∧
      t.path = { s.path with slots := t.path.slots } ∧ t.signals = s.signals ∧ t.freeCount = s.freeCount ∧ t.pending = s.pending ∧
      t.reporter = { s.reporter with
        pendingClasses := t.reporter.pendingClasses, notice := t.reporter.notice, dirty := t.reporter.dirty } ∧
      ((s.slotWord i 0).toNat % 512 = 0 →
        s.reporter.notice = noticeLevel s.reporter.pendingClasses s.loader.groupC.mask s.reporter.ceiling →
        t.reporter = { s.reporter with dirty := if .result i ∈ s.reporter.dirty then s.reporter.dirty else s.reporter.dirty ++ [.result i] }) ∧
      (∀ e : Event, (raise e t).reporter.pendingClasses.getLsbD e.name.noticeClass = true)

/-- CEILING sets the ceiling to its argument as used, 0 to 9, and NOTICE follows; 0 holds it deasserted, and 9 lets every
enabled pending class assert it. The command is the watched word itself (log 4). -/
def Obligations.CeilingSetsTheCeiling : Prop :=
  ∀ (s : State) (i : Fin 8) (q : Byte), SlotFree i s →
    ∃ t, exec (.ceiling i q) s = .next t ∧ t.reporter.ceiling = min (s.slotWord i 0).toNat 9 ∧
      t.reporter.notice = noticeLevel s.reporter.pendingClasses s.loader.groupC.mask t.reporter.ceiling ∧
      (t.reporter.ceiling = 0 → t.reporter.notice = false) ∧
      (t.reporter.ceiling = 9 → t.reporter.notice = decide (s.reporter.pendingClasses &&& s.loader.groupC.mask ≠ 0#9)) ∧
      t.reporter.pendingClasses = s.reporter.pendingClasses ∧ (t.intake.results[i]).outcome = .done ∧
      (t.intake.results[i]).arg = min (s.slotWord i 0).toNat 9 ∧
      (∀ j : Fin 8, j ≠ i → t.intake.results[j] = s.intake.results[j]) ∧ t.intake.queue = s.intake.queue ∧
      t.tracker = s.tracker ∧ t.sequencer = s.sequencer ∧ t.generator = s.generator ∧ t.servos = s.servos ∧ t.links = s.links ∧
      t.sensors = s.sensors ∧ t.loader = s.loader ∧
      t.intake.running = s.intake.running ∧ t.intake.suspended = s.intake.suspended ∧
      (∀ j : Fin 8, j ≠ i → t.intake.taken[j] = s.intake.taken[j]) ∧
      (∀ k : Fin 32, t.path.slots[k] = if k.val = 4 * i.val + 3 then (0#16 ++ q) ++ 20#8 else s.path.slots[k]) ∧
      t.path = { s.path with slots := t.path.slots } ∧ t.signals = s.signals ∧ t.freeCount = s.freeCount ∧ t.pending = s.pending ∧
      t.reporter = { s.reporter with ceiling := t.reporter.ceiling, notice := t.reporter.notice, dirty := t.reporter.dirty }

/-- SOFT_RESET in STOPPED: the queue and the notices are cleared, every record is FREE, the results of the queue are
CANCELLED; the setup values, T and the sensors stay. The command is the watched word itself (log 4). -/
def Obligations.SoftResetClearsTheOrders : Prop :=
  ∀ (s : State) (i : Fin 8) (q : Byte), SlotFree i s → s.sequencer.transport = .stopped → s.sequencer.phase = none →
    s.signals = [] → s.intake.running = none → s.generator.pendingSet = none → s.generator.charact = none →
    s.generator.loadSet = none →
    ∃ t, exec (.softReset i q) s = .next t ∧ t.intake.queue = [] ∧ t.intake.suspended = false ∧ t.intake.running = none ∧
      (∀ j ∈ s.intake.queue, (t.intake.results[j]).outcome = .cancelled ∧ (t.intake.results[j]).reason = .softReset) ∧
      (i ∉ s.intake.queue → (t.intake.results[i]).outcome = .done) ∧
      (∀ k : Fin 16, t.record k = BlockRecord.blank) ∧ t.tracker.recordCursor = 0 ∧ t.tracker.receiveCursor = 0 ∧
      t.tracker.context = none ∧ t.sequencer.transport = .stopped ∧ t.sequencer.anchor = s.sequencer.anchor ∧
      t.sequencer.trusted = s.sequencer.trusted ∧ t.sequencer.eot = s.sequencer.eot ∧ t.sequencer.noShow = 0 ∧
      t.servos = { s.servos with tracking := 0 } ∧ t.generator = s.generator ∧ t.links = s.links ∧ t.sensors = s.sensors ∧
      t.loader = s.loader ∧ t.path.descriptors = s.path.descriptors ∧
      t.reporter.pendingClasses = 0 ∧ t.reporter.ceiling = 9 ∧ t.reporter.notice = false

/-! ### Setup commits -/

/-- Setup commits with no group read under way. 1, with the deck UNTHREADED and the queue empty, begins the group A read;
otherwise it leaves group A DEFERRED and begins the group C read. 2 begins the group C read. Any other value, at any time,
is ignored with SETUP_FIELD_DEFAULTED. The command is the watched word itself (log 4). -/
def Obligations.SetupCommits : Prop :=
  ∀ s : State, Quiet s →
    (s.loader.activity = .idle → s.sequencer.transport = .unthreaded → s.intake.queue = [] →
      ∃ t, exec .setupCommitConfigure s = .next t ∧ t.loader.activity = .readingA ∧ t.loader.result.lastCommit = 1 ∧
        t.loader.result.busy = true ∧ t.loader.groupA = s.loader.groupA ∧ t.path.commitWord = 1#32 ∧ t.tracker = s.tracker ∧
        t.sequencer = s.sequencer ∧ t.generator = s.generator ∧ t.servos = s.servos ∧ t.links = s.links ∧ t.intake = s.intake) ∧
    (s.loader.activity = .idle → s.sequencer.transport ≠ .unthreaded ∨ s.intake.queue ≠ [] →
      ∃ t, exec .setupCommitConfigure s = .next t ∧ t.loader.activity = .readingC ∧ t.loader.result.lastCommit = 1 ∧
        t.loader.result.busy = true ∧ t.loader.result.groupA.status = .deferred ∧ t.loader.groupA = s.loader.groupA ∧
        t.reporter.pendingClasses.getLsbD 5 = true ∧ t.tracker = s.tracker ∧ t.sequencer = s.sequencer ∧
        t.generator = s.generator ∧ t.servos = s.servos ∧ t.links = s.links ∧ t.intake = s.intake) ∧
    (s.loader.activity = .idle →
      ∃ t, exec .setupCommitGroupC s = .next t ∧ t.loader.activity = .readingC ∧ t.loader.result.lastCommit = 2 ∧
        t.loader.result.busy = true ∧ t.path.commitWord = 2#32 ∧ t.tracker = s.tracker ∧ t.sequencer = s.sequencer ∧
        t.generator = s.generator ∧ t.servos = s.servos ∧ t.links = s.links ∧ t.intake = s.intake) ∧
    (∀ value : Word, value ≠ 1#32 → value ≠ 2#32 →
      ∃ t, exec (.setupCommitIgnored value) s = .next t ∧ t.loader = s.loader ∧ t.path.commitWord = value ∧
        t.reporter.pendingClasses = s.reporter.pendingClasses ||| 0x20#9 ∧ t.tracker = s.tracker ∧ t.sequencer = s.sequencer ∧
        t.generator = s.generator ∧ t.servos = s.servos ∧ t.links = s.links ∧ t.sensors = s.sensors ∧ t.intake = s.intake)
end

