-- ==== Sys2Proof/Laws/State.lean ====
section
/-! SUPPORT. Updates of State, field by field: what each update of one block sets and what it leaves. -/

namespace Sys2Proof.Machine

/-! ### onTracker -/

@[simp] theorem onTracker_tracker (f : Tracker → Tracker) (s : State) : (s.onTracker f).tracker = f s.tracker := rfl
@[simp] theorem onTracker_sequencer (f : Tracker → Tracker) (s : State) : (s.onTracker f).sequencer = s.sequencer := rfl
@[simp] theorem onTracker_generator (f : Tracker → Tracker) (s : State) : (s.onTracker f).generator = s.generator := rfl
@[simp] theorem onTracker_servos (f : Tracker → Tracker) (s : State) : (s.onTracker f).servos = s.servos := rfl
@[simp] theorem onTracker_links (f : Tracker → Tracker) (s : State) : (s.onTracker f).links = s.links := rfl
@[simp] theorem onTracker_sensors (f : Tracker → Tracker) (s : State) : (s.onTracker f).sensors = s.sensors := rfl
@[simp] theorem onTracker_intake (f : Tracker → Tracker) (s : State) : (s.onTracker f).intake = s.intake := rfl
@[simp] theorem onTracker_path (f : Tracker → Tracker) (s : State) : (s.onTracker f).path = s.path := rfl
@[simp] theorem onTracker_loader (f : Tracker → Tracker) (s : State) : (s.onTracker f).loader = s.loader := rfl
@[simp] theorem onTracker_reporter (f : Tracker → Tracker) (s : State) : (s.onTracker f).reporter = s.reporter := rfl
@[simp] theorem onTracker_signals (f : Tracker → Tracker) (s : State) : (s.onTracker f).signals = s.signals := rfl
@[simp] theorem onTracker_freeCount (f : Tracker → Tracker) (s : State) : (s.onTracker f).freeCount = s.freeCount := rfl
@[simp] theorem onTracker_pending (f : Tracker → Tracker) (s : State) : (s.onTracker f).pending = s.pending := rfl

/-! ### onSequencer -/

@[simp] theorem onSequencer_tracker (f : Sequencer → Sequencer) (s : State) : (s.onSequencer f).tracker = s.tracker := rfl
@[simp] theorem onSequencer_sequencer (f : Sequencer → Sequencer) (s : State) : (s.onSequencer f).sequencer = f s.sequencer := rfl
@[simp] theorem onSequencer_generator (f : Sequencer → Sequencer) (s : State) : (s.onSequencer f).generator = s.generator := rfl
@[simp] theorem onSequencer_servos (f : Sequencer → Sequencer) (s : State) : (s.onSequencer f).servos = s.servos := rfl
@[simp] theorem onSequencer_links (f : Sequencer → Sequencer) (s : State) : (s.onSequencer f).links = s.links := rfl
@[simp] theorem onSequencer_sensors (f : Sequencer → Sequencer) (s : State) : (s.onSequencer f).sensors = s.sensors := rfl
@[simp] theorem onSequencer_intake (f : Sequencer → Sequencer) (s : State) : (s.onSequencer f).intake = s.intake := rfl
@[simp] theorem onSequencer_path (f : Sequencer → Sequencer) (s : State) : (s.onSequencer f).path = s.path := rfl
@[simp] theorem onSequencer_loader (f : Sequencer → Sequencer) (s : State) : (s.onSequencer f).loader = s.loader := rfl
@[simp] theorem onSequencer_reporter (f : Sequencer → Sequencer) (s : State) : (s.onSequencer f).reporter = s.reporter := rfl
@[simp] theorem onSequencer_signals (f : Sequencer → Sequencer) (s : State) : (s.onSequencer f).signals = s.signals := rfl
@[simp] theorem onSequencer_freeCount (f : Sequencer → Sequencer) (s : State) : (s.onSequencer f).freeCount = s.freeCount := rfl
@[simp] theorem onSequencer_pending (f : Sequencer → Sequencer) (s : State) : (s.onSequencer f).pending = s.pending := rfl

/-! ### onGenerator -/

@[simp] theorem onGenerator_tracker (f : Generator → Generator) (s : State) : (s.onGenerator f).tracker = s.tracker := rfl
@[simp] theorem onGenerator_sequencer (f : Generator → Generator) (s : State) : (s.onGenerator f).sequencer = s.sequencer := rfl
@[simp] theorem onGenerator_generator (f : Generator → Generator) (s : State) : (s.onGenerator f).generator = f s.generator := rfl
@[simp] theorem onGenerator_servos (f : Generator → Generator) (s : State) : (s.onGenerator f).servos = s.servos := rfl
@[simp] theorem onGenerator_links (f : Generator → Generator) (s : State) : (s.onGenerator f).links = s.links := rfl
@[simp] theorem onGenerator_sensors (f : Generator → Generator) (s : State) : (s.onGenerator f).sensors = s.sensors := rfl
@[simp] theorem onGenerator_intake (f : Generator → Generator) (s : State) : (s.onGenerator f).intake = s.intake := rfl
@[simp] theorem onGenerator_path (f : Generator → Generator) (s : State) : (s.onGenerator f).path = s.path := rfl
@[simp] theorem onGenerator_loader (f : Generator → Generator) (s : State) : (s.onGenerator f).loader = s.loader := rfl
@[simp] theorem onGenerator_reporter (f : Generator → Generator) (s : State) : (s.onGenerator f).reporter = s.reporter := rfl
@[simp] theorem onGenerator_signals (f : Generator → Generator) (s : State) : (s.onGenerator f).signals = s.signals := rfl
@[simp] theorem onGenerator_freeCount (f : Generator → Generator) (s : State) : (s.onGenerator f).freeCount = s.freeCount := rfl
@[simp] theorem onGenerator_pending (f : Generator → Generator) (s : State) : (s.onGenerator f).pending = s.pending := rfl

/-! ### onServos -/

@[simp] theorem onServos_tracker (f : Servos → Servos) (s : State) : (s.onServos f).tracker = s.tracker := rfl
@[simp] theorem onServos_sequencer (f : Servos → Servos) (s : State) : (s.onServos f).sequencer = s.sequencer := rfl
@[simp] theorem onServos_generator (f : Servos → Servos) (s : State) : (s.onServos f).generator = s.generator := rfl
@[simp] theorem onServos_servos (f : Servos → Servos) (s : State) : (s.onServos f).servos = f s.servos := rfl
@[simp] theorem onServos_links (f : Servos → Servos) (s : State) : (s.onServos f).links = s.links := rfl
@[simp] theorem onServos_sensors (f : Servos → Servos) (s : State) : (s.onServos f).sensors = s.sensors := rfl
@[simp] theorem onServos_intake (f : Servos → Servos) (s : State) : (s.onServos f).intake = s.intake := rfl
@[simp] theorem onServos_path (f : Servos → Servos) (s : State) : (s.onServos f).path = s.path := rfl
@[simp] theorem onServos_loader (f : Servos → Servos) (s : State) : (s.onServos f).loader = s.loader := rfl
@[simp] theorem onServos_reporter (f : Servos → Servos) (s : State) : (s.onServos f).reporter = s.reporter := rfl
@[simp] theorem onServos_signals (f : Servos → Servos) (s : State) : (s.onServos f).signals = s.signals := rfl
@[simp] theorem onServos_freeCount (f : Servos → Servos) (s : State) : (s.onServos f).freeCount = s.freeCount := rfl
@[simp] theorem onServos_pending (f : Servos → Servos) (s : State) : (s.onServos f).pending = s.pending := rfl

/-! ### onLinks -/

@[simp] theorem onLinks_tracker (f : DriveLinks → DriveLinks) (s : State) : (s.onLinks f).tracker = s.tracker := rfl
@[simp] theorem onLinks_sequencer (f : DriveLinks → DriveLinks) (s : State) : (s.onLinks f).sequencer = s.sequencer := rfl
@[simp] theorem onLinks_generator (f : DriveLinks → DriveLinks) (s : State) : (s.onLinks f).generator = s.generator := rfl
@[simp] theorem onLinks_servos (f : DriveLinks → DriveLinks) (s : State) : (s.onLinks f).servos = s.servos := rfl
@[simp] theorem onLinks_links (f : DriveLinks → DriveLinks) (s : State) : (s.onLinks f).links = f s.links := rfl
@[simp] theorem onLinks_sensors (f : DriveLinks → DriveLinks) (s : State) : (s.onLinks f).sensors = s.sensors := rfl
@[simp] theorem onLinks_intake (f : DriveLinks → DriveLinks) (s : State) : (s.onLinks f).intake = s.intake := rfl
@[simp] theorem onLinks_path (f : DriveLinks → DriveLinks) (s : State) : (s.onLinks f).path = s.path := rfl
@[simp] theorem onLinks_loader (f : DriveLinks → DriveLinks) (s : State) : (s.onLinks f).loader = s.loader := rfl
@[simp] theorem onLinks_reporter (f : DriveLinks → DriveLinks) (s : State) : (s.onLinks f).reporter = s.reporter := rfl
@[simp] theorem onLinks_signals (f : DriveLinks → DriveLinks) (s : State) : (s.onLinks f).signals = s.signals := rfl
@[simp] theorem onLinks_freeCount (f : DriveLinks → DriveLinks) (s : State) : (s.onLinks f).freeCount = s.freeCount := rfl
@[simp] theorem onLinks_pending (f : DriveLinks → DriveLinks) (s : State) : (s.onLinks f).pending = s.pending := rfl

/-! ### onSensors -/

@[simp] theorem onSensors_tracker (f : Sensors → Sensors) (s : State) : (s.onSensors f).tracker = s.tracker := rfl
@[simp] theorem onSensors_sequencer (f : Sensors → Sensors) (s : State) : (s.onSensors f).sequencer = s.sequencer := rfl
@[simp] theorem onSensors_generator (f : Sensors → Sensors) (s : State) : (s.onSensors f).generator = s.generator := rfl
@[simp] theorem onSensors_servos (f : Sensors → Sensors) (s : State) : (s.onSensors f).servos = s.servos := rfl
@[simp] theorem onSensors_links (f : Sensors → Sensors) (s : State) : (s.onSensors f).links = s.links := rfl
@[simp] theorem onSensors_sensors (f : Sensors → Sensors) (s : State) : (s.onSensors f).sensors = f s.sensors := rfl
@[simp] theorem onSensors_intake (f : Sensors → Sensors) (s : State) : (s.onSensors f).intake = s.intake := rfl
@[simp] theorem onSensors_path (f : Sensors → Sensors) (s : State) : (s.onSensors f).path = s.path := rfl
@[simp] theorem onSensors_loader (f : Sensors → Sensors) (s : State) : (s.onSensors f).loader = s.loader := rfl
@[simp] theorem onSensors_reporter (f : Sensors → Sensors) (s : State) : (s.onSensors f).reporter = s.reporter := rfl
@[simp] theorem onSensors_signals (f : Sensors → Sensors) (s : State) : (s.onSensors f).signals = s.signals := rfl
@[simp] theorem onSensors_freeCount (f : Sensors → Sensors) (s : State) : (s.onSensors f).freeCount = s.freeCount := rfl
@[simp] theorem onSensors_pending (f : Sensors → Sensors) (s : State) : (s.onSensors f).pending = s.pending := rfl

/-! ### onIntake -/

@[simp] theorem onIntake_tracker (f : Intake → Intake) (s : State) : (s.onIntake f).tracker = s.tracker := rfl
@[simp] theorem onIntake_sequencer (f : Intake → Intake) (s : State) : (s.onIntake f).sequencer = s.sequencer := rfl
@[simp] theorem onIntake_generator (f : Intake → Intake) (s : State) : (s.onIntake f).generator = s.generator := rfl
@[simp] theorem onIntake_servos (f : Intake → Intake) (s : State) : (s.onIntake f).servos = s.servos := rfl
@[simp] theorem onIntake_links (f : Intake → Intake) (s : State) : (s.onIntake f).links = s.links := rfl
@[simp] theorem onIntake_sensors (f : Intake → Intake) (s : State) : (s.onIntake f).sensors = s.sensors := rfl
@[simp] theorem onIntake_intake (f : Intake → Intake) (s : State) : (s.onIntake f).intake = f s.intake := rfl
@[simp] theorem onIntake_path (f : Intake → Intake) (s : State) : (s.onIntake f).path = s.path := rfl
@[simp] theorem onIntake_loader (f : Intake → Intake) (s : State) : (s.onIntake f).loader = s.loader := rfl
@[simp] theorem onIntake_reporter (f : Intake → Intake) (s : State) : (s.onIntake f).reporter = s.reporter := rfl
@[simp] theorem onIntake_signals (f : Intake → Intake) (s : State) : (s.onIntake f).signals = s.signals := rfl
@[simp] theorem onIntake_freeCount (f : Intake → Intake) (s : State) : (s.onIntake f).freeCount = s.freeCount := rfl
@[simp] theorem onIntake_pending (f : Intake → Intake) (s : State) : (s.onIntake f).pending = s.pending := rfl

/-! ### onPath -/

@[simp] theorem onPath_tracker (f : Path → Path) (s : State) : (s.onPath f).tracker = s.tracker := rfl
@[simp] theorem onPath_sequencer (f : Path → Path) (s : State) : (s.onPath f).sequencer = s.sequencer := rfl
@[simp] theorem onPath_generator (f : Path → Path) (s : State) : (s.onPath f).generator = s.generator := rfl
@[simp] theorem onPath_servos (f : Path → Path) (s : State) : (s.onPath f).servos = s.servos := rfl
@[simp] theorem onPath_links (f : Path → Path) (s : State) : (s.onPath f).links = s.links := rfl
@[simp] theorem onPath_sensors (f : Path → Path) (s : State) : (s.onPath f).sensors = s.sensors := rfl
@[simp] theorem onPath_intake (f : Path → Path) (s : State) : (s.onPath f).intake = s.intake := rfl
@[simp] theorem onPath_path (f : Path → Path) (s : State) : (s.onPath f).path = f s.path := rfl
@[simp] theorem onPath_loader (f : Path → Path) (s : State) : (s.onPath f).loader = s.loader := rfl
@[simp] theorem onPath_reporter (f : Path → Path) (s : State) : (s.onPath f).reporter = s.reporter := rfl
@[simp] theorem onPath_signals (f : Path → Path) (s : State) : (s.onPath f).signals = s.signals := rfl
@[simp] theorem onPath_freeCount (f : Path → Path) (s : State) : (s.onPath f).freeCount = s.freeCount := rfl
@[simp] theorem onPath_pending (f : Path → Path) (s : State) : (s.onPath f).pending = s.pending := rfl

/-! ### onLoader -/

@[simp] theorem onLoader_tracker (f : Loader → Loader) (s : State) : (s.onLoader f).tracker = s.tracker := rfl
@[simp] theorem onLoader_sequencer (f : Loader → Loader) (s : State) : (s.onLoader f).sequencer = s.sequencer := rfl
@[simp] theorem onLoader_generator (f : Loader → Loader) (s : State) : (s.onLoader f).generator = s.generator := rfl
@[simp] theorem onLoader_servos (f : Loader → Loader) (s : State) : (s.onLoader f).servos = s.servos := rfl
@[simp] theorem onLoader_links (f : Loader → Loader) (s : State) : (s.onLoader f).links = s.links := rfl
@[simp] theorem onLoader_sensors (f : Loader → Loader) (s : State) : (s.onLoader f).sensors = s.sensors := rfl
@[simp] theorem onLoader_intake (f : Loader → Loader) (s : State) : (s.onLoader f).intake = s.intake := rfl
@[simp] theorem onLoader_path (f : Loader → Loader) (s : State) : (s.onLoader f).path = s.path := rfl
@[simp] theorem onLoader_loader (f : Loader → Loader) (s : State) : (s.onLoader f).loader = f s.loader := rfl
@[simp] theorem onLoader_reporter (f : Loader → Loader) (s : State) : (s.onLoader f).reporter = s.reporter := rfl
@[simp] theorem onLoader_signals (f : Loader → Loader) (s : State) : (s.onLoader f).signals = s.signals := rfl
@[simp] theorem onLoader_freeCount (f : Loader → Loader) (s : State) : (s.onLoader f).freeCount = s.freeCount := rfl
@[simp] theorem onLoader_pending (f : Loader → Loader) (s : State) : (s.onLoader f).pending = s.pending := rfl

/-! ### onReporter -/

@[simp] theorem onReporter_tracker (f : Reporter → Reporter) (s : State) : (s.onReporter f).tracker = s.tracker := rfl
@[simp] theorem onReporter_sequencer (f : Reporter → Reporter) (s : State) : (s.onReporter f).sequencer = s.sequencer := rfl
@[simp] theorem onReporter_generator (f : Reporter → Reporter) (s : State) : (s.onReporter f).generator = s.generator := rfl
@[simp] theorem onReporter_servos (f : Reporter → Reporter) (s : State) : (s.onReporter f).servos = s.servos := rfl
@[simp] theorem onReporter_links (f : Reporter → Reporter) (s : State) : (s.onReporter f).links = s.links := rfl
@[simp] theorem onReporter_sensors (f : Reporter → Reporter) (s : State) : (s.onReporter f).sensors = s.sensors := rfl
@[simp] theorem onReporter_intake (f : Reporter → Reporter) (s : State) : (s.onReporter f).intake = s.intake := rfl
@[simp] theorem onReporter_path (f : Reporter → Reporter) (s : State) : (s.onReporter f).path = s.path := rfl
@[simp] theorem onReporter_loader (f : Reporter → Reporter) (s : State) : (s.onReporter f).loader = s.loader := rfl
@[simp] theorem onReporter_reporter (f : Reporter → Reporter) (s : State) : (s.onReporter f).reporter = f s.reporter := rfl
@[simp] theorem onReporter_signals (f : Reporter → Reporter) (s : State) : (s.onReporter f).signals = s.signals := rfl
@[simp] theorem onReporter_freeCount (f : Reporter → Reporter) (s : State) : (s.onReporter f).freeCount = s.freeCount := rfl
@[simp] theorem onReporter_pending (f : Reporter → Reporter) (s : State) : (s.onReporter f).pending = s.pending := rfl

/-! ### signal -/

@[simp] theorem signal_tracker (g : Signal) (s : State) : (s.signal g).tracker = s.tracker := rfl
@[simp] theorem signal_sequencer (g : Signal) (s : State) : (s.signal g).sequencer = s.sequencer := rfl
@[simp] theorem signal_generator (g : Signal) (s : State) : (s.signal g).generator = s.generator := rfl
@[simp] theorem signal_servos (g : Signal) (s : State) : (s.signal g).servos = s.servos := rfl
@[simp] theorem signal_links (g : Signal) (s : State) : (s.signal g).links = s.links := rfl
@[simp] theorem signal_sensors (g : Signal) (s : State) : (s.signal g).sensors = s.sensors := rfl
@[simp] theorem signal_intake (g : Signal) (s : State) : (s.signal g).intake = s.intake := rfl
@[simp] theorem signal_path (g : Signal) (s : State) : (s.signal g).path = s.path := rfl
@[simp] theorem signal_loader (g : Signal) (s : State) : (s.signal g).loader = s.loader := rfl
@[simp] theorem signal_reporter (g : Signal) (s : State) : (s.signal g).reporter = s.reporter := rfl
@[simp] theorem signal_signals (g : Signal) (s : State) : (s.signal g).signals = s.signals ++ [g] := rfl
@[simp] theorem signal_freeCount (g : Signal) (s : State) : (s.signal g).freeCount = s.freeCount := rfl
@[simp] theorem signal_pending (g : Signal) (s : State) : (s.signal g).pending = s.pending := rfl

/-! ### setSignals -/

@[simp] theorem setSignals_tracker (l : List Signal) (s : State) : (s.setSignals l).tracker = s.tracker := rfl
@[simp] theorem setSignals_sequencer (l : List Signal) (s : State) : (s.setSignals l).sequencer = s.sequencer := rfl
@[simp] theorem setSignals_generator (l : List Signal) (s : State) : (s.setSignals l).generator = s.generator := rfl
@[simp] theorem setSignals_servos (l : List Signal) (s : State) : (s.setSignals l).servos = s.servos := rfl
@[simp] theorem setSignals_links (l : List Signal) (s : State) : (s.setSignals l).links = s.links := rfl
@[simp] theorem setSignals_sensors (l : List Signal) (s : State) : (s.setSignals l).sensors = s.sensors := rfl
@[simp] theorem setSignals_intake (l : List Signal) (s : State) : (s.setSignals l).intake = s.intake := rfl
@[simp] theorem setSignals_path (l : List Signal) (s : State) : (s.setSignals l).path = s.path := rfl
@[simp] theorem setSignals_loader (l : List Signal) (s : State) : (s.setSignals l).loader = s.loader := rfl
@[simp] theorem setSignals_reporter (l : List Signal) (s : State) : (s.setSignals l).reporter = s.reporter := rfl
@[simp] theorem setSignals_signals (l : List Signal) (s : State) : (s.setSignals l).signals = l := rfl
@[simp] theorem setSignals_freeCount (l : List Signal) (s : State) : (s.setSignals l).freeCount = s.freeCount := rfl
@[simp] theorem setSignals_pending (l : List Signal) (s : State) : (s.setSignals l).pending = s.pending := rfl

/-! ### setFreeCount -/

@[simp] theorem setFreeCount_tracker (n : Nat) (s : State) : (s.setFreeCount n).tracker = s.tracker := rfl
@[simp] theorem setFreeCount_sequencer (n : Nat) (s : State) : (s.setFreeCount n).sequencer = s.sequencer := rfl
@[simp] theorem setFreeCount_generator (n : Nat) (s : State) : (s.setFreeCount n).generator = s.generator := rfl
@[simp] theorem setFreeCount_servos (n : Nat) (s : State) : (s.setFreeCount n).servos = s.servos := rfl
@[simp] theorem setFreeCount_links (n : Nat) (s : State) : (s.setFreeCount n).links = s.links := rfl
@[simp] theorem setFreeCount_sensors (n : Nat) (s : State) : (s.setFreeCount n).sensors = s.sensors := rfl
@[simp] theorem setFreeCount_intake (n : Nat) (s : State) : (s.setFreeCount n).intake = s.intake := rfl
@[simp] theorem setFreeCount_path (n : Nat) (s : State) : (s.setFreeCount n).path = s.path := rfl
@[simp] theorem setFreeCount_loader (n : Nat) (s : State) : (s.setFreeCount n).loader = s.loader := rfl
@[simp] theorem setFreeCount_reporter (n : Nat) (s : State) : (s.setFreeCount n).reporter = s.reporter := rfl
@[simp] theorem setFreeCount_signals (n : Nat) (s : State) : (s.setFreeCount n).signals = s.signals := rfl
@[simp] theorem setFreeCount_freeCount (n : Nat) (s : State) : (s.setFreeCount n).freeCount = n := rfl
@[simp] theorem setFreeCount_pending (n : Nat) (s : State) : (s.setFreeCount n).pending = s.pending := rfl

/-! ### withQueue -/

@[simp] theorem withQueue_tracker (s : State) (q : List Instr) : (s.withQueue q).tracker = s.tracker := rfl
@[simp] theorem withQueue_sequencer (s : State) (q : List Instr) : (s.withQueue q).sequencer = s.sequencer := rfl
@[simp] theorem withQueue_generator (s : State) (q : List Instr) : (s.withQueue q).generator = s.generator := rfl
@[simp] theorem withQueue_servos (s : State) (q : List Instr) : (s.withQueue q).servos = s.servos := rfl
@[simp] theorem withQueue_links (s : State) (q : List Instr) : (s.withQueue q).links = s.links := rfl
@[simp] theorem withQueue_sensors (s : State) (q : List Instr) : (s.withQueue q).sensors = s.sensors := rfl
@[simp] theorem withQueue_intake (s : State) (q : List Instr) : (s.withQueue q).intake = s.intake := rfl
@[simp] theorem withQueue_path (s : State) (q : List Instr) : (s.withQueue q).path = s.path := rfl
@[simp] theorem withQueue_loader (s : State) (q : List Instr) : (s.withQueue q).loader = s.loader := rfl
@[simp] theorem withQueue_reporter (s : State) (q : List Instr) : (s.withQueue q).reporter = s.reporter := rfl
@[simp] theorem withQueue_signals (s : State) (q : List Instr) : (s.withQueue q).signals = s.signals := rfl
@[simp] theorem withQueue_freeCount (s : State) (q : List Instr) : (s.withQueue q).freeCount = s.freeCount := rfl
@[simp] theorem withQueue_pending (s : State) (q : List Instr) : (s.withQueue q).pending = q := rfl

end Sys2Proof.Machine
end

