-- ==== Sys2Proof/Laws/Keeps.lean ====
section
/-! SUPPORT. Which blocks each shared operation leaves alone, one lemma an operation. -/

namespace Sys2Proof.Machine

theorem foldl_keeps {α β : Type} (p : State → β) (f : State → α → State) (hf : ∀ a i, p (f a i) = p a) (l : List α) (s : State) :
    p (l.foldl f s) = p s := by
  induction l generalizing s with
  | nil => rfl
  | cons i l ih => exact (ih (f s i)).trans (hf s i)

@[simp] theorem mark_keeps (n : RecordName) (s : State) :
    (mark n s).tracker = s.tracker ∧ (mark n s).sequencer = s.sequencer ∧ (mark n s).generator = s.generator ∧ (mark n s).servos = s.servos ∧ (mark n s).links = s.links ∧ (mark n s).sensors = s.sensors ∧ (mark n s).intake = s.intake ∧ (mark n s).path = s.path ∧ (mark n s).loader = s.loader ∧ (mark n s).signals = s.signals ∧ (mark n s).freeCount = s.freeCount ∧ (mark n s).pending = s.pending := by
  unfold mark
  refine ⟨?_, ?_, ?_, ?_, ?_, ?_, ?_, ?_, ?_, ?_, ?_, ?_⟩ <;> (try dsimp only) <;> (repeat' split) <;> simp

@[simp] theorem markStatus_keeps (s : State) :
    (markStatus s).tracker = s.tracker ∧ (markStatus s).sequencer = s.sequencer ∧ (markStatus s).generator = s.generator ∧ (markStatus s).servos = s.servos ∧ (markStatus s).links = s.links ∧ (markStatus s).sensors = s.sensors ∧ (markStatus s).intake = s.intake ∧ (markStatus s).path = s.path ∧ (markStatus s).loader = s.loader ∧ (markStatus s).signals = s.signals ∧ (markStatus s).freeCount = s.freeCount ∧ (markStatus s).pending = s.pending := by
  unfold markStatus
  refine ⟨?_, ?_, ?_, ?_, ?_, ?_, ?_, ?_, ?_, ?_, ?_, ?_⟩ <;> (try dsimp only) <;> (repeat' split) <;> simp

@[simp] theorem markStatusIf_keeps (c : Bool) (s : State) :
    (markStatusIf c s).tracker = s.tracker ∧ (markStatusIf c s).sequencer = s.sequencer ∧ (markStatusIf c s).generator = s.generator ∧ (markStatusIf c s).servos = s.servos ∧ (markStatusIf c s).links = s.links ∧ (markStatusIf c s).sensors = s.sensors ∧ (markStatusIf c s).intake = s.intake ∧ (markStatusIf c s).path = s.path ∧ (markStatusIf c s).loader = s.loader ∧ (markStatusIf c s).signals = s.signals ∧ (markStatusIf c s).freeCount = s.freeCount ∧ (markStatusIf c s).pending = s.pending := by
  unfold markStatusIf
  refine ⟨?_, ?_, ?_, ?_, ?_, ?_, ?_, ?_, ?_, ?_, ?_, ?_⟩ <;> (try dsimp only) <;> (repeat' split) <;> simp

@[simp] theorem followNotice_keeps (s : State) :
    (followNotice s).tracker = s.tracker ∧ (followNotice s).sequencer = s.sequencer ∧ (followNotice s).generator = s.generator ∧ (followNotice s).servos = s.servos ∧ (followNotice s).links = s.links ∧ (followNotice s).sensors = s.sensors ∧ (followNotice s).intake = s.intake ∧ (followNotice s).path = s.path ∧ (followNotice s).loader = s.loader ∧ (followNotice s).signals = s.signals ∧ (followNotice s).freeCount = s.freeCount ∧ (followNotice s).pending = s.pending := by
  unfold followNotice
  refine ⟨?_, ?_, ?_, ?_, ?_, ?_, ?_, ?_, ?_, ?_, ?_, ?_⟩ <;> (try dsimp only) <;> (repeat' split) <;> simp

@[simp] theorem setPendingClasses_keeps (p : BitVec 9) (s : State) :
    (setPendingClasses p s).tracker = s.tracker ∧ (setPendingClasses p s).sequencer = s.sequencer ∧ (setPendingClasses p s).generator = s.generator ∧ (setPendingClasses p s).servos = s.servos ∧ (setPendingClasses p s).links = s.links ∧ (setPendingClasses p s).sensors = s.sensors ∧ (setPendingClasses p s).intake = s.intake ∧ (setPendingClasses p s).path = s.path ∧ (setPendingClasses p s).loader = s.loader ∧ (setPendingClasses p s).signals = s.signals ∧ (setPendingClasses p s).freeCount = s.freeCount ∧ (setPendingClasses p s).pending = s.pending := by
  unfold setPendingClasses
  refine ⟨?_, ?_, ?_, ?_, ?_, ?_, ?_, ?_, ?_, ?_, ?_, ?_⟩ <;> (try dsimp only) <;> (repeat' split) <;> simp

@[simp] theorem setCeiling_keeps (c : Nat) (s : State) :
    (setCeiling c s).tracker = s.tracker ∧ (setCeiling c s).sequencer = s.sequencer ∧ (setCeiling c s).generator = s.generator ∧ (setCeiling c s).servos = s.servos ∧ (setCeiling c s).links = s.links ∧ (setCeiling c s).sensors = s.sensors ∧ (setCeiling c s).intake = s.intake ∧ (setCeiling c s).path = s.path ∧ (setCeiling c s).loader = s.loader ∧ (setCeiling c s).signals = s.signals ∧ (setCeiling c s).freeCount = s.freeCount ∧ (setCeiling c s).pending = s.pending := by
  unfold setCeiling
  refine ⟨?_, ?_, ?_, ?_, ?_, ?_, ?_, ?_, ?_, ?_, ?_, ?_⟩ <;> (try dsimp only) <;> (repeat' split) <;> simp

@[simp] theorem dropEvent_keeps (s : State) :
    (dropEvent s).tracker = s.tracker ∧ (dropEvent s).sequencer = s.sequencer ∧ (dropEvent s).generator = s.generator ∧ (dropEvent s).servos = s.servos ∧ (dropEvent s).links = s.links ∧ (dropEvent s).sensors = s.sensors ∧ (dropEvent s).intake = s.intake ∧ (dropEvent s).path = s.path ∧ (dropEvent s).loader = s.loader ∧ (dropEvent s).signals = s.signals ∧ (dropEvent s).freeCount = s.freeCount ∧ (dropEvent s).pending = s.pending := by
  unfold dropEvent
  refine ⟨?_, ?_, ?_, ?_, ?_, ?_, ?_, ?_, ?_, ?_, ?_, ?_⟩ <;> (try dsimp only) <;> (repeat' split) <;> simp

@[simp] theorem storeEvent_keeps (g : LogRecord) (s : State) :
    (storeEvent g s).tracker = s.tracker ∧ (storeEvent g s).sequencer = s.sequencer ∧ (storeEvent g s).generator = s.generator ∧ (storeEvent g s).servos = s.servos ∧ (storeEvent g s).links = s.links ∧ (storeEvent g s).sensors = s.sensors ∧ (storeEvent g s).intake = s.intake ∧ (storeEvent g s).path = s.path ∧ (storeEvent g s).loader = s.loader ∧ (storeEvent g s).signals = s.signals ∧ (storeEvent g s).freeCount = s.freeCount ∧ (storeEvent g s).pending = s.pending := by
  unfold storeEvent
  refine ⟨?_, ?_, ?_, ?_, ?_, ?_, ?_, ?_, ?_, ?_, ?_, ?_⟩ <;> (try dsimp only) <;> (repeat' split) <;> simp

@[simp] theorem logEvent_keeps (e : Event) (s : State) :
    (logEvent e s).tracker = s.tracker ∧ (logEvent e s).sequencer = s.sequencer ∧ (logEvent e s).generator = s.generator ∧ (logEvent e s).servos = s.servos ∧ (logEvent e s).links = s.links ∧ (logEvent e s).sensors = s.sensors ∧ (logEvent e s).intake = s.intake ∧ (logEvent e s).path = s.path ∧ (logEvent e s).loader = s.loader ∧ (logEvent e s).signals = s.signals ∧ (logEvent e s).freeCount = s.freeCount ∧ (logEvent e s).pending = s.pending := by
  unfold logEvent
  refine ⟨?_, ?_, ?_, ?_, ?_, ?_, ?_, ?_, ?_, ?_, ?_, ?_⟩ <;> (try dsimp only) <;> (repeat' split) <;> simp

@[simp] theorem raise_keeps (e : Event) (s : State) :
    (raise e s).tracker = s.tracker ∧ (raise e s).sequencer = s.sequencer ∧ (raise e s).generator = s.generator ∧ (raise e s).servos = s.servos ∧ (raise e s).links = s.links ∧ (raise e s).sensors = s.sensors ∧ (raise e s).intake = s.intake ∧ (raise e s).path = s.path ∧ (raise e s).loader = s.loader ∧ (raise e s).signals = s.signals ∧ (raise e s).freeCount = s.freeCount ∧ (raise e s).pending = s.pending := by
  unfold raise
  refine ⟨?_, ?_, ?_, ?_, ?_, ?_, ?_, ?_, ?_, ?_, ?_, ?_⟩ <;> (try dsimp only) <;> (repeat' split) <;> simp

@[simp] theorem raiseBlock_keeps (e : EventName) (i : Fin 16) (d0 d1 : Word) (s : State) :
    (raiseBlock e i d0 d1 s).tracker = s.tracker ∧ (raiseBlock e i d0 d1 s).sequencer = s.sequencer ∧ (raiseBlock e i d0 d1 s).generator = s.generator ∧ (raiseBlock e i d0 d1 s).servos = s.servos ∧ (raiseBlock e i d0 d1 s).links = s.links ∧ (raiseBlock e i d0 d1 s).sensors = s.sensors ∧ (raiseBlock e i d0 d1 s).intake = s.intake ∧ (raiseBlock e i d0 d1 s).path = s.path ∧ (raiseBlock e i d0 d1 s).loader = s.loader ∧ (raiseBlock e i d0 d1 s).signals = s.signals ∧ (raiseBlock e i d0 d1 s).freeCount = s.freeCount ∧ (raiseBlock e i d0 d1 s).pending = s.pending := by
  unfold raiseBlock
  refine ⟨?_, ?_, ?_, ?_, ?_, ?_, ?_, ?_, ?_, ?_, ?_, ?_⟩ <;> (try dsimp only) <;> (repeat' split) <;> simp

@[simp] theorem publishStyle_keeps (style : LogStyle) (s : State) :
    (publishStyle style s).tracker = s.tracker ∧ (publishStyle style s).sequencer = s.sequencer ∧ (publishStyle style s).generator = s.generator ∧ (publishStyle style s).servos = s.servos ∧ (publishStyle style s).links = s.links ∧ (publishStyle style s).sensors = s.sensors ∧ (publishStyle style s).intake = s.intake ∧ (publishStyle style s).path = s.path ∧ (publishStyle style s).loader = s.loader ∧ (publishStyle style s).signals = s.signals ∧ (publishStyle style s).freeCount = s.freeCount ∧ (publishStyle style s).pending = s.pending := by
  unfold publishStyle
  refine ⟨?_, ?_, ?_, ?_, ?_, ?_, ?_, ?_, ?_, ?_, ?_, ?_⟩ <;> (try dsimp only) <;> (try split) <;> simp [foldl_keeps]

@[simp] theorem makeClaim_keeps (a : OwnAccess) (urgent : Bool) (s : State) :
    (makeClaim a urgent s).tracker = s.tracker ∧ (makeClaim a urgent s).sequencer = s.sequencer ∧ (makeClaim a urgent s).generator = s.generator ∧ (makeClaim a urgent s).servos = s.servos ∧ (makeClaim a urgent s).links = s.links ∧ (makeClaim a urgent s).sensors = s.sensors ∧ (makeClaim a urgent s).intake = s.intake ∧ (makeClaim a urgent s).loader = s.loader ∧ (makeClaim a urgent s).reporter = s.reporter ∧ (makeClaim a urgent s).signals = s.signals ∧ (makeClaim a urgent s).freeCount = s.freeCount ∧ (makeClaim a urgent s).pending = s.pending := by
  unfold makeClaim
  refine ⟨?_, ?_, ?_, ?_, ?_, ?_, ?_, ?_, ?_, ?_, ?_, ?_⟩ <;> (try dsimp only) <;> (repeat' split) <;> simp

@[simp] theorem withdrawClaims_keeps (f : OwnAccess → Bool) (s : State) :
    (withdrawClaims f s).tracker = s.tracker ∧ (withdrawClaims f s).sequencer = s.sequencer ∧ (withdrawClaims f s).generator = s.generator ∧ (withdrawClaims f s).servos = s.servos ∧ (withdrawClaims f s).links = s.links ∧ (withdrawClaims f s).sensors = s.sensors ∧ (withdrawClaims f s).intake = s.intake ∧ (withdrawClaims f s).loader = s.loader ∧ (withdrawClaims f s).reporter = s.reporter ∧ (withdrawClaims f s).signals = s.signals ∧ (withdrawClaims f s).freeCount = s.freeCount ∧ (withdrawClaims f s).pending = s.pending := by
  unfold withdrawClaims
  refine ⟨?_, ?_, ?_, ?_, ?_, ?_, ?_, ?_, ?_, ?_, ?_, ?_⟩ <;> (try dsimp only) <;> (repeat' split) <;> simp

@[simp] theorem urgeFetch_keeps (s : State) :
    (urgeFetch s).tracker = s.tracker ∧ (urgeFetch s).sequencer = s.sequencer ∧ (urgeFetch s).generator = s.generator ∧ (urgeFetch s).servos = s.servos ∧ (urgeFetch s).links = s.links ∧ (urgeFetch s).sensors = s.sensors ∧ (urgeFetch s).intake = s.intake ∧ (urgeFetch s).loader = s.loader ∧ (urgeFetch s).reporter = s.reporter ∧ (urgeFetch s).signals = s.signals ∧ (urgeFetch s).freeCount = s.freeCount ∧ (urgeFetch s).pending = s.pending := by
  unfold urgeFetch
  refine ⟨?_, ?_, ?_, ?_, ?_, ?_, ?_, ?_, ?_, ?_, ?_, ?_⟩ <;> (try dsimp only) <;> (repeat' split) <;> simp

@[simp] theorem answerUpper_keeps (a : BusAnswer) (s : State) :
    (answerUpper a s).tracker = s.tracker ∧ (answerUpper a s).sequencer = s.sequencer ∧ (answerUpper a s).generator = s.generator ∧ (answerUpper a s).servos = s.servos ∧ (answerUpper a s).links = s.links ∧ (answerUpper a s).sensors = s.sensors ∧ (answerUpper a s).intake = s.intake ∧ (answerUpper a s).loader = s.loader ∧ (answerUpper a s).reporter = s.reporter ∧ (answerUpper a s).signals = s.signals ∧ (answerUpper a s).freeCount = s.freeCount ∧ (answerUpper a s).pending = s.pending := by
  unfold answerUpper
  refine ⟨?_, ?_, ?_, ?_, ?_, ?_, ?_, ?_, ?_, ?_, ?_, ?_⟩ <;> (try dsimp only) <;> (repeat' split) <;> simp

@[simp] theorem clearAnswers_keeps (s : State) :
    (clearAnswers s).tracker = s.tracker ∧ (clearAnswers s).sequencer = s.sequencer ∧ (clearAnswers s).generator = s.generator ∧ (clearAnswers s).servos = s.servos ∧ (clearAnswers s).links = s.links ∧ (clearAnswers s).sensors = s.sensors ∧ (clearAnswers s).intake = s.intake ∧ (clearAnswers s).loader = s.loader ∧ (clearAnswers s).reporter = s.reporter ∧ (clearAnswers s).signals = s.signals ∧ (clearAnswers s).freeCount = s.freeCount ∧ (clearAnswers s).pending = s.pending := by
  unfold clearAnswers
  refine ⟨?_, ?_, ?_, ?_, ?_, ?_, ?_, ?_, ?_, ?_, ?_, ?_⟩ <;> (try dsimp only) <;> (repeat' split) <;> simp

@[simp] theorem retryHeld_keeps (s : State) :
    (retryHeld s).tracker = s.tracker ∧ (retryHeld s).sequencer = s.sequencer ∧ (retryHeld s).generator = s.generator ∧ (retryHeld s).servos = s.servos ∧ (retryHeld s).links = s.links ∧ (retryHeld s).sensors = s.sensors ∧ (retryHeld s).intake = s.intake ∧ (retryHeld s).loader = s.loader ∧ (retryHeld s).reporter = s.reporter ∧ (retryHeld s).signals = s.signals ∧ (retryHeld s).freeCount = s.freeCount ∧ (retryHeld s).pending = s.pending := by
  unfold retryHeld
  refine ⟨?_, ?_, ?_, ?_, ?_, ?_, ?_, ?_, ?_, ?_, ?_, ?_⟩ <;> (try dsimp only) <;> (repeat' split) <;> simp

@[simp] theorem passClaim_keeps (t : BusTxn) (s : State) :
    (passClaim t s).tracker = s.tracker ∧ (passClaim t s).sequencer = s.sequencer ∧ (passClaim t s).generator = s.generator ∧ (passClaim t s).servos = s.servos ∧ (passClaim t s).links = s.links ∧ (passClaim t s).sensors = s.sensors ∧ (passClaim t s).intake = s.intake ∧ (passClaim t s).loader = s.loader ∧ (passClaim t s).reporter = s.reporter ∧ (passClaim t s).signals = s.signals ∧ (passClaim t s).freeCount = s.freeCount ∧ (passClaim t s).pending = s.pending := by
  unfold passClaim
  refine ⟨?_, ?_, ?_, ?_, ?_, ?_, ?_, ?_, ?_, ?_, ?_, ?_⟩ <;> (try dsimp only) <;> (repeat' split) <;> simp

@[simp] theorem releaseHeld_keeps (s : State) :
    (releaseHeld s).tracker = s.tracker ∧ (releaseHeld s).sequencer = s.sequencer ∧ (releaseHeld s).generator = s.generator ∧ (releaseHeld s).servos = s.servos ∧ (releaseHeld s).links = s.links ∧ (releaseHeld s).sensors = s.sensors ∧ (releaseHeld s).intake = s.intake ∧ (releaseHeld s).loader = s.loader ∧ (releaseHeld s).reporter = s.reporter ∧ (releaseHeld s).signals = s.signals ∧ (releaseHeld s).freeCount = s.freeCount ∧ (releaseHeld s).pending = s.pending := by
  unfold releaseHeld
  refine ⟨?_, ?_, ?_, ?_, ?_, ?_, ?_, ?_, ?_, ?_, ?_, ?_⟩ <;> (try dsimp only) <;> (repeat' split) <;> simp

@[simp] theorem grant_keeps (t : Turn) (s : State) :
    (grant t s).tracker = s.tracker ∧ (grant t s).sequencer = s.sequencer ∧ (grant t s).generator = s.generator ∧ (grant t s).servos = s.servos ∧ (grant t s).links = s.links ∧ (grant t s).sensors = s.sensors ∧ (grant t s).intake = s.intake ∧ (grant t s).loader = s.loader ∧ (grant t s).reporter = s.reporter ∧ (grant t s).signals = s.signals ∧ (grant t s).freeCount = s.freeCount ∧ (grant t s).pending = s.pending := by
  unfold grant
  refine ⟨?_, ?_, ?_, ?_, ?_, ?_, ?_, ?_, ?_, ?_, ?_, ?_⟩ <;> (try dsimp only) <;> (repeat' split) <;> simp

@[simp] theorem arbitrate_keeps (s : State) :
    (arbitrate s).tracker = s.tracker ∧ (arbitrate s).sequencer = s.sequencer ∧ (arbitrate s).generator = s.generator ∧ (arbitrate s).servos = s.servos ∧ (arbitrate s).links = s.links ∧ (arbitrate s).sensors = s.sensors ∧ (arbitrate s).intake = s.intake ∧ (arbitrate s).loader = s.loader ∧ (arbitrate s).reporter = s.reporter ∧ (arbitrate s).signals = s.signals ∧ (arbitrate s).freeCount = s.freeCount ∧ (arbitrate s).pending = s.pending := by
  unfold arbitrate
  refine ⟨?_, ?_, ?_, ?_, ?_, ?_, ?_, ?_, ?_, ?_, ?_, ?_⟩ <;> (try dsimp only) <;> (repeat' split) <;> simp

@[simp] theorem freePort_keeps (s : State) :
    (freePort s).tracker = s.tracker ∧ (freePort s).sequencer = s.sequencer ∧ (freePort s).generator = s.generator ∧ (freePort s).servos = s.servos ∧ (freePort s).links = s.links ∧ (freePort s).sensors = s.sensors ∧ (freePort s).intake = s.intake ∧ (freePort s).loader = s.loader ∧ (freePort s).reporter = s.reporter ∧ (freePort s).signals = s.signals ∧ (freePort s).freeCount = s.freeCount ∧ (freePort s).pending = s.pending := by
  unfold freePort
  refine ⟨?_, ?_, ?_, ?_, ?_, ?_, ?_, ?_, ?_, ?_, ?_, ?_⟩ <;> (try dsimp only) <;> (repeat' split) <;> simp

@[simp] theorem setV_keeps (v : Int) (s : State) :
    (setV v s).tracker = s.tracker ∧ (setV v s).sequencer = s.sequencer ∧ (setV v s).servos = s.servos ∧ (setV v s).links = s.links ∧ (setV v s).sensors = s.sensors ∧ (setV v s).intake = s.intake ∧ (setV v s).path = s.path ∧ (setV v s).loader = s.loader ∧ (setV v s).signals = s.signals ∧ (setV v s).freeCount = s.freeCount ∧ (setV v s).pending = s.pending := by
  unfold setV
  refine ⟨?_, ?_, ?_, ?_, ?_, ?_, ?_, ?_, ?_, ?_, ?_⟩ <;> (try dsimp only) <;> (repeat' split) <;> simp

@[simp] theorem setGenDir_keeps (d : Option Direction) (s : State) :
    (setGenDir d s).tracker = s.tracker ∧ (setGenDir d s).sequencer = s.sequencer ∧ (setGenDir d s).links = s.links ∧ (setGenDir d s).sensors = s.sensors ∧ (setGenDir d s).intake = s.intake ∧ (setGenDir d s).path = s.path ∧ (setGenDir d s).loader = s.loader ∧ (setGenDir d s).reporter = s.reporter ∧ (setGenDir d s).signals = s.signals ∧ (setGenDir d s).freeCount = s.freeCount ∧ (setGenDir d s).pending = s.pending := by
  unfold setGenDir
  refine ⟨?_, ?_, ?_, ?_, ?_, ?_, ?_, ?_, ?_, ?_, ?_⟩ <;> (try dsimp only) <;> (repeat' split) <;> simp

@[simp] theorem advanceP_keeps (s : State) :
    (advanceP s).tracker = s.tracker ∧ (advanceP s).sequencer = s.sequencer ∧ (advanceP s).servos = s.servos ∧ (advanceP s).links = s.links ∧ (advanceP s).sensors = s.sensors ∧ (advanceP s).intake = s.intake ∧ (advanceP s).path = s.path ∧ (advanceP s).loader = s.loader ∧ (advanceP s).reporter = s.reporter ∧ (advanceP s).signals = s.signals ∧ (advanceP s).freeCount = s.freeCount ∧ (advanceP s).pending = s.pending := by
  unfold advanceP
  refine ⟨?_, ?_, ?_, ?_, ?_, ?_, ?_, ?_, ?_, ?_, ?_, ?_⟩ <;> (try dsimp only) <;> (repeat' split) <;> simp

@[simp] theorem claimFetch_keeps (offset : Nat) (head : Option Chain) (urgent : Bool) (s : State) :
    (claimFetch offset head urgent s).tracker = s.tracker ∧ (claimFetch offset head urgent s).sequencer = s.sequencer ∧ (claimFetch offset head urgent s).generator = s.generator ∧ (claimFetch offset head urgent s).servos = s.servos ∧ (claimFetch offset head urgent s).links = s.links ∧ (claimFetch offset head urgent s).sensors = s.sensors ∧ (claimFetch offset head urgent s).intake = s.intake ∧ (claimFetch offset head urgent s).loader = s.loader ∧ (claimFetch offset head urgent s).reporter = s.reporter ∧ (claimFetch offset head urgent s).signals = s.signals ∧ (claimFetch offset head urgent s).freeCount = s.freeCount ∧ (claimFetch offset head urgent s).pending = s.pending := by
  unfold claimFetch
  refine ⟨?_, ?_, ?_, ?_, ?_, ?_, ?_, ?_, ?_, ?_, ?_, ?_⟩ <;> (try dsimp only) <;> (repeat' split) <;> simp

@[simp] theorem claimHead_keeps (c : Chain) (urgent : Bool) (s : State) :
    (claimHead c urgent s).tracker = s.tracker ∧ (claimHead c urgent s).sequencer = s.sequencer ∧ (claimHead c urgent s).generator = s.generator ∧ (claimHead c urgent s).servos = s.servos ∧ (claimHead c urgent s).links = s.links ∧ (claimHead c urgent s).sensors = s.sensors ∧ (claimHead c urgent s).intake = s.intake ∧ (claimHead c urgent s).loader = s.loader ∧ (claimHead c urgent s).reporter = s.reporter ∧ (claimHead c urgent s).signals = s.signals ∧ (claimHead c urgent s).freeCount = s.freeCount ∧ (claimHead c urgent s).pending = s.pending := by
  unfold claimHead
  refine ⟨?_, ?_, ?_, ?_, ?_, ?_, ?_, ?_, ?_, ?_, ?_, ?_⟩ <;> (try dsimp only) <;> (repeat' split) <;> simp

@[simp] theorem dropChain_keeps (s : State) :
    (dropChain s).tracker = s.tracker ∧ (dropChain s).sequencer = s.sequencer ∧ (dropChain s).servos = s.servos ∧ (dropChain s).links = s.links ∧ (dropChain s).sensors = s.sensors ∧ (dropChain s).intake = s.intake ∧ (dropChain s).loader = s.loader ∧ (dropChain s).reporter = s.reporter ∧ (dropChain s).signals = s.signals ∧ (dropChain s).freeCount = s.freeCount ∧ (dropChain s).pending = s.pending := by
  unfold dropChain
  refine ⟨?_, ?_, ?_, ?_, ?_, ?_, ?_, ?_, ?_, ?_, ?_⟩ <;> (try dsimp only) <;> (repeat' split) <;> simp

@[simp] theorem refreshUrgency_keeps (s : State) :
    (refreshUrgency s).tracker = s.tracker ∧ (refreshUrgency s).sequencer = s.sequencer ∧ (refreshUrgency s).generator = s.generator ∧ (refreshUrgency s).servos = s.servos ∧ (refreshUrgency s).links = s.links ∧ (refreshUrgency s).sensors = s.sensors ∧ (refreshUrgency s).intake = s.intake ∧ (refreshUrgency s).loader = s.loader ∧ (refreshUrgency s).reporter = s.reporter ∧ (refreshUrgency s).signals = s.signals ∧ (refreshUrgency s).freeCount = s.freeCount ∧ (refreshUrgency s).pending = s.pending := by
  unfold refreshUrgency
  refine ⟨?_, ?_, ?_, ?_, ?_, ?_, ?_, ?_, ?_, ?_, ?_, ?_⟩ <;> (try dsimp only) <;> (repeat' split) <;> simp

@[simp] theorem beginSegment_keeps (w : Segment) (s : State) :
    (beginSegment w s).tracker = s.tracker ∧ (beginSegment w s).sequencer = s.sequencer ∧ (beginSegment w s).servos = s.servos ∧ (beginSegment w s).links = s.links ∧ (beginSegment w s).sensors = s.sensors ∧ (beginSegment w s).intake = s.intake ∧ (beginSegment w s).loader = s.loader ∧ (beginSegment w s).reporter = s.reporter ∧ (beginSegment w s).signals = s.signals ∧ (beginSegment w s).freeCount = s.freeCount ∧ (beginSegment w s).pending = s.pending := by
  unfold beginSegment
  refine ⟨?_, ?_, ?_, ?_, ?_, ?_, ?_, ?_, ?_, ?_, ?_⟩ <;> (try dsimp only) <;> (repeat' split) <;> simp

@[simp] theorem beginStart_keeps (q : StartRequest) (s : State) :
    (beginStart q s).tracker = s.tracker ∧ (beginStart q s).sequencer = s.sequencer ∧ (beginStart q s).links = s.links ∧ (beginStart q s).sensors = s.sensors ∧ (beginStart q s).intake = s.intake ∧ (beginStart q s).loader = s.loader ∧ (beginStart q s).reporter = s.reporter ∧ (beginStart q s).signals = s.signals ∧ (beginStart q s).freeCount = s.freeCount ∧ (beginStart q s).pending = s.pending := by
  unfold beginStart
  refine ⟨?_, ?_, ?_, ?_, ?_, ?_, ?_, ?_, ?_, ?_⟩ <;> (try dsimp only) <;> (repeat' split) <;> simp

@[simp] theorem takeWaiting_keeps (s : State) :
    (takeWaiting s).tracker = s.tracker ∧ (takeWaiting s).sequencer = s.sequencer ∧ (takeWaiting s).links = s.links ∧ (takeWaiting s).sensors = s.sensors ∧ (takeWaiting s).intake = s.intake ∧ (takeWaiting s).loader = s.loader ∧ (takeWaiting s).reporter = s.reporter ∧ (takeWaiting s).signals = s.signals ∧ (takeWaiting s).freeCount = s.freeCount ∧ (takeWaiting s).pending = s.pending := by
  unfold takeWaiting
  refine ⟨?_, ?_, ?_, ?_, ?_, ?_, ?_, ?_, ?_, ?_⟩ <;> (try dsimp only) <;> (repeat' split) <;> simp

@[simp] theorem endStop_keeps (s : State) :
    (endStop s).tracker = s.tracker ∧ (endStop s).sequencer = s.sequencer ∧ (endStop s).links = s.links ∧ (endStop s).sensors = s.sensors ∧ (endStop s).intake = s.intake ∧ (endStop s).loader = s.loader ∧ (endStop s).freeCount = s.freeCount ∧ (endStop s).pending = s.pending := by
  unfold endStop
  refine ⟨?_, ?_, ?_, ?_, ?_, ?_, ?_, ?_⟩ <;> (try dsimp only) <;> (repeat' split) <;> simp

@[simp] theorem enterCruise_keeps (companion : Chain) (s : State) :
    (enterCruise companion s).tracker = s.tracker ∧ (enterCruise companion s).sequencer = s.sequencer ∧ (enterCruise companion s).servos = s.servos ∧ (enterCruise companion s).links = s.links ∧ (enterCruise companion s).sensors = s.sensors ∧ (enterCruise companion s).intake = s.intake ∧ (enterCruise companion s).loader = s.loader ∧ (enterCruise companion s).reporter = s.reporter ∧ (enterCruise companion s).signals = s.signals ∧ (enterCruise companion s).freeCount = s.freeCount ∧ (enterCruise companion s).pending = s.pending := by
  unfold enterCruise
  refine ⟨?_, ?_, ?_, ?_, ?_, ?_, ?_, ?_, ?_, ?_, ?_⟩ <;> (try dsimp only) <;> (repeat' split) <;> simp

@[simp] theorem endChain_keeps (r : RunningChain) (s : State) :
    (endChain r s).tracker = s.tracker ∧ (endChain r s).links = s.links ∧ (endChain r s).intake = s.intake ∧ (endChain r s).loader = s.loader ∧ (endChain r s).freeCount = s.freeCount ∧ (endChain r s).pending = s.pending := by
  unfold endChain
  refine ⟨?_, ?_, ?_, ?_, ?_, ?_⟩ <;> (try dsimp only) <;> (repeat' split) <;> simp

@[simp] theorem abandonChain_keeps (s : State) :
    (abandonChain s).tracker = s.tracker ∧ (abandonChain s).sequencer = s.sequencer ∧ (abandonChain s).links = s.links ∧ (abandonChain s).sensors = s.sensors ∧ (abandonChain s).intake = s.intake ∧ (abandonChain s).loader = s.loader ∧ (abandonChain s).freeCount = s.freeCount ∧ (abandonChain s).pending = s.pending := by
  unfold abandonChain
  refine ⟨?_, ?_, ?_, ?_, ?_, ?_, ?_, ?_⟩ <;> (try dsimp only) <;> (repeat' split) <;> simp

@[simp] theorem startRequest_keeps (c : Chain) (d : Direction) (s : State) :
    (startRequest c d s).tracker = s.tracker ∧ (startRequest c d s).sequencer = s.sequencer ∧ (startRequest c d s).links = s.links ∧ (startRequest c d s).sensors = s.sensors ∧ (startRequest c d s).intake = s.intake ∧ (startRequest c d s).loader = s.loader ∧ (startRequest c d s).reporter = s.reporter ∧ (startRequest c d s).signals = s.signals ∧ (startRequest c d s).freeCount = s.freeCount ∧ (startRequest c d s).pending = s.pending := by
  unfold startRequest
  refine ⟨?_, ?_, ?_, ?_, ?_, ?_, ?_, ?_, ?_, ?_⟩ <;> (try dsimp only) <;> (repeat' split) <;> simp

@[simp] theorem beginStop_keeps (c : Chain) (toCreep : Bool) (s : State) :
    (beginStop c toCreep s).tracker = s.tracker ∧ (beginStop c toCreep s).sequencer = s.sequencer ∧ (beginStop c toCreep s).servos = s.servos ∧ (beginStop c toCreep s).links = s.links ∧ (beginStop c toCreep s).sensors = s.sensors ∧ (beginStop c toCreep s).intake = s.intake ∧ (beginStop c toCreep s).path = s.path ∧ (beginStop c toCreep s).loader = s.loader ∧ (beginStop c toCreep s).reporter = s.reporter ∧ (beginStop c toCreep s).signals = s.signals ∧ (beginStop c toCreep s).freeCount = s.freeCount ∧ (beginStop c toCreep s).pending = s.pending := by
  unfold beginStop
  refine ⟨?_, ?_, ?_, ?_, ?_, ?_, ?_, ?_, ?_, ?_, ?_, ?_⟩ <;> (try dsimp only) <;> (repeat' split) <;> simp

@[simp] theorem stopFromCruise_keeps (c : Chain) (toCreep : Bool) (s : State) :
    (stopFromCruise c toCreep s).tracker = s.tracker ∧ (stopFromCruise c toCreep s).sequencer = s.sequencer ∧ (stopFromCruise c toCreep s).servos = s.servos ∧ (stopFromCruise c toCreep s).links = s.links ∧ (stopFromCruise c toCreep s).sensors = s.sensors ∧ (stopFromCruise c toCreep s).intake = s.intake ∧ (stopFromCruise c toCreep s).loader = s.loader ∧ (stopFromCruise c toCreep s).reporter = s.reporter ∧ (stopFromCruise c toCreep s).signals = s.signals ∧ (stopFromCruise c toCreep s).freeCount = s.freeCount ∧ (stopFromCruise c toCreep s).pending = s.pending := by
  unfold stopFromCruise
  refine ⟨?_, ?_, ?_, ?_, ?_, ?_, ?_, ?_, ?_, ?_, ?_⟩ <;> (try dsimp only) <;> (repeat' split) <;> simp

@[simp] theorem stopFromAccel_keeps (c : Chain) (toCreep : Bool) (s : State) :
    (stopFromAccel c toCreep s).tracker = s.tracker ∧ (stopFromAccel c toCreep s).sequencer = s.sequencer ∧ (stopFromAccel c toCreep s).servos = s.servos ∧ (stopFromAccel c toCreep s).links = s.links ∧ (stopFromAccel c toCreep s).sensors = s.sensors ∧ (stopFromAccel c toCreep s).intake = s.intake ∧ (stopFromAccel c toCreep s).loader = s.loader ∧ (stopFromAccel c toCreep s).reporter = s.reporter ∧ (stopFromAccel c toCreep s).signals = s.signals ∧ (stopFromAccel c toCreep s).freeCount = s.freeCount ∧ (stopFromAccel c toCreep s).pending = s.pending := by
  unfold stopFromAccel
  refine ⟨?_, ?_, ?_, ?_, ?_, ?_, ?_, ?_, ?_, ?_, ?_⟩ <;> (try dsimp only) <;> (repeat' split) <;> simp

@[simp] theorem stopRequest_keeps (c : Chain) (s : State) :
    (stopRequest c s).tracker = s.tracker ∧ (stopRequest c s).sequencer = s.sequencer ∧ (stopRequest c s).links = s.links ∧ (stopRequest c s).sensors = s.sensors ∧ (stopRequest c s).intake = s.intake ∧ (stopRequest c s).loader = s.loader ∧ (stopRequest c s).reporter = s.reporter ∧ (stopRequest c s).freeCount = s.freeCount ∧ (stopRequest c s).pending = s.pending := by
  unfold stopRequest
  refine ⟨?_, ?_, ?_, ?_, ?_, ?_, ?_, ?_, ?_⟩ <;> (try dsimp only) <;> (repeat' split) <;> simp

@[simp] theorem trimToCreep_keeps (s : State) :
    (trimToCreep s).tracker = s.tracker ∧ (trimToCreep s).sequencer = s.sequencer ∧ (trimToCreep s).servos = s.servos ∧ (trimToCreep s).links = s.links ∧ (trimToCreep s).sensors = s.sensors ∧ (trimToCreep s).intake = s.intake ∧ (trimToCreep s).loader = s.loader ∧ (trimToCreep s).reporter = s.reporter ∧ (trimToCreep s).signals = s.signals ∧ (trimToCreep s).freeCount = s.freeCount ∧ (trimToCreep s).pending = s.pending := by
  unfold trimToCreep
  refine ⟨?_, ?_, ?_, ?_, ?_, ?_, ?_, ?_, ?_, ?_, ?_⟩ <;> (try dsimp only) <;> (repeat' split) <;> simp

@[simp] theorem decelToCreep_keeps (s : State) :
    (decelToCreep s).tracker = s.tracker ∧ (decelToCreep s).sequencer = s.sequencer ∧ (decelToCreep s).servos = s.servos ∧ (decelToCreep s).links = s.links ∧ (decelToCreep s).sensors = s.sensors ∧ (decelToCreep s).intake = s.intake ∧ (decelToCreep s).loader = s.loader ∧ (decelToCreep s).reporter = s.reporter ∧ (decelToCreep s).signals = s.signals ∧ (decelToCreep s).freeCount = s.freeCount ∧ (decelToCreep s).pending = s.pending := by
  unfold decelToCreep
  refine ⟨?_, ?_, ?_, ?_, ?_, ?_, ?_, ?_, ?_, ?_, ?_⟩ <;> (try dsimp only) <;> (repeat' split) <;> simp

@[simp] theorem dropMotion_keeps (s : State) :
    (dropMotion s).tracker = s.tracker ∧ (dropMotion s).sequencer = s.sequencer ∧ (dropMotion s).links = s.links ∧ (dropMotion s).sensors = s.sensors ∧ (dropMotion s).intake = s.intake ∧ (dropMotion s).loader = s.loader ∧ (dropMotion s).signals = s.signals ∧ (dropMotion s).freeCount = s.freeCount ∧ (dropMotion s).pending = s.pending := by
  unfold dropMotion
  refine ⟨?_, ?_, ?_, ?_, ?_, ?_, ?_, ?_, ?_⟩ <;> (try dsimp only) <;> (repeat' split) <;> simp

@[simp] theorem beginTrim_keeps (r : RunningChain) (s : State) :
    (beginTrim r s).tracker = s.tracker ∧ (beginTrim r s).sequencer = s.sequencer ∧ (beginTrim r s).servos = s.servos ∧ (beginTrim r s).links = s.links ∧ (beginTrim r s).sensors = s.sensors ∧ (beginTrim r s).intake = s.intake ∧ (beginTrim r s).loader = s.loader ∧ (beginTrim r s).signals = s.signals ∧ (beginTrim r s).freeCount = s.freeCount ∧ (beginTrim r s).pending = s.pending := by
  unfold beginTrim
  refine ⟨?_, ?_, ?_, ?_, ?_, ?_, ?_, ?_, ?_, ?_⟩ <;> (try dsimp only) <;> (repeat' split) <;> simp

@[simp] theorem trimSample_keeps (r : RunningChain) (s : State) :
    (trimSample r s).tracker = s.tracker ∧ (trimSample r s).links = s.links ∧ (trimSample r s).intake = s.intake ∧ (trimSample r s).loader = s.loader ∧ (trimSample r s).freeCount = s.freeCount ∧ (trimSample r s).pending = s.pending := by
  unfold trimSample
  refine ⟨?_, ?_, ?_, ?_, ?_, ?_⟩ <;> (try dsimp only) <;> (repeat' split) <;> simp

@[simp] theorem segmentOver_keeps (r : RunningChain) (w : Segment) (s : State) :
    (segmentOver r w s).tracker = s.tracker ∧ (segmentOver r w s).links = s.links ∧ (segmentOver r w s).intake = s.intake ∧ (segmentOver r w s).loader = s.loader ∧ (segmentOver r w s).freeCount = s.freeCount ∧ (segmentOver r w s).pending = s.pending := by
  unfold segmentOver
  refine ⟨?_, ?_, ?_, ?_, ?_, ?_⟩ <;> (try dsimp only) <;> (repeat' split) <;> simp

@[simp] theorem segmentSample_keeps (r : RunningChain) (w : Segment) (s : State) :
    (segmentSample r w s).tracker = s.tracker ∧ (segmentSample r w s).links = s.links ∧ (segmentSample r w s).intake = s.intake ∧ (segmentSample r w s).loader = s.loader ∧ (segmentSample r w s).freeCount = s.freeCount ∧ (segmentSample r w s).pending = s.pending := by
  unfold segmentSample
  refine ⟨?_, ?_, ?_, ?_, ?_, ?_⟩ <;> (try dsimp only) <;> (repeat' split) <;> simp

@[simp] theorem lateSample_keeps (r : RunningChain) (s : State) :
    (lateSample r s).tracker = s.tracker ∧ (lateSample r s).sequencer = s.sequencer ∧ (lateSample r s).links = s.links ∧ (lateSample r s).sensors = s.sensors ∧ (lateSample r s).intake = s.intake ∧ (lateSample r s).loader = s.loader ∧ (lateSample r s).freeCount = s.freeCount ∧ (lateSample r s).pending = s.pending := by
  unfold lateSample
  refine ⟨?_, ?_, ?_, ?_, ?_, ?_, ?_, ?_⟩ <;> (try dsimp only) <;> (repeat' split) <;> simp

@[simp] theorem stepV_keeps (s : State) :
    (stepV s).tracker = s.tracker ∧ (stepV s).links = s.links ∧ (stepV s).intake = s.intake ∧ (stepV s).loader = s.loader ∧ (stepV s).freeCount = s.freeCount ∧ (stepV s).pending = s.pending := by
  unfold stepV
  refine ⟨?_, ?_, ?_, ?_, ?_, ?_⟩ <;> (try dsimp only) <;> (repeat' split) <;> simp

@[simp] theorem followTape_keeps (s : State) :
    (followTape s).tracker = s.tracker ∧ (followTape s).sequencer = s.sequencer ∧ (followTape s).servos = s.servos ∧ (followTape s).links = s.links ∧ (followTape s).sensors = s.sensors ∧ (followTape s).intake = s.intake ∧ (followTape s).path = s.path ∧ (followTape s).loader = s.loader ∧ (followTape s).reporter = s.reporter ∧ (followTape s).signals = s.signals ∧ (followTape s).freeCount = s.freeCount ∧ (followTape s).pending = s.pending := by
  unfold followTape
  refine ⟨?_, ?_, ?_, ?_, ?_, ?_, ?_, ?_, ?_, ?_, ?_, ?_⟩ <;> (try dsimp only) <;> (repeat' split) <;> simp

@[simp] theorem generatorSample_keeps (s : State) :
    (generatorSample s).tracker = s.tracker ∧ (generatorSample s).links = s.links ∧ (generatorSample s).intake = s.intake ∧ (generatorSample s).loader = s.loader ∧ (generatorSample s).freeCount = s.freeCount ∧ (generatorSample s).pending = s.pending := by
  unfold generatorSample
  refine ⟨?_, ?_, ?_, ?_, ?_, ?_⟩ <;> (try dsimp only) <;> (repeat' split) <;> simp

@[simp] theorem fetchFailed_keeps (addr : Nat) (bad : Bool) (s : State) :
    (fetchFailed addr bad s).tracker = s.tracker ∧ (fetchFailed addr bad s).sequencer = s.sequencer ∧ (fetchFailed addr bad s).links = s.links ∧ (fetchFailed addr bad s).sensors = s.sensors ∧ (fetchFailed addr bad s).intake = s.intake ∧ (fetchFailed addr bad s).loader = s.loader ∧ (fetchFailed addr bad s).freeCount = s.freeCount ∧ (fetchFailed addr bad s).pending = s.pending := by
  unfold fetchFailed
  refine ⟨?_, ?_, ?_, ?_, ?_, ?_, ?_, ?_⟩ <;> (try dsimp only) <;> (repeat' split) <;> simp

@[simp] theorem segmentArrives_keeps (w : Segment) (head : Option Chain) (s : State) :
    (segmentArrives w head s).tracker = s.tracker ∧ (segmentArrives w head s).sequencer = s.sequencer ∧ (segmentArrives w head s).servos = s.servos ∧ (segmentArrives w head s).links = s.links ∧ (segmentArrives w head s).sensors = s.sensors ∧ (segmentArrives w head s).intake = s.intake ∧ (segmentArrives w head s).loader = s.loader ∧ (segmentArrives w head s).reporter = s.reporter ∧ (segmentArrives w head s).signals = s.signals ∧ (segmentArrives w head s).freeCount = s.freeCount ∧ (segmentArrives w head s).pending = s.pending := by
  unfold segmentArrives
  refine ⟨?_, ?_, ?_, ?_, ?_, ?_, ?_, ?_, ?_, ?_, ?_⟩ <;> (try dsimp only) <;> (repeat' split) <;> simp

@[simp] theorem fetchAnswered_keeps (addr : Nat) (head : Option Chain) (answer : OwnAnswer) (s : State) :
    (fetchAnswered addr head answer s).tracker = s.tracker ∧ (fetchAnswered addr head answer s).sequencer = s.sequencer ∧ (fetchAnswered addr head answer s).links = s.links ∧ (fetchAnswered addr head answer s).sensors = s.sensors ∧ (fetchAnswered addr head answer s).intake = s.intake ∧ (fetchAnswered addr head answer s).loader = s.loader ∧ (fetchAnswered addr head answer s).freeCount = s.freeCount ∧ (fetchAnswered addr head answer s).pending = s.pending := by
  unfold fetchAnswered
  refine ⟨?_, ?_, ?_, ?_, ?_, ?_, ?_, ?_⟩ <;> (try dsimp only) <;> (repeat' split) <;> simp

@[simp] theorem setResult_keeps (i : Fin 8) (f : OrderResult → OrderResult) (s : State) :
    (setResult i f s).tracker = s.tracker ∧ (setResult i f s).sequencer = s.sequencer ∧ (setResult i f s).generator = s.generator ∧ (setResult i f s).servos = s.servos ∧ (setResult i f s).links = s.links ∧ (setResult i f s).sensors = s.sensors ∧ (setResult i f s).path = s.path ∧ (setResult i f s).loader = s.loader ∧ (setResult i f s).signals = s.signals ∧ (setResult i f s).freeCount = s.freeCount ∧ (setResult i f s).pending = s.pending := by
  unfold setResult
  refine ⟨?_, ?_, ?_, ?_, ?_, ?_, ?_, ?_, ?_, ?_, ?_⟩ <;> (try dsimp only) <;> (repeat' split) <;> simp

@[simp] theorem finishResult_keeps (i : Fin 8) (o : Outcome) (rsn : Reason) (blocks : Nat) (s : State) :
    (finishResult i o rsn blocks s).tracker = s.tracker ∧ (finishResult i o rsn blocks s).sequencer = s.sequencer ∧ (finishResult i o rsn blocks s).generator = s.generator ∧ (finishResult i o rsn blocks s).servos = s.servos ∧ (finishResult i o rsn blocks s).links = s.links ∧ (finishResult i o rsn blocks s).sensors = s.sensors ∧ (finishResult i o rsn blocks s).path = s.path ∧ (finishResult i o rsn blocks s).loader = s.loader ∧ (finishResult i o rsn blocks s).signals = s.signals ∧ (finishResult i o rsn blocks s).freeCount = s.freeCount ∧ (finishResult i o rsn blocks s).pending = s.pending := by
  unfold finishResult
  refine ⟨?_, ?_, ?_, ?_, ?_, ?_, ?_, ?_, ?_, ?_, ?_⟩ <;> (try dsimp only) <;> (repeat' split) <;> simp

@[simp] theorem cancelResult_keeps (i : Fin 8) (rsn : Reason) (s : State) :
    (cancelResult i rsn s).tracker = s.tracker ∧ (cancelResult i rsn s).sequencer = s.sequencer ∧ (cancelResult i rsn s).generator = s.generator ∧ (cancelResult i rsn s).servos = s.servos ∧ (cancelResult i rsn s).links = s.links ∧ (cancelResult i rsn s).sensors = s.sensors ∧ (cancelResult i rsn s).path = s.path ∧ (cancelResult i rsn s).loader = s.loader ∧ (cancelResult i rsn s).signals = s.signals ∧ (cancelResult i rsn s).freeCount = s.freeCount ∧ (cancelResult i rsn s).pending = s.pending := by
  unfold cancelResult
  refine ⟨?_, ?_, ?_, ?_, ?_, ?_, ?_, ?_, ?_, ?_, ?_⟩ <;> (try dsimp only) <;> (repeat' split) <;> simp

@[simp] theorem setQueue_keeps (q : List (Fin 8)) (s : State) :
    (setQueue q s).tracker = s.tracker ∧ (setQueue q s).sequencer = s.sequencer ∧ (setQueue q s).generator = s.generator ∧ (setQueue q s).servos = s.servos ∧ (setQueue q s).links = s.links ∧ (setQueue q s).sensors = s.sensors ∧ (setQueue q s).path = s.path ∧ (setQueue q s).loader = s.loader ∧ (setQueue q s).signals = s.signals ∧ (setQueue q s).freeCount = s.freeCount ∧ (setQueue q s).pending = s.pending := by
  unfold setQueue
  refine ⟨?_, ?_, ?_, ?_, ?_, ?_, ?_, ?_, ?_, ?_, ?_⟩ <;> (try dsimp only) <;> (repeat' split) <;> simp

@[simp] theorem setSuspended_keeps (b : Bool) (s : State) :
    (setSuspended b s).tracker = s.tracker ∧ (setSuspended b s).sequencer = s.sequencer ∧ (setSuspended b s).generator = s.generator ∧ (setSuspended b s).servos = s.servos ∧ (setSuspended b s).links = s.links ∧ (setSuspended b s).sensors = s.sensors ∧ (setSuspended b s).path = s.path ∧ (setSuspended b s).loader = s.loader ∧ (setSuspended b s).signals = s.signals ∧ (setSuspended b s).freeCount = s.freeCount ∧ (setSuspended b s).pending = s.pending := by
  unfold setSuspended
  refine ⟨?_, ?_, ?_, ?_, ?_, ?_, ?_, ?_, ?_, ?_, ?_⟩ <;> (try dsimp only) <;> (repeat' split) <;> simp

@[simp] theorem setRunning_keeps (r : Option (Fin 8)) (s : State) :
    (setRunning r s).tracker = s.tracker ∧ (setRunning r s).sequencer = s.sequencer ∧ (setRunning r s).generator = s.generator ∧ (setRunning r s).servos = s.servos ∧ (setRunning r s).links = s.links ∧ (setRunning r s).sensors = s.sensors ∧ (setRunning r s).path = s.path ∧ (setRunning r s).loader = s.loader ∧ (setRunning r s).signals = s.signals ∧ (setRunning r s).freeCount = s.freeCount ∧ (setRunning r s).pending = s.pending := by
  unfold setRunning
  refine ⟨?_, ?_, ?_, ?_, ?_, ?_, ?_, ?_, ?_, ?_, ?_⟩ <;> (try dsimp only) <;> (repeat' split) <;> simp

@[simp] theorem reportEnd_keeps (o : Outcome) (rsn : Reason) (blocks : Nat) (s : State) :
    (reportEnd o rsn blocks s).tracker = s.tracker ∧ (reportEnd o rsn blocks s).sequencer = s.sequencer ∧ (reportEnd o rsn blocks s).generator = s.generator ∧ (reportEnd o rsn blocks s).servos = s.servos ∧ (reportEnd o rsn blocks s).links = s.links ∧ (reportEnd o rsn blocks s).sensors = s.sensors ∧ (reportEnd o rsn blocks s).path = s.path ∧ (reportEnd o rsn blocks s).loader = s.loader ∧ (reportEnd o rsn blocks s).signals = s.signals ∧ (reportEnd o rsn blocks s).freeCount = s.freeCount ∧ (reportEnd o rsn blocks s).pending = s.pending := by
  unfold reportEnd
  refine ⟨?_, ?_, ?_, ?_, ?_, ?_, ?_, ?_, ?_, ?_, ?_⟩ <;> (try dsimp only) <;> (repeat' split) <;> simp

@[simp] theorem cancelQueue_keeps (rsn : Reason) (s : State) :
    (cancelQueue rsn s).tracker = s.tracker ∧ (cancelQueue rsn s).sequencer = s.sequencer ∧ (cancelQueue rsn s).generator = s.generator ∧ (cancelQueue rsn s).servos = s.servos ∧ (cancelQueue rsn s).links = s.links ∧ (cancelQueue rsn s).sensors = s.sensors ∧ (cancelQueue rsn s).path = s.path ∧ (cancelQueue rsn s).loader = s.loader ∧ (cancelQueue rsn s).signals = s.signals ∧ (cancelQueue rsn s).freeCount = s.freeCount ∧ (cancelQueue rsn s).pending = s.pending := by
  unfold cancelQueue
  refine ⟨?_, ?_, ?_, ?_, ?_, ?_, ?_, ?_, ?_, ?_, ?_⟩ <;> (try dsimp only) <;> (try split) <;> simp [foldl_keeps]

@[simp] theorem takeFree_keeps (s : State) :
    (takeFree s).2.tracker = s.tracker ∧ (takeFree s).2.sequencer = s.sequencer ∧ (takeFree s).2.generator = s.generator ∧ (takeFree s).2.servos = s.servos ∧ (takeFree s).2.links = s.links ∧ (takeFree s).2.sensors = s.sensors ∧ (takeFree s).2.intake = s.intake ∧ (takeFree s).2.path = s.path ∧ (takeFree s).2.loader = s.loader ∧ (takeFree s).2.reporter = s.reporter ∧ (takeFree s).2.signals = s.signals ∧ (takeFree s).2.pending = s.pending :=
  ⟨rfl, rfl, rfl, rfl, rfl, rfl, rfl, rfl, rfl, rfl, rfl, rfl⟩

@[simp] theorem handOver_keeps (i : Fin 8) (rest : List (Fin 8)) (s : State) :
    (handOver i rest s).tracker = s.tracker ∧ (handOver i rest s).sequencer = s.sequencer ∧ (handOver i rest s).generator = s.generator ∧ (handOver i rest s).servos = s.servos ∧ (handOver i rest s).links = s.links ∧ (handOver i rest s).sensors = s.sensors ∧ (handOver i rest s).path = s.path ∧ (handOver i rest s).loader = s.loader ∧ (handOver i rest s).signals = s.signals ∧ (handOver i rest s).pending = s.pending := by
  unfold handOver
  refine ⟨?_, ?_, ?_, ?_, ?_, ?_, ?_, ?_, ?_, ?_⟩ <;> (try dsimp only) <;> (repeat' split) <;> simp

@[simp] theorem clearCaptures_keeps (s : State) :
    (clearCaptures s).tracker = s.tracker ∧ (clearCaptures s).sequencer = s.sequencer ∧ (clearCaptures s).generator = s.generator ∧ (clearCaptures s).links = s.links ∧ (clearCaptures s).sensors = s.sensors ∧ (clearCaptures s).intake = s.intake ∧ (clearCaptures s).path = s.path ∧ (clearCaptures s).loader = s.loader ∧ (clearCaptures s).reporter = s.reporter ∧ (clearCaptures s).signals = s.signals ∧ (clearCaptures s).freeCount = s.freeCount ∧ (clearCaptures s).pending = s.pending := by
  unfold clearCaptures
  refine ⟨?_, ?_, ?_, ?_, ?_, ?_, ?_, ?_, ?_, ?_, ?_, ?_⟩ <;> (try dsimp only) <;> (repeat' split) <;> simp

@[simp] theorem setDriveMode_keeps (d : DriveMode) (s : State) :
    (setDriveMode d s).tracker = s.tracker ∧ (setDriveMode d s).sequencer = s.sequencer ∧ (setDriveMode d s).generator = s.generator ∧ (setDriveMode d s).links = s.links ∧ (setDriveMode d s).sensors = s.sensors ∧ (setDriveMode d s).intake = s.intake ∧ (setDriveMode d s).path = s.path ∧ (setDriveMode d s).loader = s.loader ∧ (setDriveMode d s).signals = s.signals ∧ (setDriveMode d s).freeCount = s.freeCount ∧ (setDriveMode d s).pending = s.pending := by
  unfold setDriveMode
  refine ⟨?_, ?_, ?_, ?_, ?_, ?_, ?_, ?_, ?_, ?_, ?_⟩ <;> (try dsimp only) <;> (repeat' split) <;> simp

@[simp] theorem clearWindowCounts_keeps (s : State) :
    (clearWindowCounts s).tracker = s.tracker ∧ (clearWindowCounts s).sequencer = s.sequencer ∧ (clearWindowCounts s).generator = s.generator ∧ (clearWindowCounts s).servos = s.servos ∧ (clearWindowCounts s).links = s.links ∧ (clearWindowCounts s).intake = s.intake ∧ (clearWindowCounts s).path = s.path ∧ (clearWindowCounts s).loader = s.loader ∧ (clearWindowCounts s).reporter = s.reporter ∧ (clearWindowCounts s).signals = s.signals ∧ (clearWindowCounts s).freeCount = s.freeCount ∧ (clearWindowCounts s).pending = s.pending := by
  unfold clearWindowCounts
  refine ⟨?_, ?_, ?_, ?_, ?_, ?_, ?_, ?_, ?_, ?_, ?_, ?_⟩ <;> (try dsimp only) <;> (repeat' split) <;> simp

@[simp] theorem armWindow_keeps (b : Bool) (s : State) :
    (armWindow b s).tracker = s.tracker ∧ (armWindow b s).sequencer = s.sequencer ∧ (armWindow b s).generator = s.generator ∧ (armWindow b s).servos = s.servos ∧ (armWindow b s).links = s.links ∧ (armWindow b s).intake = s.intake ∧ (armWindow b s).path = s.path ∧ (armWindow b s).loader = s.loader ∧ (armWindow b s).signals = s.signals ∧ (armWindow b s).freeCount = s.freeCount ∧ (armWindow b s).pending = s.pending := by
  unfold armWindow
  refine ⟨?_, ?_, ?_, ?_, ?_, ?_, ?_, ?_, ?_, ?_, ?_⟩ <;> (try dsimp only) <;> (repeat' split) <;> simp

@[simp] theorem followRefresh_keeps (t : Transport) (s : State) :
    (followRefresh t s).tracker = s.tracker ∧ (followRefresh t s).sequencer = s.sequencer ∧ (followRefresh t s).generator = s.generator ∧ (followRefresh t s).servos = s.servos ∧ (followRefresh t s).links = s.links ∧ (followRefresh t s).sensors = s.sensors ∧ (followRefresh t s).intake = s.intake ∧ (followRefresh t s).path = s.path ∧ (followRefresh t s).loader = s.loader ∧ (followRefresh t s).signals = s.signals ∧ (followRefresh t s).freeCount = s.freeCount ∧ (followRefresh t s).pending = s.pending := by
  unfold followRefresh
  refine ⟨?_, ?_, ?_, ?_, ?_, ?_, ?_, ?_, ?_, ?_, ?_, ?_⟩ <;> (try dsimp only) <;> (repeat' split) <;> simp

@[simp] theorem endLossWatch_keeps (left : Bool) (s : State) :
    (endLossWatch left s).tracker = s.tracker ∧ (endLossWatch left s).sequencer = s.sequencer ∧ (endLossWatch left s).generator = s.generator ∧ (endLossWatch left s).servos = s.servos ∧ (endLossWatch left s).links = s.links ∧ (endLossWatch left s).intake = s.intake ∧ (endLossWatch left s).path = s.path ∧ (endLossWatch left s).loader = s.loader ∧ (endLossWatch left s).reporter = s.reporter ∧ (endLossWatch left s).signals = s.signals ∧ (endLossWatch left s).freeCount = s.freeCount ∧ (endLossWatch left s).pending = s.pending := by
  unfold endLossWatch
  refine ⟨?_, ?_, ?_, ?_, ?_, ?_, ?_, ?_, ?_, ?_, ?_, ?_⟩ <;> (try dsimp only) <;> (repeat' split) <;> simp

@[simp] theorem setTransport_keeps (t : Transport) (p : Option Phase) (s : State) :
    (setTransport t p s).tracker = s.tracker ∧ (setTransport t p s).generator = s.generator ∧ (setTransport t p s).links = s.links ∧ (setTransport t p s).intake = s.intake ∧ (setTransport t p s).path = s.path ∧ (setTransport t p s).loader = s.loader ∧ (setTransport t p s).signals = s.signals ∧ (setTransport t p s).freeCount = s.freeCount ∧ (setTransport t p s).pending = s.pending := by
  unfold setTransport
  refine ⟨?_, ?_, ?_, ?_, ?_, ?_, ?_, ?_, ?_⟩ <;> (try dsimp only) <;> (repeat' split) <;> simp

@[simp] theorem startPhaseTimer_keeps (ms : Nat) (s : State) :
    (startPhaseTimer ms s).tracker = s.tracker ∧ (startPhaseTimer ms s).generator = s.generator ∧ (startPhaseTimer ms s).servos = s.servos ∧ (startPhaseTimer ms s).links = s.links ∧ (startPhaseTimer ms s).sensors = s.sensors ∧ (startPhaseTimer ms s).intake = s.intake ∧ (startPhaseTimer ms s).path = s.path ∧ (startPhaseTimer ms s).loader = s.loader ∧ (startPhaseTimer ms s).reporter = s.reporter ∧ (startPhaseTimer ms s).signals = s.signals ∧ (startPhaseTimer ms s).freeCount = s.freeCount ∧ (startPhaseTimer ms s).pending = s.pending := by
  unfold startPhaseTimer
  refine ⟨?_, ?_, ?_, ?_, ?_, ?_, ?_, ?_, ?_, ?_, ?_, ?_⟩ <;> (try dsimp only) <;> (repeat' split) <;> simp

@[simp] theorem rebase_keeps (s : State) :
    (rebase s).tracker = s.tracker ∧ (rebase s).links = s.links ∧ (rebase s).sensors = s.sensors ∧ (rebase s).intake = s.intake ∧ (rebase s).path = s.path ∧ (rebase s).loader = s.loader ∧ (rebase s).signals = s.signals ∧ (rebase s).freeCount = s.freeCount ∧ (rebase s).pending = s.pending := by
  unfold rebase
  refine ⟨?_, ?_, ?_, ?_, ?_, ?_, ?_, ?_, ?_⟩ <;> (try dsimp only) <;> (repeat' split) <;> simp

@[simp] theorem setAnchor_keeps (a : Int) (k : GapKind) (s : State) :
    (setAnchor a k s).tracker = s.tracker ∧ (setAnchor a k s).generator = s.generator ∧ (setAnchor a k s).servos = s.servos ∧ (setAnchor a k s).links = s.links ∧ (setAnchor a k s).sensors = s.sensors ∧ (setAnchor a k s).intake = s.intake ∧ (setAnchor a k s).path = s.path ∧ (setAnchor a k s).loader = s.loader ∧ (setAnchor a k s).reporter = s.reporter ∧ (setAnchor a k s).signals = s.signals ∧ (setAnchor a k s).freeCount = s.freeCount ∧ (setAnchor a k s).pending = s.pending := by
  unfold setAnchor
  refine ⟨?_, ?_, ?_, ?_, ?_, ?_, ?_, ?_, ?_, ?_, ?_, ?_⟩ <;> (try dsimp only) <;> (repeat' split) <;> simp

@[simp] theorem anchorAtLoadPoint_keeps (s : State) :
    (anchorAtLoadPoint s).tracker = s.tracker ∧ (anchorAtLoadPoint s).generator = s.generator ∧ (anchorAtLoadPoint s).servos = s.servos ∧ (anchorAtLoadPoint s).links = s.links ∧ (anchorAtLoadPoint s).sensors = s.sensors ∧ (anchorAtLoadPoint s).intake = s.intake ∧ (anchorAtLoadPoint s).path = s.path ∧ (anchorAtLoadPoint s).loader = s.loader ∧ (anchorAtLoadPoint s).reporter = s.reporter ∧ (anchorAtLoadPoint s).signals = s.signals ∧ (anchorAtLoadPoint s).freeCount = s.freeCount ∧ (anchorAtLoadPoint s).pending = s.pending := by
  unfold anchorAtLoadPoint
  refine ⟨?_, ?_, ?_, ?_, ?_, ?_, ?_, ?_, ?_, ?_, ?_, ?_⟩ <;> (try dsimp only) <;> (repeat' split) <;> simp

@[simp] theorem recount_keeps (s : State) :
    (recount s).sequencer = s.sequencer ∧ (recount s).generator = s.generator ∧ (recount s).servos = s.servos ∧ (recount s).links = s.links ∧ (recount s).sensors = s.sensors ∧ (recount s).intake = s.intake ∧ (recount s).path = s.path ∧ (recount s).loader = s.loader ∧ (recount s).reporter = s.reporter ∧ (recount s).signals = s.signals ∧ (recount s).freeCount = s.freeCount ∧ (recount s).pending = s.pending := by
  unfold recount
  refine ⟨?_, ?_, ?_, ?_, ?_, ?_, ?_, ?_, ?_, ?_, ?_, ?_⟩ <;> (try dsimp only) <;> (repeat' split) <;> simp

@[simp] theorem setRecord_keeps (i : Fin 16) (r : BlockRecord) (s : State) :
    (setRecord i r s).sequencer = s.sequencer ∧ (setRecord i r s).generator = s.generator ∧ (setRecord i r s).servos = s.servos ∧ (setRecord i r s).links = s.links ∧ (setRecord i r s).sensors = s.sensors ∧ (setRecord i r s).intake = s.intake ∧ (setRecord i r s).path = s.path ∧ (setRecord i r s).loader = s.loader ∧ (setRecord i r s).signals = s.signals ∧ (setRecord i r s).freeCount = s.freeCount ∧ (setRecord i r s).pending = s.pending := by
  unfold setRecord
  refine ⟨?_, ?_, ?_, ?_, ?_, ?_, ?_, ?_, ?_, ?_, ?_⟩ <;> (try dsimp only) <;> (repeat' split) <;> simp

@[simp] theorem freeRecord_keeps (i : Fin 16) (s : State) :
    (freeRecord i s).sequencer = s.sequencer ∧ (freeRecord i s).generator = s.generator ∧ (freeRecord i s).servos = s.servos ∧ (freeRecord i s).links = s.links ∧ (freeRecord i s).sensors = s.sensors ∧ (freeRecord i s).intake = s.intake ∧ (freeRecord i s).path = s.path ∧ (freeRecord i s).loader = s.loader ∧ (freeRecord i s).signals = s.signals ∧ (freeRecord i s).freeCount = s.freeCount ∧ (freeRecord i s).pending = s.pending := by
  unfold freeRecord
  refine ⟨?_, ?_, ?_, ?_, ?_, ?_, ?_, ?_, ?_, ?_, ?_⟩ <;> (try dsimp only) <;> (repeat' split) <;> simp

@[simp] theorem rollBackAll_keeps (is : List (Fin 16)) (s : State) :
    (rollBackAll is s).sequencer = s.sequencer ∧ (rollBackAll is s).generator = s.generator ∧ (rollBackAll is s).servos = s.servos ∧ (rollBackAll is s).links = s.links ∧ (rollBackAll is s).sensors = s.sensors ∧ (rollBackAll is s).intake = s.intake ∧ (rollBackAll is s).loader = s.loader ∧ (rollBackAll is s).signals = s.signals ∧ (rollBackAll is s).freeCount = s.freeCount ∧ (rollBackAll is s).pending = s.pending := by
  unfold rollBackAll
  refine ⟨?_, ?_, ?_, ?_, ?_, ?_, ?_, ?_, ?_, ?_⟩ <;> (try dsimp only) <;> (try split) <;> simp [foldl_keeps]

@[simp] theorem setRecordCursor_keeps (i : Fin 16) (s : State) :
    (setRecordCursor i s).sequencer = s.sequencer ∧ (setRecordCursor i s).generator = s.generator ∧ (setRecordCursor i s).servos = s.servos ∧ (setRecordCursor i s).links = s.links ∧ (setRecordCursor i s).sensors = s.sensors ∧ (setRecordCursor i s).intake = s.intake ∧ (setRecordCursor i s).path = s.path ∧ (setRecordCursor i s).loader = s.loader ∧ (setRecordCursor i s).reporter = s.reporter ∧ (setRecordCursor i s).signals = s.signals ∧ (setRecordCursor i s).freeCount = s.freeCount ∧ (setRecordCursor i s).pending = s.pending := by
  unfold setRecordCursor
  refine ⟨?_, ?_, ?_, ?_, ?_, ?_, ?_, ?_, ?_, ?_, ?_, ?_⟩ <;> (try dsimp only) <;> (repeat' split) <;> simp

@[simp] theorem openContext_keeps (slot : Fin 8) (write : Bool) (n : Nat) (s : State) :
    (openContext slot write n s).sequencer = s.sequencer ∧ (openContext slot write n s).generator = s.generator ∧ (openContext slot write n s).servos = s.servos ∧ (openContext slot write n s).links = s.links ∧ (openContext slot write n s).sensors = s.sensors ∧ (openContext slot write n s).intake = s.intake ∧ (openContext slot write n s).path = s.path ∧ (openContext slot write n s).loader = s.loader ∧ (openContext slot write n s).reporter = s.reporter ∧ (openContext slot write n s).signals = s.signals ∧ (openContext slot write n s).freeCount = s.freeCount ∧ (openContext slot write n s).pending = s.pending := by
  unfold openContext
  refine ⟨?_, ?_, ?_, ?_, ?_, ?_, ?_, ?_, ?_, ?_, ?_, ?_⟩ <;> (try dsimp only) <;> (repeat' split) <;> simp

@[simp] theorem rollBackTo_keeps (k : Fin 16) (s : State) :
    (rollBackTo k s).sequencer = s.sequencer ∧ (rollBackTo k s).generator = s.generator ∧ (rollBackTo k s).servos = s.servos ∧ (rollBackTo k s).links = s.links ∧ (rollBackTo k s).sensors = s.sensors ∧ (rollBackTo k s).intake = s.intake ∧ (rollBackTo k s).loader = s.loader ∧ (rollBackTo k s).signals = s.signals ∧ (rollBackTo k s).freeCount = s.freeCount ∧ (rollBackTo k s).pending = s.pending := by
  unfold rollBackTo
  refine ⟨?_, ?_, ?_, ?_, ?_, ?_, ?_, ?_, ?_, ?_⟩ <;> (try dsimp only) <;> (repeat' split) <;> simp

@[simp] theorem rollBackPast_keeps (k : Fin 16) (s : State) :
    (rollBackPast k s).sequencer = s.sequencer ∧ (rollBackPast k s).generator = s.generator ∧ (rollBackPast k s).servos = s.servos ∧ (rollBackPast k s).links = s.links ∧ (rollBackPast k s).sensors = s.sensors ∧ (rollBackPast k s).intake = s.intake ∧ (rollBackPast k s).loader = s.loader ∧ (rollBackPast k s).signals = s.signals ∧ (rollBackPast k s).freeCount = s.freeCount ∧ (rollBackPast k s).pending = s.pending := by
  unfold rollBackPast
  refine ⟨?_, ?_, ?_, ?_, ?_, ?_, ?_, ?_, ?_, ?_⟩ <;> (try dsimp only) <;> (repeat' split) <;> simp

@[simp] theorem giveBack_keeps (s : State) :
    (giveBack s).sequencer = s.sequencer ∧ (giveBack s).generator = s.generator ∧ (giveBack s).servos = s.servos ∧ (giveBack s).links = s.links ∧ (giveBack s).sensors = s.sensors ∧ (giveBack s).intake = s.intake ∧ (giveBack s).path = s.path ∧ (giveBack s).loader = s.loader ∧ (giveBack s).signals = s.signals ∧ (giveBack s).freeCount = s.freeCount ∧ (giveBack s).pending = s.pending := by
  unfold giveBack
  refine ⟨?_, ?_, ?_, ?_, ?_, ?_, ?_, ?_, ?_, ?_, ?_⟩ <;> (try dsimp only) <;> (repeat' split) <;> simp

@[simp] theorem rollBackOrder_keeps (s : State) :
    (rollBackOrder s).sequencer = s.sequencer ∧ (rollBackOrder s).generator = s.generator ∧ (rollBackOrder s).servos = s.servos ∧ (rollBackOrder s).links = s.links ∧ (rollBackOrder s).sensors = s.sensors ∧ (rollBackOrder s).intake = s.intake ∧ (rollBackOrder s).loader = s.loader ∧ (rollBackOrder s).signals = s.signals ∧ (rollBackOrder s).freeCount = s.freeCount ∧ (rollBackOrder s).pending = s.pending := by
  unfold rollBackOrder
  refine ⟨?_, ?_, ?_, ?_, ?_, ?_, ?_, ?_, ?_, ?_⟩ <;> (try dsimp only) <;> (repeat' split) <;> simp

@[simp] theorem countReceived_keeps (s : State) :
    (countReceived s).sequencer = s.sequencer ∧ (countReceived s).generator = s.generator ∧ (countReceived s).servos = s.servos ∧ (countReceived s).links = s.links ∧ (countReceived s).sensors = s.sensors ∧ (countReceived s).intake = s.intake ∧ (countReceived s).path = s.path ∧ (countReceived s).loader = s.loader ∧ (countReceived s).reporter = s.reporter ∧ (countReceived s).signals = s.signals ∧ (countReceived s).freeCount = s.freeCount ∧ (countReceived s).pending = s.pending := by
  unfold countReceived
  refine ⟨?_, ?_, ?_, ?_, ?_, ?_, ?_, ?_, ?_, ?_, ?_, ?_⟩ <;> (try dsimp only) <;> (repeat' split) <;> simp

@[simp] theorem advanceReceive_keeps (s : State) :
    (advanceReceive s).sequencer = s.sequencer ∧ (advanceReceive s).generator = s.generator ∧ (advanceReceive s).servos = s.servos ∧ (advanceReceive s).links = s.links ∧ (advanceReceive s).sensors = s.sensors ∧ (advanceReceive s).intake = s.intake ∧ (advanceReceive s).path = s.path ∧ (advanceReceive s).loader = s.loader ∧ (advanceReceive s).reporter = s.reporter ∧ (advanceReceive s).signals = s.signals ∧ (advanceReceive s).freeCount = s.freeCount ∧ (advanceReceive s).pending = s.pending := by
  unfold advanceReceive
  refine ⟨?_, ?_, ?_, ?_, ?_, ?_, ?_, ?_, ?_, ?_, ?_, ?_⟩ <;> (try dsimp only) <;> (repeat' split) <;> simp

@[simp] theorem startMotion_keeps (d : Direction) (p : Purpose) (s : State) :
    (startMotion d p s).tracker = s.tracker ∧ (startMotion d p s).links = s.links ∧ (startMotion d p s).intake = s.intake ∧ (startMotion d p s).loader = s.loader ∧ (startMotion d p s).signals = s.signals ∧ (startMotion d p s).freeCount = s.freeCount ∧ (startMotion d p s).pending = s.pending := by
  unfold startMotion
  refine ⟨?_, ?_, ?_, ?_, ?_, ?_, ?_⟩ <;> (try dsimp only) <;> (repeat' split) <;> simp

@[simp] theorem stopMotion_keeps (s : State) :
    (stopMotion s).tracker = s.tracker ∧ (stopMotion s).links = s.links ∧ (stopMotion s).intake = s.intake ∧ (stopMotion s).loader = s.loader ∧ (stopMotion s).freeCount = s.freeCount ∧ (stopMotion s).pending = s.pending := by
  unfold stopMotion
  refine ⟨?_, ?_, ?_, ?_, ?_, ?_⟩ <;> (try dsimp only) <;> (repeat' split) <;> simp

@[simp] theorem forwardStart_keeps (x : Int) (p : Purpose) (s : State) :
    (forwardStart x p s).tracker = s.tracker ∧ (forwardStart x p s).links = s.links ∧ (forwardStart x p s).intake = s.intake ∧ (forwardStart x p s).loader = s.loader ∧ (forwardStart x p s).signals = s.signals ∧ (forwardStart x p s).freeCount = s.freeCount ∧ (forwardStart x p s).pending = s.pending := by
  unfold forwardStart
  refine ⟨?_, ?_, ?_, ?_, ?_, ?_, ?_⟩ <;> (try dsimp only) <;> (repeat' split) <;> simp

@[simp] theorem settleRecords_keeps (o : Outcome) (keepAnchor : Bool) (s : State) :
    (settleRecords o keepAnchor s).generator = s.generator ∧ (settleRecords o keepAnchor s).servos = s.servos ∧ (settleRecords o keepAnchor s).links = s.links ∧ (settleRecords o keepAnchor s).sensors = s.sensors ∧ (settleRecords o keepAnchor s).intake = s.intake ∧ (settleRecords o keepAnchor s).loader = s.loader ∧ (settleRecords o keepAnchor s).signals = s.signals ∧ (settleRecords o keepAnchor s).freeCount = s.freeCount ∧ (settleRecords o keepAnchor s).pending = s.pending := by
  unfold settleRecords
  refine ⟨?_, ?_, ?_, ?_, ?_, ?_, ?_, ?_, ?_⟩ <;> (try dsimp only) <;> (repeat' split) <;> simp

@[simp] theorem endOrder_keeps (o : Outcome) (rsn : Reason) (keepAnchor : Bool) (s : State) :
    (endOrder o rsn keepAnchor s).generator = s.generator ∧ (endOrder o rsn keepAnchor s).servos = s.servos ∧ (endOrder o rsn keepAnchor s).links = s.links ∧ (endOrder o rsn keepAnchor s).sensors = s.sensors ∧ (endOrder o rsn keepAnchor s).loader = s.loader ∧ (endOrder o rsn keepAnchor s).signals = s.signals ∧ (endOrder o rsn keepAnchor s).freeCount = s.freeCount ∧ (endOrder o rsn keepAnchor s).pending = s.pending := by
  unfold endOrder
  refine ⟨?_, ?_, ?_, ?_, ?_, ?_, ?_, ?_⟩ <;> (try dsimp only) <;> (repeat' split) <;> simp

@[simp] theorem fixOutcome_keeps (o : Outcome) (rsn : Reason) (s : State) :
    (fixOutcome o rsn s).generator = s.generator ∧ (fixOutcome o rsn s).servos = s.servos ∧ (fixOutcome o rsn s).links = s.links ∧ (fixOutcome o rsn s).sensors = s.sensors ∧ (fixOutcome o rsn s).loader = s.loader ∧ (fixOutcome o rsn s).signals = s.signals ∧ (fixOutcome o rsn s).freeCount = s.freeCount ∧ (fixOutcome o rsn s).pending = s.pending := by
  unfold fixOutcome
  refine ⟨?_, ?_, ?_, ?_, ?_, ?_, ?_, ?_⟩ <;> (try dsimp only) <;> (repeat' split) <;> simp

@[simp] theorem fixAndStop_keeps (o : Outcome) (rsn : Reason) (s : State) :
    (fixAndStop o rsn s).links = s.links ∧ (fixAndStop o rsn s).loader = s.loader ∧ (fixAndStop o rsn s).freeCount = s.freeCount ∧ (fixAndStop o rsn s).pending = s.pending := by
  unfold fixAndStop
  refine ⟨?_, ?_, ?_, ?_⟩ <;> (try dsimp only) <;> (repeat' split) <;> simp

@[simp] theorem setRecordPoint_keeps (s : State) :
    (setRecordPoint s).tracker = s.tracker ∧ (setRecordPoint s).generator = s.generator ∧ (setRecordPoint s).servos = s.servos ∧ (setRecordPoint s).links = s.links ∧ (setRecordPoint s).sensors = s.sensors ∧ (setRecordPoint s).intake = s.intake ∧ (setRecordPoint s).path = s.path ∧ (setRecordPoint s).loader = s.loader ∧ (setRecordPoint s).reporter = s.reporter ∧ (setRecordPoint s).signals = s.signals ∧ (setRecordPoint s).freeCount = s.freeCount ∧ (setRecordPoint s).pending = s.pending := by
  unfold setRecordPoint
  refine ⟨?_, ?_, ?_, ?_, ?_, ?_, ?_, ?_, ?_, ?_, ?_, ?_⟩ <;> (try dsimp only) <;> (repeat' split) <;> simp

@[simp] theorem dropRecordPoint_keeps (s : State) :
    (dropRecordPoint s).tracker = s.tracker ∧ (dropRecordPoint s).generator = s.generator ∧ (dropRecordPoint s).servos = s.servos ∧ (dropRecordPoint s).links = s.links ∧ (dropRecordPoint s).sensors = s.sensors ∧ (dropRecordPoint s).intake = s.intake ∧ (dropRecordPoint s).path = s.path ∧ (dropRecordPoint s).loader = s.loader ∧ (dropRecordPoint s).reporter = s.reporter ∧ (dropRecordPoint s).signals = s.signals ∧ (dropRecordPoint s).freeCount = s.freeCount ∧ (dropRecordPoint s).pending = s.pending := by
  unfold dropRecordPoint
  refine ⟨?_, ?_, ?_, ?_, ?_, ?_, ?_, ?_, ?_, ?_, ?_, ?_⟩ <;> (try dsimp only) <;> (repeat' split) <;> simp

@[simp] theorem startToRecord_keeps (s : State) :
    (startToRecord s).tracker = s.tracker ∧ (startToRecord s).links = s.links ∧ (startToRecord s).intake = s.intake ∧ (startToRecord s).loader = s.loader ∧ (startToRecord s).signals = s.signals ∧ (startToRecord s).freeCount = s.freeCount ∧ (startToRecord s).pending = s.pending := by
  unfold startToRecord
  refine ⟨?_, ?_, ?_, ?_, ?_, ?_, ?_⟩ <;> (try dsimp only) <;> (repeat' split) <;> simp

@[simp] theorem endFillWait_keeps (s : State) :
    (endFillWait s).tracker = s.tracker ∧ (endFillWait s).generator = s.generator ∧ (endFillWait s).servos = s.servos ∧ (endFillWait s).links = s.links ∧ (endFillWait s).sensors = s.sensors ∧ (endFillWait s).intake = s.intake ∧ (endFillWait s).path = s.path ∧ (endFillWait s).loader = s.loader ∧ (endFillWait s).reporter = s.reporter ∧ (endFillWait s).signals = s.signals ∧ (endFillWait s).freeCount = s.freeCount ∧ (endFillWait s).pending = s.pending := by
  unfold endFillWait
  refine ⟨?_, ?_, ?_, ?_, ?_, ?_, ?_, ?_, ?_, ?_, ?_, ?_⟩ <;> (try dsimp only) <;> (repeat' split) <;> simp

theorem armRequest_keeps {s t : State} (e : armRequest s = some t) :
    t.sequencer = s.sequencer ∧ t.generator = s.generator ∧ t.servos = s.servos ∧ t.links = s.links ∧ t.sensors = s.sensors ∧ t.intake = s.intake ∧ t.path = s.path ∧ t.loader = s.loader ∧ t.signals = s.signals ∧ t.freeCount = s.freeCount ∧ t.pending = s.pending := by
  unfold armRequest at e
  repeat' (first | split at e | (dsimp only at e; split at e))
  all_goals first | (simp at e; done) | (cases Option.some.inj e; exact ⟨by (repeat split) <;> simp, by (repeat split) <;> simp, by (repeat split) <;> simp, by (repeat split) <;> simp, by (repeat split) <;> simp, by (repeat split) <;> simp, by (repeat split) <;> simp, by (repeat split) <;> simp, by (repeat split) <;> simp, by (repeat split) <;> simp, by (repeat split) <;> simp⟩)

@[simp] theorem armFlow_keeps (s : State) :
    (armFlow s).links = s.links ∧ (armFlow s).loader = s.loader ∧ (armFlow s).freeCount = s.freeCount ∧ (armFlow s).pending = s.pending := by
  unfold armFlow
  refine ⟨?_, ?_, ?_, ?_⟩ <;> (try dsimp only) <;> (repeat' split) <;>
    first | (simp; done) | (next e => have k := armRequest_keeps e; simp [k]) | (next e _ => have k := armRequest_keeps e; simp [k]) | (simp_all; done)

@[simp] theorem releaseHandled_keeps (i : Fin 16) (stop : Int) (s : State) :
    (releaseHandled i stop s).links = s.links ∧ (releaseHandled i stop s).loader = s.loader ∧ (releaseHandled i stop s).freeCount = s.freeCount ∧ (releaseHandled i stop s).pending = s.pending := by
  unfold releaseHandled
  refine ⟨?_, ?_, ?_, ?_⟩ <;> (try dsimp only) <;> (repeat' split) <;> simp

@[simp] theorem releaseBlock_keeps (i : Fin 16) (r : Int) (s : State) :
    (releaseBlock i r s).links = s.links ∧ (releaseBlock i r s).loader = s.loader ∧ (releaseBlock i r s).freeCount = s.freeCount ∧ (releaseBlock i r s).pending = s.pending := by
  unfold releaseBlock
  refine ⟨?_, ?_, ?_, ?_⟩ <;> (try dsimp only) <;> (repeat' split) <;> simp

@[simp] theorem streamOrStop_keeps (s : State) :
    (streamOrStop s).links = s.links ∧ (streamOrStop s).loader = s.loader ∧ (streamOrStop s).freeCount = s.freeCount ∧ (streamOrStop s).pending = s.pending := by
  unfold streamOrStop
  refine ⟨?_, ?_, ?_, ?_⟩ <;> (try dsimp only) <;> (repeat' split) <;> simp

theorem decisionRequest_keeps (i : Fin 16) {s t : State} (e : decisionRequest i s = some t) :
    t.sequencer = s.sequencer ∧ t.generator = s.generator ∧ t.servos = s.servos ∧ t.links = s.links ∧ t.sensors = s.sensors ∧ t.intake = s.intake ∧ t.path = s.path ∧ t.loader = s.loader ∧ t.signals = s.signals ∧ t.freeCount = s.freeCount ∧ t.pending = s.pending := by
  unfold decisionRequest at e
  repeat' (first | split at e | (dsimp only at e; split at e))
  all_goals first | (simp at e; done) | (cases Option.some.inj e; exact ⟨by (repeat split) <;> simp, by (repeat split) <;> simp, by (repeat split) <;> simp, by (repeat split) <;> simp, by (repeat split) <;> simp, by (repeat split) <;> simp, by (repeat split) <;> simp, by (repeat split) <;> simp, by (repeat split) <;> simp, by (repeat split) <;> simp, by (repeat split) <;> simp⟩)

@[simp] theorem decisionPoint_keeps (i : Fin 16) (rest : List (Fin 16 × Int)) (s : State) :
    (decisionPoint i rest s).links = s.links ∧ (decisionPoint i rest s).loader = s.loader ∧ (decisionPoint i rest s).freeCount = s.freeCount ∧ (decisionPoint i rest s).pending = s.pending := by
  unfold decisionPoint
  refine ⟨?_, ?_, ?_, ?_⟩ <;> (try dsimp only) <;> (repeat' split) <;>
    first | (simp; done) | (next e => have k := decisionRequest_keeps _ e; simp [k]) | (next e _ => have k := decisionRequest_keeps _ e; simp [k]) | (simp_all; done)

@[simp] theorem unarm_keeps (i : Fin 16) (s : State) :
    (unarm i s).generator = s.generator ∧ (unarm i s).servos = s.servos ∧ (unarm i s).links = s.links ∧ (unarm i s).sensors = s.sensors ∧ (unarm i s).intake = s.intake ∧ (unarm i s).loader = s.loader ∧ (unarm i s).signals = s.signals ∧ (unarm i s).freeCount = s.freeCount ∧ (unarm i s).pending = s.pending := by
  unfold unarm
  refine ⟨?_, ?_, ?_, ?_, ?_, ?_, ?_, ?_, ?_⟩ <;> (try dsimp only) <;> (repeat' split) <;> simp

@[simp] theorem noShow_keeps (s : State) :
    (noShow s).links = s.links ∧ (noShow s).loader = s.loader ∧ (noShow s).freeCount = s.freeCount ∧ (noShow s).pending = s.pending := by
  unfold noShow
  refine ⟨?_, ?_, ?_, ?_⟩ <;> (try dsimp only) <;> (repeat' split) <;> simp

@[simp] theorem holdNotice_keeps (s : State) :
    (holdNotice s).tracker = s.tracker ∧ (holdNotice s).generator = s.generator ∧ (holdNotice s).servos = s.servos ∧ (holdNotice s).links = s.links ∧ (holdNotice s).sensors = s.sensors ∧ (holdNotice s).intake = s.intake ∧ (holdNotice s).path = s.path ∧ (holdNotice s).loader = s.loader ∧ (holdNotice s).reporter = s.reporter ∧ (holdNotice s).signals = s.signals ∧ (holdNotice s).freeCount = s.freeCount ∧ (holdNotice s).pending = s.pending := by
  unfold holdNotice
  refine ⟨?_, ?_, ?_, ?_, ?_, ?_, ?_, ?_, ?_, ?_, ?_, ?_⟩ <;> (try dsimp only) <;> (repeat' split) <;> simp

@[simp] theorem cursorFilled_keeps (s : State) :
    (cursorFilled s).links = s.links ∧ (cursorFilled s).loader = s.loader ∧ (cursorFilled s).freeCount = s.freeCount ∧ (cursorFilled s).pending = s.pending := by
  unfold cursorFilled
  refine ⟨?_, ?_, ?_, ?_⟩ <;> (try dsimp only) <;> (repeat' split) <;> simp

@[simp] theorem retracted_keeps (i : Fin 16) (s : State) :
    (retracted i s).tracker = s.tracker ∧ (retracted i s).links = s.links ∧ (retracted i s).intake = s.intake ∧ (retracted i s).loader = s.loader ∧ (retracted i s).freeCount = s.freeCount ∧ (retracted i s).pending = s.pending := by
  unfold retracted
  refine ⟨?_, ?_, ?_, ?_, ?_, ?_⟩ <;> (try dsimp only) <;> (repeat' split) <;> simp

@[simp] theorem startReading_keeps (o : OrderCode) (s : State) :
    (startReading o s).links = s.links ∧ (startReading o s).loader = s.loader ∧ (startReading o s).signals = s.signals ∧ (startReading o s).freeCount = s.freeCount ∧ (startReading o s).pending = s.pending := by
  unfold startReading
  refine ⟨?_, ?_, ?_, ?_, ?_⟩ <;> (try dsimp only) <;> (repeat' split) <;> simp

theorem expectRequest_keeps {s t : State} (e : expectRequest s = some t) :
    t.sequencer = s.sequencer ∧ t.generator = s.generator ∧ t.servos = s.servos ∧ t.links = s.links ∧ t.sensors = s.sensors ∧ t.intake = s.intake ∧ t.path = s.path ∧ t.loader = s.loader ∧ t.signals = s.signals ∧ t.freeCount = s.freeCount ∧ t.pending = s.pending := by
  unfold expectRequest at e
  repeat' (first | split at e | (dsimp only at e; split at e))
  all_goals first | (simp at e; done) | (cases Option.some.inj e; exact ⟨by (repeat split) <;> simp, by (repeat split) <;> simp, by (repeat split) <;> simp, by (repeat split) <;> simp, by (repeat split) <;> simp, by (repeat split) <;> simp, by (repeat split) <;> simp, by (repeat split) <;> simp, by (repeat split) <;> simp, by (repeat split) <;> simp, by (repeat split) <;> simp⟩)

@[simp] theorem expectAndStart_keeps (o : OrderCode) (s : State) :
    (expectAndStart o s).links = s.links ∧ (expectAndStart o s).loader = s.loader ∧ (expectAndStart o s).signals = s.signals ∧ (expectAndStart o s).freeCount = s.freeCount ∧ (expectAndStart o s).pending = s.pending := by
  unfold expectAndStart
  refine ⟨?_, ?_, ?_, ?_, ?_⟩ <;> (try dsimp only) <;> (repeat' split) <;>
    first | (simp; done) | (next e => have k := expectRequest_keeps e; simp [k]) | (next e _ => have k := expectRequest_keeps e; simp [k]) | (simp_all; done)

@[simp] theorem receiveFreed_keeps (s : State) :
    (receiveFreed s).links = s.links ∧ (receiveFreed s).loader = s.loader ∧ (receiveFreed s).signals = s.signals ∧ (receiveFreed s).freeCount = s.freeCount ∧ (receiveFreed s).pending = s.pending := by
  unfold receiveFreed
  refine ⟨?_, ?_, ?_, ?_, ?_⟩ <;> (try dsimp only) <;> (repeat' split) <;> simp

@[simp] theorem anchorAfterReceipt_keeps (d : Direction) (c : Coords) (s : State) :
    (anchorAfterReceipt d c s).tracker = s.tracker ∧ (anchorAfterReceipt d c s).generator = s.generator ∧ (anchorAfterReceipt d c s).servos = s.servos ∧ (anchorAfterReceipt d c s).links = s.links ∧ (anchorAfterReceipt d c s).sensors = s.sensors ∧ (anchorAfterReceipt d c s).intake = s.intake ∧ (anchorAfterReceipt d c s).path = s.path ∧ (anchorAfterReceipt d c s).loader = s.loader ∧ (anchorAfterReceipt d c s).reporter = s.reporter ∧ (anchorAfterReceipt d c s).signals = s.signals ∧ (anchorAfterReceipt d c s).freeCount = s.freeCount ∧ (anchorAfterReceipt d c s).pending = s.pending := by
  unfold anchorAfterReceipt
  refine ⟨?_, ?_, ?_, ?_, ?_, ?_, ?_, ?_, ?_, ?_, ?_, ?_⟩ <;> (try dsimp only) <;> (repeat' split) <;> simp

@[simp] theorem setBlankRef_keeps (s : State) :
    (setBlankRef s).tracker = s.tracker ∧ (setBlankRef s).generator = s.generator ∧ (setBlankRef s).servos = s.servos ∧ (setBlankRef s).links = s.links ∧ (setBlankRef s).sensors = s.sensors ∧ (setBlankRef s).intake = s.intake ∧ (setBlankRef s).path = s.path ∧ (setBlankRef s).loader = s.loader ∧ (setBlankRef s).reporter = s.reporter ∧ (setBlankRef s).signals = s.signals ∧ (setBlankRef s).freeCount = s.freeCount ∧ (setBlankRef s).pending = s.pending := by
  unfold setBlankRef
  refine ⟨?_, ?_, ?_, ?_, ?_, ?_, ?_, ?_, ?_, ?_, ?_, ?_⟩ <;> (try dsimp only) <;> (repeat' split) <;> simp

@[simp] theorem readDecision_keeps (isMark backing : Bool) (s : State) :
    (readDecision isMark backing s).links = s.links ∧ (readDecision isMark backing s).loader = s.loader ∧ (readDecision isMark backing s).freeCount = s.freeCount ∧ (readDecision isMark backing s).pending = s.pending := by
  unfold readDecision
  refine ⟨?_, ?_, ?_, ?_⟩ <;> (try dsimp only) <;> (repeat' split) <;>
    first | (simp; done) | (next e => have k := expectRequest_keeps e; simp [k]) | (next e _ => have k := expectRequest_keeps e; simp [k]) | (simp_all; done)

@[simp] theorem spaceDecision_keeps (isMark : Bool) (s : State) :
    (spaceDecision isMark s).links = s.links ∧ (spaceDecision isMark s).loader = s.loader ∧ (spaceDecision isMark s).freeCount = s.freeCount ∧ (spaceDecision isMark s).pending = s.pending := by
  unfold spaceDecision
  refine ⟨?_, ?_, ?_, ?_⟩ <;> (try dsimp only) <;> (repeat' split) <;> simp

@[simp] theorem eraseStop_keeps (e : Int) (s : State) :
    (eraseStop e s).links = s.links ∧ (eraseStop e s).loader = s.loader ∧ (eraseStop e s).freeCount = s.freeCount ∧ (eraseStop e s).pending = s.pending := by
  unfold eraseStop
  refine ⟨?_, ?_, ?_, ?_⟩ <;> (try dsimp only) <;> (repeat' split) <;> simp

@[simp] theorem botRule_keeps (s : State) :
    (botRule s).links = s.links ∧ (botRule s).loader = s.loader ∧ (botRule s).freeCount = s.freeCount ∧ (botRule s).pending = s.pending := by
  unfold botRule
  refine ⟨?_, ?_, ?_, ?_⟩ <;> (try dsimp only) <;> (repeat' split) <;> simp

@[simp] theorem setRecovery_keeps (r : Option Recovery) (s : State) :
    (setRecovery r s).tracker = s.tracker ∧ (setRecovery r s).generator = s.generator ∧ (setRecovery r s).servos = s.servos ∧ (setRecovery r s).links = s.links ∧ (setRecovery r s).sensors = s.sensors ∧ (setRecovery r s).intake = s.intake ∧ (setRecovery r s).path = s.path ∧ (setRecovery r s).loader = s.loader ∧ (setRecovery r s).reporter = s.reporter ∧ (setRecovery r s).signals = s.signals ∧ (setRecovery r s).freeCount = s.freeCount ∧ (setRecovery r s).pending = s.pending := by
  unfold setRecovery
  refine ⟨?_, ?_, ?_, ?_, ?_, ?_, ?_, ?_, ?_, ?_, ?_, ?_⟩ <;> (try dsimp only) <;> (repeat' split) <;> simp

@[simp] theorem setRecoveryPhase_keeps (p : RecoveryPhase) (s : State) :
    (setRecoveryPhase p s).tracker = s.tracker ∧ (setRecoveryPhase p s).generator = s.generator ∧ (setRecoveryPhase p s).servos = s.servos ∧ (setRecoveryPhase p s).links = s.links ∧ (setRecoveryPhase p s).sensors = s.sensors ∧ (setRecoveryPhase p s).intake = s.intake ∧ (setRecoveryPhase p s).path = s.path ∧ (setRecoveryPhase p s).loader = s.loader ∧ (setRecoveryPhase p s).reporter = s.reporter ∧ (setRecoveryPhase p s).signals = s.signals ∧ (setRecoveryPhase p s).freeCount = s.freeCount ∧ (setRecoveryPhase p s).pending = s.pending := by
  unfold setRecoveryPhase
  refine ⟨?_, ?_, ?_, ?_, ?_, ?_, ?_, ?_, ?_, ?_, ?_, ?_⟩ <;> (try dsimp only) <;> (repeat' split) <;> simp

@[simp] theorem pruneDecisions_keeps (s : State) :
    (pruneDecisions s).tracker = s.tracker ∧ (pruneDecisions s).generator = s.generator ∧ (pruneDecisions s).servos = s.servos ∧ (pruneDecisions s).links = s.links ∧ (pruneDecisions s).sensors = s.sensors ∧ (pruneDecisions s).intake = s.intake ∧ (pruneDecisions s).path = s.path ∧ (pruneDecisions s).loader = s.loader ∧ (pruneDecisions s).reporter = s.reporter ∧ (pruneDecisions s).signals = s.signals ∧ (pruneDecisions s).freeCount = s.freeCount ∧ (pruneDecisions s).pending = s.pending := by
  unfold pruneDecisions
  refine ⟨?_, ?_, ?_, ?_, ?_, ?_, ?_, ?_, ?_, ?_, ?_, ?_⟩ <;> (try dsimp only) <;> (repeat' split) <;> simp

@[simp] theorem beginBackup_keeps (d : Direction) (s : State) :
    (beginBackup d s).tracker = s.tracker ∧ (beginBackup d s).links = s.links ∧ (beginBackup d s).intake = s.intake ∧ (beginBackup d s).loader = s.loader ∧ (beginBackup d s).signals = s.signals ∧ (beginBackup d s).freeCount = s.freeCount ∧ (beginBackup d s).pending = s.pending := by
  unfold beginBackup
  refine ⟨?_, ?_, ?_, ?_, ?_, ?_, ?_⟩ <;> (try dsimp only) <;> (repeat' split) <;> simp

@[simp] theorem enterRunIn_keeps (s : State) :
    (enterRunIn s).links = s.links ∧ (enterRunIn s).loader = s.loader ∧ (enterRunIn s).freeCount = s.freeCount ∧ (enterRunIn s).pending = s.pending := by
  unfold enterRunIn
  refine ⟨?_, ?_, ?_, ?_⟩ <;> (try dsimp only) <;> (repeat' split) <;> simp

@[simp] theorem settleWrite_keeps (target : Int) (s : State) :
    (settleWrite target s).links = s.links ∧ (settleWrite target s).loader = s.loader ∧ (settleWrite target s).freeCount = s.freeCount ∧ (settleWrite target s).pending = s.pending := by
  unfold settleWrite
  refine ⟨?_, ?_, ?_, ?_⟩ <;> (try dsimp only) <;> (repeat' split) <;> simp

@[simp] theorem aimRecovery_keeps (k : Fin 16) (s : State) :
    (aimRecovery k s).tracker = s.tracker ∧ (aimRecovery k s).generator = s.generator ∧ (aimRecovery k s).servos = s.servos ∧ (aimRecovery k s).links = s.links ∧ (aimRecovery k s).sensors = s.sensors ∧ (aimRecovery k s).intake = s.intake ∧ (aimRecovery k s).path = s.path ∧ (aimRecovery k s).loader = s.loader ∧ (aimRecovery k s).reporter = s.reporter ∧ (aimRecovery k s).signals = s.signals ∧ (aimRecovery k s).freeCount = s.freeCount ∧ (aimRecovery k s).pending = s.pending := by
  unfold aimRecovery
  refine ⟨?_, ?_, ?_, ?_, ?_, ?_, ?_, ?_, ?_, ?_, ?_, ?_⟩ <;> (try dsimp only) <;> (repeat' split) <;> simp

@[simp] theorem recoveryMotion_keeps (retarget : Bool) (s : State) :
    (recoveryMotion retarget s).links = s.links ∧ (recoveryMotion retarget s).loader = s.loader ∧ (recoveryMotion retarget s).freeCount = s.freeCount ∧ (recoveryMotion retarget s).pending = s.pending := by
  unfold recoveryMotion
  refine ⟨?_, ?_, ?_, ?_⟩ <;> (try dsimp only) <;> (repeat' split) <;> simp

@[simp] theorem openWriteRecovery_keeps (k : Fin 16) (s : State) :
    (openWriteRecovery k s).links = s.links ∧ (openWriteRecovery k s).loader = s.loader ∧ (openWriteRecovery k s).freeCount = s.freeCount ∧ (openWriteRecovery k s).pending = s.pending := by
  unfold openWriteRecovery
  refine ⟨?_, ?_, ?_, ?_⟩ <;> (try dsimp only) <;> (repeat' split) <;> simp

@[simp] theorem retargetRecovery_keeps (j k : Fin 16) (s : State) :
    (retargetRecovery j k s).links = s.links ∧ (retargetRecovery j k s).loader = s.loader ∧ (retargetRecovery j k s).freeCount = s.freeCount ∧ (retargetRecovery j k s).pending = s.pending := by
  unfold retargetRecovery
  refine ⟨?_, ?_, ?_, ?_⟩ <;> (try dsimp only) <;> (repeat' split) <;> simp

@[simp] theorem anchorBefore_keeps (j : Fin 16) (s : State) :
    (anchorBefore j s).tracker = s.tracker ∧ (anchorBefore j s).generator = s.generator ∧ (anchorBefore j s).servos = s.servos ∧ (anchorBefore j s).links = s.links ∧ (anchorBefore j s).sensors = s.sensors ∧ (anchorBefore j s).intake = s.intake ∧ (anchorBefore j s).path = s.path ∧ (anchorBefore j s).loader = s.loader ∧ (anchorBefore j s).reporter = s.reporter ∧ (anchorBefore j s).signals = s.signals ∧ (anchorBefore j s).freeCount = s.freeCount ∧ (anchorBefore j s).pending = s.pending := by
  unfold anchorBefore
  refine ⟨?_, ?_, ?_, ?_, ?_, ?_, ?_, ?_, ?_, ?_, ?_, ?_⟩ <;> (try dsimp only) <;> (repeat' split) <;> simp

@[simp] theorem permanentWriteFailure_keeps (j : Fin 16) (s : State) :
    (permanentWriteFailure j s).links = s.links ∧ (permanentWriteFailure j s).loader = s.loader ∧ (permanentWriteFailure j s).freeCount = s.freeCount ∧ (permanentWriteFailure j s).pending = s.pending := by
  unfold permanentWriteFailure
  refine ⟨?_, ?_, ?_, ?_⟩ <;> (try dsimp only) <;> (repeat' split) <;> simp

@[simp] theorem stopIfNoneListed_keeps (s : State) :
    (stopIfNoneListed s).tracker = s.tracker ∧ (stopIfNoneListed s).links = s.links ∧ (stopIfNoneListed s).intake = s.intake ∧ (stopIfNoneListed s).loader = s.loader ∧ (stopIfNoneListed s).freeCount = s.freeCount ∧ (stopIfNoneListed s).pending = s.pending := by
  unfold stopIfNoneListed
  refine ⟨?_, ?_, ?_, ?_, ?_, ?_⟩ <;> (try dsimp only) <;> (repeat' split) <;> simp

@[simp] theorem failureAfterOutcome_keeps (permanent : Bool) (j : Fin 16) (s : State) :
    (failureAfterOutcome permanent j s).links = s.links ∧ (failureAfterOutcome permanent j s).intake = s.intake ∧ (failureAfterOutcome permanent j s).loader = s.loader ∧ (failureAfterOutcome permanent j s).freeCount = s.freeCount ∧ (failureAfterOutcome permanent j s).pending = s.pending := by
  unfold failureAfterOutcome
  refine ⟨?_, ?_, ?_, ?_, ?_⟩ <;> (try dsimp only) <;> (repeat' split) <;> simp

@[simp] theorem writeFailure_keeps (j : Fin 16) (s : State) :
    (writeFailure j s).links = s.links ∧ (writeFailure j s).loader = s.loader ∧ (writeFailure j s).freeCount = s.freeCount ∧ (writeFailure j s).pending = s.pending := by
  unfold writeFailure
  refine ⟨?_, ?_, ?_, ?_⟩ <;> (try dsimp only) <;> (repeat' split) <;> simp

@[simp] theorem verifyBlock_keeps (i : Fin 16) (s : State) :
    (verifyBlock i s).generator = s.generator ∧ (verifyBlock i s).servos = s.servos ∧ (verifyBlock i s).links = s.links ∧ (verifyBlock i s).sensors = s.sensors ∧ (verifyBlock i s).loader = s.loader ∧ (verifyBlock i s).signals = s.signals ∧ (verifyBlock i s).freeCount = s.freeCount ∧ (verifyBlock i s).pending = s.pending := by
  unfold verifyBlock
  refine ⟨?_, ?_, ?_, ?_, ?_, ?_, ?_, ?_⟩ <;> (try dsimp only) <;> (repeat' split) <;> simp

@[simp] theorem settleRead_keeps (o : OrderCode) (s : State) :
    (settleRead o s).tracker = s.tracker ∧ (settleRead o s).links = s.links ∧ (settleRead o s).intake = s.intake ∧ (settleRead o s).loader = s.loader ∧ (settleRead o s).signals = s.signals ∧ (settleRead o s).freeCount = s.freeCount ∧ (settleRead o s).pending = s.pending := by
  unfold settleRead
  refine ⟨?_, ?_, ?_, ?_, ?_, ?_, ?_⟩ <;> (try dsimp only) <;> (repeat' split) <;> simp

@[simp] theorem beginReread_keeps (o : OrderCode) (s : State) :
    (beginReread o s).links = s.links ∧ (beginReread o s).loader = s.loader ∧ (beginReread o s).signals = s.signals ∧ (beginReread o s).freeCount = s.freeCount ∧ (beginReread o s).pending = s.pending := by
  unfold beginReread
  refine ⟨?_, ?_, ?_, ?_, ?_⟩ <;> (try dsimp only) <;> (repeat' split) <;> simp

@[simp] theorem openReadRecovery_keeps (k : Fin 16) (o : OrderCode) (c : Coords) (s : State) :
    (openReadRecovery k o c s).tracker = s.tracker ∧ (openReadRecovery k o c s).links = s.links ∧ (openReadRecovery k o c s).intake = s.intake ∧ (openReadRecovery k o c s).loader = s.loader ∧ (openReadRecovery k o c s).freeCount = s.freeCount ∧ (openReadRecovery k o c s).pending = s.pending := by
  unfold openReadRecovery
  refine ⟨?_, ?_, ?_, ?_, ?_, ?_⟩ <;> (try dsimp only) <;> (repeat' split) <;> simp

@[simp] theorem permanentReadError_keeps (k : Fin 16) (s : State) :
    (permanentReadError k s).links = s.links ∧ (permanentReadError k s).loader = s.loader ∧ (permanentReadError k s).freeCount = s.freeCount ∧ (permanentReadError k s).pending = s.pending := by
  unfold permanentReadError
  refine ⟨?_, ?_, ?_, ?_⟩ <;> (try dsimp only) <;> (repeat' split) <;> simp

@[simp] theorem readErrorTaken_keeps (k : Fin 16) (o : OrderCode) (c : Coords) (s : State) :
    (readErrorTaken k o c s).links = s.links ∧ (readErrorTaken k o c s).loader = s.loader ∧ (readErrorTaken k o c s).freeCount = s.freeCount ∧ (readErrorTaken k o c s).pending = s.pending := by
  unfold readErrorTaken
  refine ⟨?_, ?_, ?_, ?_⟩ <;> (try dsimp only) <;> (repeat' split) <;> simp

@[simp] theorem readReceipt_keeps (isMark : Bool) (d : Direction) (c : Coords) (s : State) :
    (readReceipt isMark d c s).links = s.links ∧ (readReceipt isMark d c s).loader = s.loader ∧ (readReceipt isMark d c s).freeCount = s.freeCount ∧ (readReceipt isMark d c s).pending = s.pending := by
  unfold readReceipt
  refine ⟨?_, ?_, ?_, ?_⟩ <;> (try dsimp only) <;> (repeat' split) <;> simp

@[simp] theorem spaceReceipt_keeps (isMark : Bool) (d : Direction) (c : Coords) (s : State) :
    (spaceReceipt isMark d c s).links = s.links ∧ (spaceReceipt isMark d c s).loader = s.loader ∧ (spaceReceipt isMark d c s).freeCount = s.freeCount ∧ (spaceReceipt isMark d c s).pending = s.pending := by
  unfold spaceReceipt
  refine ⟨?_, ?_, ?_, ?_⟩ <;> (try dsimp only) <;> (repeat' split) <;> simp

@[simp] theorem startGroupRead_keeps (a : Activity) (s : State) :
    (startGroupRead a s).tracker = s.tracker ∧ (startGroupRead a s).sequencer = s.sequencer ∧ (startGroupRead a s).generator = s.generator ∧ (startGroupRead a s).servos = s.servos ∧ (startGroupRead a s).links = s.links ∧ (startGroupRead a s).sensors = s.sensors ∧ (startGroupRead a s).intake = s.intake ∧ (startGroupRead a s).reporter = s.reporter ∧ (startGroupRead a s).signals = s.signals ∧ (startGroupRead a s).freeCount = s.freeCount ∧ (startGroupRead a s).pending = s.pending := by
  unfold startGroupRead
  refine ⟨?_, ?_, ?_, ?_, ?_, ?_, ?_, ?_, ?_, ?_, ?_⟩ <;> (try dsimp only) <;> (repeat' split) <;> simp

@[simp] theorem startGroupB_keeps (s : State) :
    (startGroupB s).tracker = s.tracker ∧ (startGroupB s).generator = s.generator ∧ (startGroupB s).servos = s.servos ∧ (startGroupB s).links = s.links ∧ (startGroupB s).sensors = s.sensors ∧ (startGroupB s).intake = s.intake ∧ (startGroupB s).reporter = s.reporter ∧ (startGroupB s).signals = s.signals ∧ (startGroupB s).freeCount = s.freeCount ∧ (startGroupB s).pending = s.pending := by
  unfold startGroupB
  refine ⟨?_, ?_, ?_, ?_, ?_, ?_, ?_, ?_, ?_, ?_⟩ <;> (try dsimp only) <;> (repeat' split) <;> simp

@[simp] theorem requestGroupB_keeps (s : State) :
    (requestGroupB s).tracker = s.tracker ∧ (requestGroupB s).generator = s.generator ∧ (requestGroupB s).servos = s.servos ∧ (requestGroupB s).links = s.links ∧ (requestGroupB s).sensors = s.sensors ∧ (requestGroupB s).intake = s.intake ∧ (requestGroupB s).reporter = s.reporter ∧ (requestGroupB s).signals = s.signals ∧ (requestGroupB s).freeCount = s.freeCount ∧ (requestGroupB s).pending = s.pending := by
  unfold requestGroupB
  refine ⟨?_, ?_, ?_, ?_, ?_, ?_, ?_, ?_, ?_, ?_⟩ <;> (try dsimp only) <;> (repeat' split) <;> simp

@[simp] theorem failOrder_keeps (r : Reason) (s : State) :
    (failOrder r s).generator = s.generator ∧ (failOrder r s).servos = s.servos ∧ (failOrder r s).links = s.links ∧ (failOrder r s).sensors = s.sensors ∧ (failOrder r s).loader = s.loader ∧ (failOrder r s).signals = s.signals ∧ (failOrder r s).freeCount = s.freeCount ∧ (failOrder r s).pending = s.pending := by
  unfold failOrder
  refine ⟨?_, ?_, ?_, ?_, ?_, ?_, ?_, ?_⟩ <;> (try dsimp only) <;> (repeat' split) <;> simp

@[simp] theorem holdOrder_keeps (s : State) :
    (holdOrder s).tracker = s.tracker ∧ (holdOrder s).generator = s.generator ∧ (holdOrder s).servos = s.servos ∧ (holdOrder s).links = s.links ∧ (holdOrder s).sensors = s.sensors ∧ (holdOrder s).intake = s.intake ∧ (holdOrder s).path = s.path ∧ (holdOrder s).loader = s.loader ∧ (holdOrder s).reporter = s.reporter ∧ (holdOrder s).signals = s.signals ∧ (holdOrder s).freeCount = s.freeCount ∧ (holdOrder s).pending = s.pending := by
  unfold holdOrder
  refine ⟨?_, ?_, ?_, ?_, ?_, ?_, ?_, ?_, ?_, ?_, ?_, ?_⟩ <;> (try dsimp only) <;> (repeat' split) <;> simp

@[simp] theorem raiseLoadPoint_keeps (s : State) :
    (raiseLoadPoint s).tracker = s.tracker ∧ (raiseLoadPoint s).sequencer = s.sequencer ∧ (raiseLoadPoint s).generator = s.generator ∧ (raiseLoadPoint s).servos = s.servos ∧ (raiseLoadPoint s).links = s.links ∧ (raiseLoadPoint s).sensors = s.sensors ∧ (raiseLoadPoint s).intake = s.intake ∧ (raiseLoadPoint s).path = s.path ∧ (raiseLoadPoint s).loader = s.loader ∧ (raiseLoadPoint s).signals = s.signals ∧ (raiseLoadPoint s).freeCount = s.freeCount ∧ (raiseLoadPoint s).pending = s.pending := by
  unfold raiseLoadPoint
  refine ⟨?_, ?_, ?_, ?_, ?_, ?_, ?_, ?_, ?_, ?_, ?_, ?_⟩ <;> (try dsimp only) <;> (repeat' split) <;> simp

@[simp] theorem setRewindStep_keeps (r : RewindStep) (s : State) :
    (setRewindStep r s).tracker = s.tracker ∧ (setRewindStep r s).generator = s.generator ∧ (setRewindStep r s).links = s.links ∧ (setRewindStep r s).intake = s.intake ∧ (setRewindStep r s).path = s.path ∧ (setRewindStep r s).loader = s.loader ∧ (setRewindStep r s).signals = s.signals ∧ (setRewindStep r s).freeCount = s.freeCount ∧ (setRewindStep r s).pending = s.pending := by
  unfold setRewindStep
  refine ⟨?_, ?_, ?_, ?_, ?_, ?_, ?_, ?_, ?_⟩ <;> (try dsimp only) <;> (repeat' split) <;> simp

@[simp] theorem beginRewind_keeps (s : State) :
    (beginRewind s).tracker = s.tracker ∧ (beginRewind s).links = s.links ∧ (beginRewind s).intake = s.intake ∧ (beginRewind s).loader = s.loader ∧ (beginRewind s).signals = s.signals ∧ (beginRewind s).freeCount = s.freeCount ∧ (beginRewind s).pending = s.pending := by
  unfold beginRewind
  refine ⟨?_, ?_, ?_, ?_, ?_, ?_, ?_⟩ <;> (try dsimp only) <;> (repeat' split) <;> simp

@[simp] theorem completeUnload_keeps (s : State) :
    (completeUnload s).generator = s.generator ∧ (completeUnload s).links = s.links ∧ (completeUnload s).loader = s.loader ∧ (completeUnload s).signals = s.signals ∧ (completeUnload s).freeCount = s.freeCount ∧ (completeUnload s).pending = s.pending := by
  unfold completeUnload
  refine ⟨?_, ?_, ?_, ?_, ?_, ?_⟩ <;> (try dsimp only) <;> (repeat' split) <;> simp

@[simp] theorem enterRelease_keeps (s : State) :
    (enterRelease s).generator = s.generator ∧ (enterRelease s).links = s.links ∧ (enterRelease s).loader = s.loader ∧ (enterRelease s).signals = s.signals ∧ (enterRelease s).freeCount = s.freeCount ∧ (enterRelease s).pending = s.pending := by
  unfold enterRelease
  refine ⟨?_, ?_, ?_, ?_, ?_, ?_⟩ <;> (try dsimp only) <;> (repeat' split) <;> simp

@[simp] theorem enterLeader_keeps (s : State) :
    (enterLeader s).links = s.links ∧ (enterLeader s).loader = s.loader ∧ (enterLeader s).signals = s.signals ∧ (enterLeader s).freeCount = s.freeCount ∧ (enterLeader s).pending = s.pending := by
  unfold enterLeader
  refine ⟨?_, ?_, ?_, ?_, ?_⟩ <;> (try dsimp only) <;> (repeat' split) <;> simp

@[simp] theorem beginUnloadRewind_keeps (s : State) :
    (beginUnloadRewind s).links = s.links ∧ (beginUnloadRewind s).loader = s.loader ∧ (beginUnloadRewind s).signals = s.signals ∧ (beginUnloadRewind s).freeCount = s.freeCount ∧ (beginUnloadRewind s).pending = s.pending := by
  unfold beginUnloadRewind
  refine ⟨?_, ?_, ?_, ?_, ?_⟩ <;> (try dsimp only) <;> (repeat' split) <;> simp

@[simp] theorem beginLoad_keeps (origin : SeekOrigin) (s : State) :
    (beginLoad origin s).generator = s.generator ∧ (beginLoad origin s).links = s.links ∧ (beginLoad origin s).signals = s.signals ∧ (beginLoad origin s).freeCount = s.freeCount ∧ (beginLoad origin s).pending = s.pending := by
  unfold beginLoad
  refine ⟨?_, ?_, ?_, ?_, ?_⟩ <;> (try dsimp only) <;> (repeat' split) <;> simp

@[simp] theorem takeLoad_keeps (s : State) :
    (takeLoad s).generator = s.generator ∧ (takeLoad s).links = s.links ∧ (takeLoad s).signals = s.signals ∧ (takeLoad s).freeCount = s.freeCount ∧ (takeLoad s).pending = s.pending := by
  unfold takeLoad
  refine ⟨?_, ?_, ?_, ?_, ?_⟩ <;> (try dsimp only) <;> (repeat' split) <;> simp

@[simp] theorem takeRewind_keeps (s : State) :
    (takeRewind s).links = s.links ∧ (takeRewind s).loader = s.loader ∧ (takeRewind s).signals = s.signals ∧ (takeRewind s).freeCount = s.freeCount ∧ (takeRewind s).pending = s.pending := by
  unfold takeRewind
  refine ⟨?_, ?_, ?_, ?_, ?_⟩ <;> (try dsimp only) <;> (repeat' split) <;> simp

@[simp] theorem takeUnload_keeps (s : State) :
    (takeUnload s).links = s.links ∧ (takeUnload s).loader = s.loader ∧ (takeUnload s).signals = s.signals ∧ (takeUnload s).freeCount = s.freeCount ∧ (takeUnload s).pending = s.pending := by
  unfold takeUnload
  refine ⟨?_, ?_, ?_, ?_, ?_⟩ <;> (try dsimp only) <;> (repeat' split) <;> simp

@[simp] theorem enterLoops_keeps (s : State) :
    (enterLoops s).tracker = s.tracker ∧ (enterLoops s).generator = s.generator ∧ (enterLoops s).links = s.links ∧ (enterLoops s).intake = s.intake ∧ (enterLoops s).path = s.path ∧ (enterLoops s).loader = s.loader ∧ (enterLoops s).signals = s.signals ∧ (enterLoops s).freeCount = s.freeCount ∧ (enterLoops s).pending = s.pending := by
  unfold enterLoops
  refine ⟨?_, ?_, ?_, ?_, ?_, ?_, ?_, ?_, ?_⟩ <;> (try dsimp only) <;> (repeat' split) <;> simp

@[simp] theorem vacuumCheck_keeps (s : State) :
    (vacuumCheck s).tracker = s.tracker ∧ (vacuumCheck s).generator = s.generator ∧ (vacuumCheck s).links = s.links ∧ (vacuumCheck s).intake = s.intake ∧ (vacuumCheck s).path = s.path ∧ (vacuumCheck s).loader = s.loader ∧ (vacuumCheck s).signals = s.signals ∧ (vacuumCheck s).freeCount = s.freeCount ∧ (vacuumCheck s).pending = s.pending := by
  unfold vacuumCheck
  refine ⟨?_, ?_, ?_, ?_, ?_, ?_, ?_, ?_, ?_⟩ <;> (try dsimp only) <;> (repeat' split) <;> simp

@[simp] theorem beginFinalCreep_keeps (s : State) :
    (beginFinalCreep s).tracker = s.tracker ∧ (beginFinalCreep s).links = s.links ∧ (beginFinalCreep s).sensors = s.sensors ∧ (beginFinalCreep s).intake = s.intake ∧ (beginFinalCreep s).loader = s.loader ∧ (beginFinalCreep s).reporter = s.reporter ∧ (beginFinalCreep s).signals = s.signals ∧ (beginFinalCreep s).freeCount = s.freeCount ∧ (beginFinalCreep s).pending = s.pending := by
  unfold beginFinalCreep
  refine ⟨?_, ?_, ?_, ?_, ?_, ?_, ?_, ?_, ?_⟩ <;> (try dsimp only) <;> (repeat' split) <;> simp

@[simp] theorem enterSeek_keeps (s : State) :
    (enterSeek s).tracker = s.tracker ∧ (enterSeek s).links = s.links ∧ (enterSeek s).intake = s.intake ∧ (enterSeek s).loader = s.loader ∧ (enterSeek s).signals = s.signals ∧ (enterSeek s).freeCount = s.freeCount ∧ (enterSeek s).pending = s.pending := by
  unfold enterSeek
  refine ⟨?_, ?_, ?_, ?_, ?_, ?_, ?_⟩ <;> (try dsimp only) <;> (repeat' split) <;> simp

@[simp] theorem failLoad_keeps (r : Reason) (s : State) :
    (failLoad r s).generator = s.generator ∧ (failLoad r s).links = s.links ∧ (failLoad r s).loader = s.loader ∧ (failLoad r s).signals = s.signals ∧ (failLoad r s).freeCount = s.freeCount ∧ (failLoad r s).pending = s.pending := by
  unfold failLoad
  refine ⟨?_, ?_, ?_, ?_, ?_, ?_⟩ <;> (try dsimp only) <;> (repeat' split) <;> simp

@[simp] theorem completeLoad_keeps (s : State) :
    (completeLoad s).generator = s.generator ∧ (completeLoad s).links = s.links ∧ (completeLoad s).loader = s.loader ∧ (completeLoad s).signals = s.signals ∧ (completeLoad s).freeCount = s.freeCount ∧ (completeLoad s).pending = s.pending := by
  unfold completeLoad
  refine ⟨?_, ?_, ?_, ?_, ?_, ?_⟩ <;> (try dsimp only) <;> (repeat' split) <;> simp

@[simp] theorem completeRewind_keeps (s : State) :
    (completeRewind s).generator = s.generator ∧ (completeRewind s).links = s.links ∧ (completeRewind s).loader = s.loader ∧ (completeRewind s).signals = s.signals ∧ (completeRewind s).freeCount = s.freeCount ∧ (completeRewind s).pending = s.pending := by
  unfold completeRewind
  refine ⟨?_, ?_, ?_, ?_, ?_, ?_⟩ <;> (try dsimp only) <;> (repeat' split) <;> simp

@[simp] theorem seekMarker_keeps (l : SeekLeg) (s : State) :
    (seekMarker l s).tracker = s.tracker ∧ (seekMarker l s).links = s.links ∧ (seekMarker l s).sensors = s.sensors ∧ (seekMarker l s).intake = s.intake ∧ (seekMarker l s).loader = s.loader ∧ (seekMarker l s).freeCount = s.freeCount ∧ (seekMarker l s).pending = s.pending := by
  unfold seekMarker
  refine ⟨?_, ?_, ?_, ?_, ?_, ?_, ?_⟩ <;> (try dsimp only) <;> (repeat' split) <;> simp

@[simp] theorem rewindMarker_keeps (r : RewindStep) (s : State) :
    (rewindMarker r s).tracker = s.tracker ∧ (rewindMarker r s).links = s.links ∧ (rewindMarker r s).intake = s.intake ∧ (rewindMarker r s).loader = s.loader ∧ (rewindMarker r s).freeCount = s.freeCount ∧ (rewindMarker r s).pending = s.pending := by
  unfold rewindMarker
  refine ⟨?_, ?_, ?_, ?_, ?_, ?_⟩ <;> (try dsimp only) <;> (repeat' split) <;> simp

@[simp] theorem botQualified_keeps (d : Direction) (s : State) :
    (botQualified d s).links = s.links ∧ (botQualified d s).loader = s.loader ∧ (botQualified d s).freeCount = s.freeCount ∧ (botQualified d s).pending = s.pending := by
  unfold botQualified
  refine ⟨?_, ?_, ?_, ?_⟩ <;> (try dsimp only) <;> (repeat' split) <;> simp

@[simp] theorem eotQualified_keeps (d : Direction) (s : State) :
    (eotQualified d s).tracker = s.tracker ∧ (eotQualified d s).generator = s.generator ∧ (eotQualified d s).servos = s.servos ∧ (eotQualified d s).links = s.links ∧ (eotQualified d s).sensors = s.sensors ∧ (eotQualified d s).intake = s.intake ∧ (eotQualified d s).path = s.path ∧ (eotQualified d s).loader = s.loader ∧ (eotQualified d s).signals = s.signals ∧ (eotQualified d s).freeCount = s.freeCount ∧ (eotQualified d s).pending = s.pending := by
  unfold eotQualified
  refine ⟨?_, ?_, ?_, ?_, ?_, ?_, ?_, ?_, ?_, ?_, ?_⟩ <;> (try dsimp only) <;> (repeat' split) <;> simp

@[simp] theorem markerQualified_keeps (m : Marker) (d : Direction) (s : State) :
    (markerQualified m d s).links = s.links ∧ (markerQualified m d s).loader = s.loader ∧ (markerQualified m d s).freeCount = s.freeCount ∧ (markerQualified m d s).pending = s.pending := by
  unfold markerQualified
  refine ⟨?_, ?_, ?_, ?_⟩ <;> (try dsimp only) <;> (repeat' split) <;> simp

@[simp] theorem botLeft_keeps (s : State) :
    (botLeft s).tracker = s.tracker ∧ (botLeft s).links = s.links ∧ (botLeft s).sensors = s.sensors ∧ (botLeft s).intake = s.intake ∧ (botLeft s).loader = s.loader ∧ (botLeft s).freeCount = s.freeCount ∧ (botLeft s).pending = s.pending := by
  unfold botLeft
  refine ⟨?_, ?_, ?_, ?_, ?_, ?_, ?_⟩ <;> (try dsimp only) <;> (repeat' split) <;> simp

@[simp] theorem cutOrder_keeps (o : Outcome) (r : Reason) (keepAnchor : Bool) (s : State) :
    (cutOrder o r keepAnchor s).links = s.links ∧ (cutOrder o r keepAnchor s).loader = s.loader ∧ (cutOrder o r keepAnchor s).freeCount = s.freeCount ∧ (cutOrder o r keepAnchor s).pending = s.pending := by
  unfold cutOrder
  refine ⟨?_, ?_, ?_, ?_⟩ <;> (try dsimp only) <;> (repeat' split) <;> simp

@[simp] theorem emergencyStop_keeps (s : State) :
    (emergencyStop s).links = s.links ∧ (emergencyStop s).loader = s.loader ∧ (emergencyStop s).freeCount = s.freeCount ∧ (emergencyStop s).pending = s.pending := by
  unfold emergencyStop
  refine ⟨?_, ?_, ?_, ?_⟩ <;> (try dsimp only) <;> (repeat' split) <;> simp

@[simp] theorem beginOrder_keeps (o : OrderCode) (slot : Fin 8) (n : Nat) (s : State) :
    (beginOrder o slot n s).links = s.links ∧ (beginOrder o slot n s).loader = s.loader ∧ (beginOrder o slot n s).freeCount = s.freeCount ∧ (beginOrder o slot n s).pending = s.pending := by
  unfold beginOrder
  refine ⟨?_, ?_, ?_, ?_⟩ <;> (try dsimp only) <;> (repeat' split) <;> simp

@[simp] theorem takeMotionOrder_keeps (o : OrderCode) (slot : Fin 8) (n : Nat) (s : State) :
    (takeMotionOrder o slot n s).links = s.links ∧ (takeMotionOrder o slot n s).loader = s.loader ∧ (takeMotionOrder o slot n s).freeCount = s.freeCount ∧ (takeMotionOrder o slot n s).pending = s.pending := by
  unfold takeMotionOrder
  refine ⟨?_, ?_, ?_, ?_⟩ <;> (try dsimp only) <;> (repeat' split) <;> simp

@[simp] theorem takeRunning_keeps (s : State) :
    (takeRunning s).links = s.links ∧ (takeRunning s).freeCount = s.freeCount ∧ (takeRunning s).pending = s.pending := by
  unfold takeRunning
  refine ⟨?_, ?_, ?_⟩ <;> (try dsimp only) <;> (repeat' split) <;> simp

@[simp] theorem anchorAtStop_keeps (s : State) :
    (anchorAtStop s).tracker = s.tracker ∧ (anchorAtStop s).generator = s.generator ∧ (anchorAtStop s).servos = s.servos ∧ (anchorAtStop s).links = s.links ∧ (anchorAtStop s).sensors = s.sensors ∧ (anchorAtStop s).intake = s.intake ∧ (anchorAtStop s).path = s.path ∧ (anchorAtStop s).loader = s.loader ∧ (anchorAtStop s).reporter = s.reporter ∧ (anchorAtStop s).signals = s.signals ∧ (anchorAtStop s).freeCount = s.freeCount ∧ (anchorAtStop s).pending = s.pending := by
  unfold anchorAtStop
  refine ⟨?_, ?_, ?_, ?_, ?_, ?_, ?_, ?_, ?_, ?_, ?_, ?_⟩ <;> (try dsimp only) <;> (repeat' split) <;> simp

@[simp] theorem armIfNoticed_keeps (noticed : Bool) (s : State) :
    (armIfNoticed noticed s).links = s.links ∧ (armIfNoticed noticed s).loader = s.loader ∧ (armIfNoticed noticed s).freeCount = s.freeCount ∧ (armIfNoticed noticed s).pending = s.pending := by
  unfold armIfNoticed
  refine ⟨?_, ?_, ?_, ?_⟩ <;> (try dsimp only) <;> (repeat' split) <;> simp

@[simp] theorem writeAtStopped_keeps (s : State) :
    (writeAtStopped s).links = s.links ∧ (writeAtStopped s).loader = s.loader ∧ (writeAtStopped s).freeCount = s.freeCount ∧ (writeAtStopped s).pending = s.pending := by
  unfold writeAtStopped
  refine ⟨?_, ?_, ?_, ?_⟩ <;> (try dsimp only) <;> (repeat' split) <;> simp

@[simp] theorem readAtStopped_keeps (o : OrderCode) (s : State) :
    (readAtStopped o s).links = s.links ∧ (readAtStopped o s).loader = s.loader ∧ (readAtStopped o s).signals = s.signals ∧ (readAtStopped o s).freeCount = s.freeCount ∧ (readAtStopped o s).pending = s.pending := by
  unfold readAtStopped
  refine ⟨?_, ?_, ?_, ?_, ?_⟩ <;> (try dsimp only) <;> (repeat' split) <;> simp

@[simp] theorem goOnAtStopped_keeps (o : OrderCode) (s : State) :
    (goOnAtStopped o s).links = s.links ∧ (goOnAtStopped o s).loader = s.loader ∧ (goOnAtStopped o s).freeCount = s.freeCount ∧ (goOnAtStopped o s).pending = s.pending := by
  unfold goOnAtStopped
  refine ⟨?_, ?_, ?_, ?_⟩ <;> (try dsimp only) <;> (repeat' split) <;> simp

@[simp] theorem endAtStopped_keeps (f : FixedOutcome) (s : State) :
    (endAtStopped f s).generator = s.generator ∧ (endAtStopped f s).servos = s.servos ∧ (endAtStopped f s).links = s.links ∧ (endAtStopped f s).sensors = s.sensors ∧ (endAtStopped f s).loader = s.loader ∧ (endAtStopped f s).signals = s.signals ∧ (endAtStopped f s).freeCount = s.freeCount ∧ (endAtStopped f s).pending = s.pending := by
  unfold endAtStopped
  refine ⟨?_, ?_, ?_, ?_, ?_, ?_, ?_, ?_⟩ <;> (try dsimp only) <;> (repeat' split) <;> simp

@[simp] theorem orderAtStopped_keeps (s : State) :
    (orderAtStopped s).links = s.links ∧ (orderAtStopped s).freeCount = s.freeCount ∧ (orderAtStopped s).pending = s.pending := by
  unfold orderAtStopped
  refine ⟨?_, ?_, ?_⟩ <;> (try dsimp only) <;> (repeat' split) <;> simp

@[simp] theorem reachStopped_keeps (s : State) :
    (reachStopped s).links = s.links ∧ (reachStopped s).freeCount = s.freeCount ∧ (reachStopped s).pending = s.pending := by
  unfold reachStopped
  refine ⟨?_, ?_, ?_⟩ <;> (try dsimp only) <;> (repeat' split) <;> simp

@[simp] theorem haltStopEnded_keeps (s : State) :
    (haltStopEnded s).links = s.links ∧ (haltStopEnded s).freeCount = s.freeCount ∧ (haltStopEnded s).pending = s.pending := by
  unfold haltStopEnded
  refine ⟨?_, ?_, ?_⟩ <;> (try dsimp only) <;> (repeat' split) <;> simp

@[simp] theorem seekStopEnded_keeps (s : State) :
    (seekStopEnded s).links = s.links ∧ (seekStopEnded s).loader = s.loader ∧ (seekStopEnded s).signals = s.signals ∧ (seekStopEnded s).freeCount = s.freeCount ∧ (seekStopEnded s).pending = s.pending := by
  unfold seekStopEnded
  refine ⟨?_, ?_, ?_, ?_, ?_⟩ <;> (try dsimp only) <;> (repeat' split) <;> simp

@[simp] theorem rewindStopEnded_keeps (s : State) :
    (rewindStopEnded s).links = s.links ∧ (rewindStopEnded s).freeCount = s.freeCount ∧ (rewindStopEnded s).pending = s.pending := by
  unfold rewindStopEnded
  refine ⟨?_, ?_, ?_⟩ <;> (try dsimp only) <;> (repeat' split) <;> simp

@[simp] theorem unloadStopEnded_keeps (s : State) :
    (unloadStopEnded s).links = s.links ∧ (unloadStopEnded s).loader = s.loader ∧ (unloadStopEnded s).signals = s.signals ∧ (unloadStopEnded s).freeCount = s.freeCount ∧ (unloadStopEnded s).pending = s.pending := by
  unfold unloadStopEnded
  refine ⟨?_, ?_, ?_, ?_, ?_⟩ <;> (try dsimp only) <;> (repeat' split) <;> simp

@[simp] theorem stopEnded_keeps (s : State) :
    (stopEnded s).links = s.links ∧ (stopEnded s).freeCount = s.freeCount ∧ (stopEnded s).pending = s.pending := by
  unfold stopEnded
  refine ⟨?_, ?_, ?_⟩ <;> (try dsimp only) <;> (repeat' split) <;> simp

@[simp] theorem startEnded_keeps (s : State) :
    (startEnded s).tracker = s.tracker ∧ (startEnded s).generator = s.generator ∧ (startEnded s).links = s.links ∧ (startEnded s).intake = s.intake ∧ (startEnded s).path = s.path ∧ (startEnded s).loader = s.loader ∧ (startEnded s).signals = s.signals ∧ (startEnded s).freeCount = s.freeCount ∧ (startEnded s).pending = s.pending := by
  unfold startEnded
  refine ⟨?_, ?_, ?_, ?_, ?_, ?_, ?_, ?_, ?_⟩ <;> (try dsimp only) <;> (repeat' split) <;> simp

@[simp] theorem creepReached_keeps (s : State) :
    (creepReached s).tracker = s.tracker ∧ (creepReached s).generator = s.generator ∧ (creepReached s).links = s.links ∧ (creepReached s).intake = s.intake ∧ (creepReached s).path = s.path ∧ (creepReached s).loader = s.loader ∧ (creepReached s).signals = s.signals ∧ (creepReached s).freeCount = s.freeCount ∧ (creepReached s).pending = s.pending := by
  unfold creepReached
  refine ⟨?_, ?_, ?_, ?_, ?_, ?_, ?_, ?_, ?_⟩ <;> (try dsimp only) <;> (repeat' split) <;> simp

@[simp] theorem profileFaulted_keeps (stopping : Bool) (s : State) :
    (profileFaulted stopping s).generator = s.generator ∧ (profileFaulted stopping s).links = s.links ∧ (profileFaulted stopping s).loader = s.loader ∧ (profileFaulted stopping s).signals = s.signals ∧ (profileFaulted stopping s).freeCount = s.freeCount ∧ (profileFaulted stopping s).pending = s.pending := by
  unfold profileFaulted
  refine ⟨?_, ?_, ?_, ?_, ?_, ?_⟩ <;> (try dsimp only) <;> (repeat' split) <;> simp

@[simp] theorem handleSignal_keeps (g : Signal) (s : State) :
    (handleSignal g s).links = s.links ∧ (handleSignal g s).freeCount = s.freeCount ∧ (handleSignal g s).pending = s.pending := by
  unfold handleSignal
  refine ⟨?_, ?_, ?_⟩ <;> (try dsimp only) <;> (repeat' split) <;> simp

theorem heldRelease_keeps {s t : State} (e : heldRelease s = some t) : t.links = s.links ∧ t.pending = s.pending := by
  unfold heldRelease at e
  repeat' (first | split at e | (dsimp only at e; split at e))
  all_goals first | (simp at e; done) | (cases Option.some.inj e; simp)

theorem decisionDue_keeps {s t : State} (e : decisionDue s = some t) : t.links = s.links ∧ t.pending = s.pending := by
  unfold decisionDue at e
  repeat' (first | split at e | (dsimp only at e; split at e))
  all_goals first | (simp at e; done) | (cases Option.some.inj e; simp)

theorem noShowDue_keeps {s t : State} (e : noShowDue s = some t) : t.links = s.links ∧ t.pending = s.pending := by
  unfold noShowDue at e
  repeat' (first | split at e | (dsimp only at e; split at e))
  all_goals first | (simp at e; done) | (cases Option.some.inj e; simp)

theorem eraseDue_keeps {s t : State} (e : eraseDue s = some t) : t.links = s.links ∧ t.pending = s.pending := by
  unfold eraseDue at e
  repeat' (first | split at e | (dsimp only at e; split at e))
  all_goals first | (simp at e; done) | (cases Option.some.inj e; simp)

theorem repositionDue_keeps {s t : State} (e : repositionDue s = some t) : t.links = s.links ∧ t.pending = s.pending := by
  unfold repositionDue at e
  repeat' (first | split at e | (dsimp only at e; split at e))
  all_goals first | (simp at e; done) | (cases Option.some.inj e; simp)

theorem blankDue_keeps {s t : State} (e : blankDue s = some t) : t.links = s.links ∧ t.pending = s.pending := by
  unfold blankDue at e
  repeat' (first | split at e | (dsimp only at e; split at e))
  all_goals first | (simp at e; done) | (cases Option.some.inj e; simp)

theorem botDue_keeps {s t : State} (e : botDue s = some t) : t.links = s.links ∧ t.pending = s.pending := by
  unfold botDue at e
  repeat' (first | split at e | (dsimp only at e; split at e))
  all_goals first | (simp at e; done) | (cases Option.some.inj e; simp)

theorem eotDue_keeps {s t : State} (e : eotDue s = some t) : t.links = s.links ∧ t.pending = s.pending := by
  unfold eotDue at e
  repeat' (first | split at e | (dsimp only at e; split at e))
  all_goals first | (simp at e; done) | (cases Option.some.inj e; simp)

theorem rewindNear_keeps {s t : State} (e : rewindNear s = some t) : t.links = s.links ∧ t.pending = s.pending := by
  unfold rewindNear at e
  repeat' (first | split at e | (dsimp only at e; split at e))
  all_goals first | (simp at e; done) | (cases Option.some.inj e; simp)

theorem rewindLimit_keeps {s t : State} (e : rewindLimit s = some t) : t.links = s.links ∧ t.pending = s.pending := by
  unfold rewindLimit at e
  repeat' (first | split at e | (dsimp only at e; split at e))
  all_goals first | (simp at e; done) | (cases Option.some.inj e; simp)

theorem leaderDue_keeps {s t : State} (e : leaderDue s = some t) : t.links = s.links ∧ t.pending = s.pending := by
  unfold leaderDue at e
  repeat' (first | split at e | (dsimp only at e; split at e))
  all_goals first | (simp at e; done) | (cases Option.some.inj e; simp)

theorem orElse_keeps {P : State → Prop} {a b : Option State} (ha : ∀ t, a = some t → P t) (hb : ∀ t, b = some t → P t) :
    ∀ t, (a <|> b) = some t → P t := by
  intro t e
  cases a with
  | none => exact hb t (by simpa using e)
  | some x => exact ha t (by simpa using e)

theorem positionEvent_keeps {s t : State} (e : positionEvent s = some t) : t.links = s.links ∧ t.pending = s.pending := by
  unfold positionEvent at e
  exact orElse_keeps (P := fun t => t.links = s.links ∧ t.pending = s.pending) (fun _ => heldRelease_keeps)
    (orElse_keeps (fun _ => decisionDue_keeps) (orElse_keeps (fun _ => noShowDue_keeps) (orElse_keeps (fun _ => eraseDue_keeps)
    (orElse_keeps (fun _ => repositionDue_keeps) (orElse_keeps (fun _ => blankDue_keeps) (orElse_keeps (fun _ => botDue_keeps)
    (orElse_keeps (fun _ => eotDue_keeps) (orElse_keeps (fun _ => rewindNear_keeps) (orElse_keeps (fun _ => rewindLimit_keeps)
    (fun _ => leaderDue_keeps)))))))))) t e

@[simp] theorem setActive_keeps (a : ActiveSet) (s : State) :
    (setActive a s).tracker = s.tracker ∧ (setActive a s).sequencer = s.sequencer ∧ (setActive a s).servos = s.servos ∧ (setActive a s).links = s.links ∧ (setActive a s).sensors = s.sensors ∧ (setActive a s).intake = s.intake ∧ (setActive a s).path = s.path ∧ (setActive a s).loader = s.loader ∧ (setActive a s).signals = s.signals ∧ (setActive a s).freeCount = s.freeCount ∧ (setActive a s).pending = s.pending := by
  unfold setActive
  refine ⟨?_, ?_, ?_, ?_, ?_, ?_, ?_, ?_, ?_, ?_, ?_⟩ <;> (try dsimp only) <;> (repeat' split) <;> simp

@[simp] theorem settleLoad_keeps (s : State) :
    (settleLoad s).tracker = s.tracker ∧ (settleLoad s).generator = s.generator ∧ (settleLoad s).servos = s.servos ∧ (settleLoad s).links = s.links ∧ (settleLoad s).sensors = s.sensors ∧ (settleLoad s).intake = s.intake ∧ (settleLoad s).path = s.path ∧ (settleLoad s).loader = s.loader ∧ (settleLoad s).reporter = s.reporter ∧ (settleLoad s).signals = s.signals ∧ (settleLoad s).freeCount = s.freeCount ∧ (settleLoad s).pending = s.pending := by
  unfold settleLoad
  refine ⟨?_, ?_, ?_, ?_, ?_, ?_, ?_, ?_, ?_, ?_, ?_, ?_⟩ <;> (try dsimp only) <;> (repeat' split) <;> simp

@[simp] theorem rejectSet_keeps (c : Characterization) (chain : Nat) (segments : Nat) (why : CharactReason) (s : State) :
    (rejectSet c chain segments why s).tracker = s.tracker ∧ (rejectSet c chain segments why s).servos = s.servos ∧ (rejectSet c chain segments why s).links = s.links ∧ (rejectSet c chain segments why s).sensors = s.sensors ∧ (rejectSet c chain segments why s).path = s.path ∧ (rejectSet c chain segments why s).loader = s.loader ∧ (rejectSet c chain segments why s).signals = s.signals ∧ (rejectSet c chain segments why s).freeCount = s.freeCount ∧ (rejectSet c chain segments why s).pending = s.pending := by
  unfold rejectSet
  refine ⟨?_, ?_, ?_, ?_, ?_, ?_, ?_, ?_, ?_⟩ <;> (try dsimp only) <;> (repeat' split) <;> simp

@[simp] theorem acceptSet_keeps (c : Characterization) (s : State) :
    (acceptSet c s).tracker = s.tracker ∧ (acceptSet c s).servos = s.servos ∧ (acceptSet c s).links = s.links ∧ (acceptSet c s).sensors = s.sensors ∧ (acceptSet c s).path = s.path ∧ (acceptSet c s).loader = s.loader ∧ (acceptSet c s).signals = s.signals ∧ (acceptSet c s).freeCount = s.freeCount ∧ (acceptSet c s).pending = s.pending := by
  unfold acceptSet
  refine ⟨?_, ?_, ?_, ?_, ?_, ?_, ?_, ?_, ?_⟩ <;> (try dsimp only) <;> (repeat' split) <;> simp

@[simp] theorem beginCharact_keeps (source : Nat) (slot : Option (Fin 8)) (s : State) :
    (beginCharact source slot s).tracker = s.tracker ∧ (beginCharact source slot s).servos = s.servos ∧ (beginCharact source slot s).links = s.links ∧ (beginCharact source slot s).sensors = s.sensors ∧ (beginCharact source slot s).loader = s.loader ∧ (beginCharact source slot s).signals = s.signals ∧ (beginCharact source slot s).freeCount = s.freeCount ∧ (beginCharact source slot s).pending = s.pending := by
  unfold beginCharact
  refine ⟨?_, ?_, ?_, ?_, ?_, ?_, ?_, ?_⟩ <;> (try dsimp only) <;> (repeat' split) <;> simp

@[simp] theorem settleNow_keeps (source : Nat) (s : State) :
    (settleNow source s).tracker = s.tracker ∧ (settleNow source s).servos = s.servos ∧ (settleNow source s).links = s.links ∧ (settleNow source s).sensors = s.sensors ∧ (settleNow source s).loader = s.loader ∧ (settleNow source s).signals = s.signals ∧ (settleNow source s).freeCount = s.freeCount ∧ (settleNow source s).pending = s.pending := by
  unfold settleNow
  refine ⟨?_, ?_, ?_, ?_, ?_, ?_, ?_, ?_⟩ <;> (try dsimp only) <;> (repeat' split) <;> simp

@[simp] theorem settleActive_keeps (source : Nat) (s : State) :
    (settleActive source s).tracker = s.tracker ∧ (settleActive source s).servos = s.servos ∧ (settleActive source s).links = s.links ∧ (settleActive source s).sensors = s.sensors ∧ (settleActive source s).loader = s.loader ∧ (settleActive source s).signals = s.signals ∧ (settleActive source s).freeCount = s.freeCount ∧ (settleActive source s).pending = s.pending := by
  unfold settleActive
  refine ⟨?_, ?_, ?_, ?_, ?_, ?_, ?_, ?_⟩ <;> (try dsimp only) <;> (repeat' split) <;> simp

theorem settlementDue_keeps {s t : State} (e : settlementDue s = some t) :
    t.tracker = s.tracker ∧ t.links = s.links ∧ t.loader = s.loader ∧ t.signals = s.signals ∧ t.freeCount = s.freeCount ∧ t.pending = s.pending := by
  unfold settlementDue at e
  split at e
  · split at e
    · cases Option.some.inj e; simp
    · simp at e
  · simp at e

@[simp] theorem afterCharact_keeps (s : State) :
    (afterCharact s).tracker = s.tracker ∧ (afterCharact s).links = s.links ∧ (afterCharact s).loader = s.loader ∧ (afterCharact s).signals = s.signals ∧ (afterCharact s).freeCount = s.freeCount ∧ (afterCharact s).pending = s.pending := by
  unfold afterCharact
  split
  · next e => have k := settlementDue_keeps e; simp [k]
  · simp

theorem settlementEvent_keeps {s t : State} (e : settlementEvent s = some t) : t.links = s.links ∧ t.pending = s.pending := by
  unfold settlementEvent at e
  obtain ⟨a, ha, rfl⟩ := Option.map_eq_some_iff.mp e
  have k := settlementDue_keeps ha
  simp [k]

theorem handOverEvent_keeps {s t : State} (e : handOverEvent s = some t) : t.links = s.links ∧ t.pending = s.pending := by
  unfold handOverEvent at e
  obtain ⟨a, _, rfl⟩ := Option.map_eq_some_iff.mp e
  simp

theorem reactOnce_keeps {s t : State} (e : reactOnce s = some t) : t.links = s.links ∧ t.pending = s.pending := by
  unfold reactOnce at e
  split at e
  · cases Option.some.inj e; simp
  · exact orElse_keeps (P := fun t => t.links = s.links ∧ t.pending = s.pending) (fun _ => positionEvent_keeps)
      (orElse_keeps (fun _ => settlementEvent_keeps) (fun _ => handOverEvent_keeps)) t e

@[simp] theorem react_keeps (n : Nat) (s : State) : (react n s).links = s.links ∧ (react n s).pending = s.pending := by
  induction n generalizing s with
  | zero => exact ⟨rfl, rfl⟩
  | succ n ih =>
    unfold react
    split
    · next e => have k := reactOnce_keeps e; exact ⟨(ih _).1.trans k.1, (ih _).2.trans k.2⟩
    · exact ⟨rfl, rfl⟩

@[simp] theorem finishEvent_keeps (s : State) :
    (finishEvent s).links = s.links ∧ (finishEvent s).pending = s.pending := by
  unfold finishEvent
  refine ⟨?_, ?_⟩ <;> (try dsimp only) <;> (repeat' split) <;> simp

@[simp] theorem beginWalk_keeps (i : Fin 6) (c : Characterization) (s : State) :
    (beginWalk i c s).tracker = s.tracker ∧ (beginWalk i c s).sequencer = s.sequencer ∧ (beginWalk i c s).servos = s.servos ∧ (beginWalk i c s).links = s.links ∧ (beginWalk i c s).sensors = s.sensors ∧ (beginWalk i c s).intake = s.intake ∧ (beginWalk i c s).loader = s.loader ∧ (beginWalk i c s).reporter = s.reporter ∧ (beginWalk i c s).signals = s.signals ∧ (beginWalk i c s).freeCount = s.freeCount ∧ (beginWalk i c s).pending = s.pending := by
  unfold beginWalk
  refine ⟨?_, ?_, ?_, ?_, ?_, ?_, ?_, ?_, ?_, ?_, ?_⟩ <;> (try dsimp only) <;> (repeat' split) <;> simp

@[simp] theorem headerArrives_keeps (c : Characterization) (ws : Vector Word 8) (s : State) :
    (headerArrives c ws s).tracker = s.tracker ∧ (headerArrives c ws s).servos = s.servos ∧ (headerArrives c ws s).links = s.links ∧ (headerArrives c ws s).sensors = s.sensors ∧ (headerArrives c ws s).loader = s.loader ∧ (headerArrives c ws s).signals = s.signals ∧ (headerArrives c ws s).freeCount = s.freeCount ∧ (headerArrives c ws s).pending = s.pending := by
  unfold headerArrives
  refine ⟨?_, ?_, ?_, ?_, ?_, ?_, ?_, ?_⟩ <;> (try dsimp only) <;> (repeat' split) <;> simp

@[simp] theorem chainWalked_keeps (c : Characterization) (a : Walk) (s : State) :
    (chainWalked c a s).tracker = s.tracker ∧ (chainWalked c a s).servos = s.servos ∧ (chainWalked c a s).links = s.links ∧ (chainWalked c a s).sensors = s.sensors ∧ (chainWalked c a s).loader = s.loader ∧ (chainWalked c a s).signals = s.signals ∧ (chainWalked c a s).freeCount = s.freeCount ∧ (chainWalked c a s).pending = s.pending := by
  unfold chainWalked
  refine ⟨?_, ?_, ?_, ?_, ?_, ?_, ?_, ?_⟩ <;> (try dsimp only) <;> (repeat' split) <;> simp

@[simp] theorem walkArrives_keeps (c : Characterization) (w : Segment) (s : State) :
    (walkArrives c w s).tracker = s.tracker ∧ (walkArrives c w s).servos = s.servos ∧ (walkArrives c w s).links = s.links ∧ (walkArrives c w s).sensors = s.sensors ∧ (walkArrives c w s).loader = s.loader ∧ (walkArrives c w s).signals = s.signals ∧ (walkArrives c w s).freeCount = s.freeCount ∧ (walkArrives c w s).pending = s.pending := by
  unfold walkArrives
  refine ⟨?_, ?_, ?_, ?_, ?_, ?_, ?_, ?_⟩ <;> (try dsimp only) <;> (repeat' split) <;> simp

@[simp] theorem charactAnswered_keeps (answer : OwnAnswer) (s : State) :
    (charactAnswered answer s).tracker = s.tracker ∧ (charactAnswered answer s).links = s.links ∧ (charactAnswered answer s).loader = s.loader ∧ (charactAnswered answer s).signals = s.signals ∧ (charactAnswered answer s).freeCount = s.freeCount ∧ (charactAnswered answer s).pending = s.pending := by
  unfold charactAnswered
  refine ⟨?_, ?_, ?_, ?_, ?_, ?_⟩ <;> (try dsimp only) <;> (repeat' split) <;> simp

@[simp] theorem takePending_keeps (p : PendingSet) (s : State) :
    (takePending p s).tracker = s.tracker ∧ (takePending p s).servos = s.servos ∧ (takePending p s).links = s.links ∧ (takePending p s).sensors = s.sensors ∧ (takePending p s).loader = s.loader ∧ (takePending p s).signals = s.signals ∧ (takePending p s).freeCount = s.freeCount ∧ (takePending p s).pending = s.pending := by
  unfold takePending
  refine ⟨?_, ?_, ?_, ?_, ?_, ?_, ?_, ?_⟩ <;> (try dsimp only) <;> (repeat' split) <;> simp

@[simp] theorem selectSet_keeps (source : Option Nat) (slot : Fin 8) (s : State) :
    (selectSet source slot s).tracker = s.tracker ∧ (selectSet source slot s).sequencer = s.sequencer ∧ (selectSet source slot s).servos = s.servos ∧ (selectSet source slot s).links = s.links ∧ (selectSet source slot s).sensors = s.sensors ∧ (selectSet source slot s).path = s.path ∧ (selectSet source slot s).loader = s.loader ∧ (selectSet source slot s).signals = s.signals ∧ (selectSet source slot s).freeCount = s.freeCount ∧ (selectSet source slot s).pending = s.pending := by
  unfold selectSet
  refine ⟨?_, ?_, ?_, ?_, ?_, ?_, ?_, ?_, ?_, ?_⟩ <;> (try dsimp only) <;> (repeat' split) <;> simp

@[simp] theorem dropSelections_keeps (s : State) :
    (dropSelections s).links = s.links ∧ (dropSelections s).loader = s.loader ∧ (dropSelections s).freeCount = s.freeCount ∧ (dropSelections s).pending = s.pending := by
  unfold dropSelections
  refine ⟨?_, ?_, ?_, ?_⟩ <;> (try dsimp only) <;> (repeat' split) <;> simp

@[simp] theorem setSetupResult_keeps (f : SetupResult → SetupResult) (s : State) :
    (setSetupResult f s).tracker = s.tracker ∧ (setSetupResult f s).sequencer = s.sequencer ∧ (setSetupResult f s).generator = s.generator ∧ (setSetupResult f s).servos = s.servos ∧ (setSetupResult f s).links = s.links ∧ (setSetupResult f s).sensors = s.sensors ∧ (setSetupResult f s).intake = s.intake ∧ (setSetupResult f s).path = s.path ∧ (setSetupResult f s).signals = s.signals ∧ (setSetupResult f s).freeCount = s.freeCount ∧ (setSetupResult f s).pending = s.pending := by
  unfold setSetupResult
  refine ⟨?_, ?_, ?_, ?_, ?_, ?_, ?_, ?_, ?_, ?_, ?_⟩ <;> (try dsimp only) <;> (repeat' split) <;> simp

@[simp] theorem completeCommit_keeps (s : State) :
    (completeCommit s).tracker = s.tracker ∧ (completeCommit s).sequencer = s.sequencer ∧ (completeCommit s).generator = s.generator ∧ (completeCommit s).servos = s.servos ∧ (completeCommit s).links = s.links ∧ (completeCommit s).sensors = s.sensors ∧ (completeCommit s).intake = s.intake ∧ (completeCommit s).path = s.path ∧ (completeCommit s).signals = s.signals ∧ (completeCommit s).freeCount = s.freeCount ∧ (completeCommit s).pending = s.pending := by
  unfold completeCommit
  refine ⟨?_, ?_, ?_, ?_, ?_, ?_, ?_, ?_, ?_, ?_, ?_⟩ <;> (try dsimp only) <;> (repeat' split) <;> simp

@[simp] theorem raiseFieldDefaulted_keeps (group count first value : Nat) (s : State) :
    (raiseFieldDefaulted group count first value s).tracker = s.tracker ∧ (raiseFieldDefaulted group count first value s).sequencer = s.sequencer ∧ (raiseFieldDefaulted group count first value s).generator = s.generator ∧ (raiseFieldDefaulted group count first value s).servos = s.servos ∧ (raiseFieldDefaulted group count first value s).links = s.links ∧ (raiseFieldDefaulted group count first value s).sensors = s.sensors ∧ (raiseFieldDefaulted group count first value s).intake = s.intake ∧ (raiseFieldDefaulted group count first value s).path = s.path ∧ (raiseFieldDefaulted group count first value s).loader = s.loader ∧ (raiseFieldDefaulted group count first value s).signals = s.signals ∧ (raiseFieldDefaulted group count first value s).freeCount = s.freeCount ∧ (raiseFieldDefaulted group count first value s).pending = s.pending := by
  unfold raiseFieldDefaulted
  refine ⟨?_, ?_, ?_, ?_, ?_, ?_, ?_, ?_, ?_, ?_, ?_, ?_⟩ <;> (try dsimp only) <;> (repeat' split) <;> simp

@[simp] theorem raiseReadFault_keeps (a : Activity) (addr : Nat) (s : State) :
    (raiseReadFault a addr s).tracker = s.tracker ∧ (raiseReadFault a addr s).sequencer = s.sequencer ∧ (raiseReadFault a addr s).generator = s.generator ∧ (raiseReadFault a addr s).servos = s.servos ∧ (raiseReadFault a addr s).links = s.links ∧ (raiseReadFault a addr s).sensors = s.sensors ∧ (raiseReadFault a addr s).intake = s.intake ∧ (raiseReadFault a addr s).path = s.path ∧ (raiseReadFault a addr s).loader = s.loader ∧ (raiseReadFault a addr s).signals = s.signals ∧ (raiseReadFault a addr s).freeCount = s.freeCount ∧ (raiseReadFault a addr s).pending = s.pending := by
  unfold raiseReadFault
  refine ⟨?_, ?_, ?_, ?_, ?_, ?_, ?_, ?_, ?_, ?_, ?_, ?_⟩ <;> (try dsimp only) <;> (repeat' split) <;> simp

@[simp] theorem raiseDefaults_keeps (a : Activity) (cs : List CheckedField) (s : State) :
    (raiseDefaults a cs s).tracker = s.tracker ∧ (raiseDefaults a cs s).sequencer = s.sequencer ∧ (raiseDefaults a cs s).generator = s.generator ∧ (raiseDefaults a cs s).servos = s.servos ∧ (raiseDefaults a cs s).links = s.links ∧ (raiseDefaults a cs s).sensors = s.sensors ∧ (raiseDefaults a cs s).intake = s.intake ∧ (raiseDefaults a cs s).path = s.path ∧ (raiseDefaults a cs s).loader = s.loader ∧ (raiseDefaults a cs s).signals = s.signals ∧ (raiseDefaults a cs s).freeCount = s.freeCount ∧ (raiseDefaults a cs s).pending = s.pending := by
  unfold raiseDefaults
  refine ⟨?_, ?_, ?_, ?_, ?_, ?_, ?_, ?_, ?_, ?_, ?_, ?_⟩ <;> (try dsimp only) <;> (repeat' split) <;> simp

@[simp] theorem deferGroupA_keeps (reason : Nat) (s : State) :
    (deferGroupA reason s).tracker = s.tracker ∧ (deferGroupA reason s).sequencer = s.sequencer ∧ (deferGroupA reason s).generator = s.generator ∧ (deferGroupA reason s).servos = s.servos ∧ (deferGroupA reason s).links = s.links ∧ (deferGroupA reason s).sensors = s.sensors ∧ (deferGroupA reason s).intake = s.intake ∧ (deferGroupA reason s).path = s.path ∧ (deferGroupA reason s).signals = s.signals ∧ (deferGroupA reason s).freeCount = s.freeCount ∧ (deferGroupA reason s).pending = s.pending := by
  unfold deferGroupA
  refine ⟨?_, ?_, ?_, ?_, ?_, ?_, ?_, ?_, ?_, ?_, ?_⟩ <;> (try dsimp only) <;> (repeat' split) <;> simp

@[simp] theorem publishGroupA_keeps (g : GroupA) (r : GroupResult) (s : State) :
    (publishGroupA g r s).tracker = s.tracker ∧ (publishGroupA g r s).generator = s.generator ∧ (publishGroupA g r s).links = s.links ∧ (publishGroupA g r s).sensors = s.sensors ∧ (publishGroupA g r s).intake = s.intake ∧ (publishGroupA g r s).signals = s.signals ∧ (publishGroupA g r s).freeCount = s.freeCount ∧ (publishGroupA g r s).pending = s.pending := by
  unfold publishGroupA
  refine ⟨?_, ?_, ?_, ?_, ?_, ?_, ?_, ?_⟩ <;> (try dsimp only) <;> (repeat' split) <;> simp

@[simp] theorem publishGroupB_keeps (g : GroupB) (r : GroupResult) (s : State) :
    (publishGroupB g r s).sequencer = s.sequencer ∧ (publishGroupB g r s).generator = s.generator ∧ (publishGroupB g r s).links = s.links ∧ (publishGroupB g r s).intake = s.intake ∧ (publishGroupB g r s).path = s.path ∧ (publishGroupB g r s).signals = s.signals ∧ (publishGroupB g r s).freeCount = s.freeCount ∧ (publishGroupB g r s).pending = s.pending := by
  unfold publishGroupB
  refine ⟨?_, ?_, ?_, ?_, ?_, ?_, ?_, ?_⟩ <;> (try dsimp only) <;> (try split) <;> simp [foldl_keeps]

@[simp] theorem publishGroupC_keeps (g : GroupC) (r : GroupResult) (s : State) :
    (publishGroupC g r s).tracker = s.tracker ∧ (publishGroupC g r s).sequencer = s.sequencer ∧ (publishGroupC g r s).generator = s.generator ∧ (publishGroupC g r s).servos = s.servos ∧ (publishGroupC g r s).links = s.links ∧ (publishGroupC g r s).intake = s.intake ∧ (publishGroupC g r s).path = s.path ∧ (publishGroupC g r s).signals = s.signals ∧ (publishGroupC g r s).freeCount = s.freeCount ∧ (publishGroupC g r s).pending = s.pending := by
  unfold publishGroupC
  refine ⟨?_, ?_, ?_, ?_, ?_, ?_, ?_, ?_, ?_, ?_⟩ <;> (try dsimp only) <;> (repeat' split) <;> simp

@[simp] theorem takeCommit_keeps (configure : Bool) (s : State) :
    (takeCommit configure s).tracker = s.tracker ∧ (takeCommit configure s).sequencer = s.sequencer ∧ (takeCommit configure s).generator = s.generator ∧ (takeCommit configure s).servos = s.servos ∧ (takeCommit configure s).links = s.links ∧ (takeCommit configure s).sensors = s.sensors ∧ (takeCommit configure s).intake = s.intake ∧ (takeCommit configure s).signals = s.signals ∧ (takeCommit configure s).freeCount = s.freeCount ∧ (takeCommit configure s).pending = s.pending := by
  unfold takeCommit
  refine ⟨?_, ?_, ?_, ?_, ?_, ?_, ?_, ?_, ?_, ?_⟩ <;> (try dsimp only) <;> (repeat' split) <;> simp

@[simp] theorem setupCommit_keeps (configure : Bool) (s : State) :
    (setupCommit configure s).tracker = s.tracker ∧ (setupCommit configure s).sequencer = s.sequencer ∧ (setupCommit configure s).generator = s.generator ∧ (setupCommit configure s).servos = s.servos ∧ (setupCommit configure s).links = s.links ∧ (setupCommit configure s).sensors = s.sensors ∧ (setupCommit configure s).intake = s.intake ∧ (setupCommit configure s).signals = s.signals ∧ (setupCommit configure s).freeCount = s.freeCount ∧ (setupCommit configure s).pending = s.pending := by
  unfold setupCommit
  refine ⟨?_, ?_, ?_, ?_, ?_, ?_, ?_, ?_, ?_, ?_⟩ <;> (try dsimp only) <;> (repeat' split) <;> simp

@[simp] theorem nextWork_keeps (s : State) :
    (nextWork s).tracker = s.tracker ∧ (nextWork s).generator = s.generator ∧ (nextWork s).servos = s.servos ∧ (nextWork s).links = s.links ∧ (nextWork s).sensors = s.sensors ∧ (nextWork s).intake = s.intake ∧ (nextWork s).signals = s.signals ∧ (nextWork s).freeCount = s.freeCount ∧ (nextWork s).pending = s.pending := by
  unfold nextWork
  refine ⟨?_, ?_, ?_, ?_, ?_, ?_, ?_, ?_, ?_⟩ <;> (try dsimp only) <;> (repeat' split) <;> simp

@[simp] theorem readEnds_keeps (s : State) :
    (readEnds s).tracker = s.tracker ∧ (readEnds s).sequencer = s.sequencer ∧ (readEnds s).generator = s.generator ∧ (readEnds s).servos = s.servos ∧ (readEnds s).links = s.links ∧ (readEnds s).sensors = s.sensors ∧ (readEnds s).intake = s.intake ∧ (readEnds s).path = s.path ∧ (readEnds s).reporter = s.reporter ∧ (readEnds s).signals = s.signals ∧ (readEnds s).freeCount = s.freeCount ∧ (readEnds s).pending = s.pending := by
  unfold readEnds
  refine ⟨?_, ?_, ?_, ?_, ?_, ?_, ?_, ?_, ?_, ?_, ?_, ?_⟩ <;> (try dsimp only) <;> (repeat' split) <;> simp

@[simp] theorem claimSweep_keeps (s : State) :
    (claimSweep s).tracker = s.tracker ∧ (claimSweep s).sequencer = s.sequencer ∧ (claimSweep s).generator = s.generator ∧ (claimSweep s).servos = s.servos ∧ (claimSweep s).links = s.links ∧ (claimSweep s).sensors = s.sensors ∧ (claimSweep s).intake = s.intake ∧ (claimSweep s).loader = s.loader ∧ (claimSweep s).reporter = s.reporter ∧ (claimSweep s).signals = s.signals ∧ (claimSweep s).freeCount = s.freeCount ∧ (claimSweep s).pending = s.pending := by
  unfold claimSweep
  refine ⟨?_, ?_, ?_, ?_, ?_, ?_, ?_, ?_, ?_, ?_, ?_, ?_⟩ <;> (try dsimp only) <;> (repeat' split) <;> simp

@[simp] theorem endGroupA_keeps (words : List Word) (fault : Option Nat) (setupFirst : Bool) (s : State) :
    (endGroupA words fault setupFirst s).tracker = s.tracker ∧ (endGroupA words fault setupFirst s).generator = s.generator ∧ (endGroupA words fault setupFirst s).links = s.links ∧ (endGroupA words fault setupFirst s).sensors = s.sensors ∧ (endGroupA words fault setupFirst s).intake = s.intake ∧ (endGroupA words fault setupFirst s).signals = s.signals ∧ (endGroupA words fault setupFirst s).freeCount = s.freeCount ∧ (endGroupA words fault setupFirst s).pending = s.pending := by
  unfold endGroupA
  refine ⟨?_, ?_, ?_, ?_, ?_, ?_, ?_, ?_⟩ <;> (try dsimp only) <;> (repeat' split) <;> simp

@[simp] theorem endGroupB_keeps (words : List Word) (fault : Option Nat) (setupFirst : Bool) (s : State) :
    (endGroupB words fault setupFirst s).links = s.links ∧ (endGroupB words fault setupFirst s).signals = s.signals ∧ (endGroupB words fault setupFirst s).freeCount = s.freeCount ∧ (endGroupB words fault setupFirst s).pending = s.pending := by
  unfold endGroupB
  refine ⟨?_, ?_, ?_, ?_⟩ <;> (try dsimp only) <;> (repeat' split) <;> simp

@[simp] theorem endGroupC_keeps (words : List Word) (fault : Option Nat) (s : State) :
    (endGroupC words fault s).tracker = s.tracker ∧ (endGroupC words fault s).generator = s.generator ∧ (endGroupC words fault s).servos = s.servos ∧ (endGroupC words fault s).links = s.links ∧ (endGroupC words fault s).intake = s.intake ∧ (endGroupC words fault s).signals = s.signals ∧ (endGroupC words fault s).freeCount = s.freeCount ∧ (endGroupC words fault s).pending = s.pending := by
  unfold endGroupC
  refine ⟨?_, ?_, ?_, ?_, ?_, ?_, ?_, ?_⟩ <;> (try dsimp only) <;> (repeat' split) <;> simp

@[simp] theorem endGroupRead_keeps (a : Activity) (words : List Word) (fault : Option Nat) (setupFirst : Bool) (s : State) :
    (endGroupRead a words fault setupFirst s).links = s.links ∧ (endGroupRead a words fault setupFirst s).signals = s.signals ∧ (endGroupRead a words fault setupFirst s).freeCount = s.freeCount ∧ (endGroupRead a words fault setupFirst s).pending = s.pending := by
  unfold endGroupRead
  refine ⟨?_, ?_, ?_, ?_⟩ <;> (try dsimp only) <;> (repeat' split) <;> simp

@[simp] theorem setupAnswered_keeps (word count : Nat) (answer : OwnAnswer) (setupFirst : Bool) (s : State) :
    (setupAnswered word count answer setupFirst s).links = s.links ∧ (setupAnswered word count answer setupFirst s).signals = s.signals ∧ (setupAnswered word count answer setupFirst s).freeCount = s.freeCount ∧ (setupAnswered word count answer setupFirst s).pending = s.pending := by
  unfold setupAnswered
  refine ⟨?_, ?_, ?_, ?_⟩ <;> (try dsimp only) <;> (repeat' split) <;> simp

@[simp] theorem setSwept_keeps (k : Nat) (ws : Vector Word 8) (s : State) :
    (setSwept k ws s).tracker = s.tracker ∧ (setSwept k ws s).sequencer = s.sequencer ∧ (setSwept k ws s).generator = s.generator ∧ (setSwept k ws s).servos = s.servos ∧ (setSwept k ws s).links = s.links ∧ (setSwept k ws s).sensors = s.sensors ∧ (setSwept k ws s).intake = s.intake ∧ (setSwept k ws s).loader = s.loader ∧ (setSwept k ws s).reporter = s.reporter ∧ (setSwept k ws s).signals = s.signals ∧ (setSwept k ws s).freeCount = s.freeCount ∧ (setSwept k ws s).pending = s.pending := by
  unfold setSwept
  refine ⟨?_, ?_, ?_, ?_, ?_, ?_, ?_, ?_, ?_, ?_, ?_, ?_⟩ <;> (try dsimp only) <;> (repeat' split) <;> simp

@[simp] theorem rebuildRecord_keeps (i : Fin 16) (s : State) :
    (rebuildRecord i s).sequencer = s.sequencer ∧ (rebuildRecord i s).generator = s.generator ∧ (rebuildRecord i s).servos = s.servos ∧ (rebuildRecord i s).links = s.links ∧ (rebuildRecord i s).sensors = s.sensors ∧ (rebuildRecord i s).intake = s.intake ∧ (rebuildRecord i s).path = s.path ∧ (rebuildRecord i s).loader = s.loader ∧ (rebuildRecord i s).signals = s.signals ∧ (rebuildRecord i s).freeCount = s.freeCount ∧ (rebuildRecord i s).pending = s.pending := by
  unfold rebuildRecord
  refine ⟨?_, ?_, ?_, ?_, ?_, ?_, ?_, ?_, ?_, ?_, ?_⟩ <;> (try dsimp only) <;> (repeat' split) <;> simp

@[simp] theorem emptyTable_keeps (s : State) :
    (emptyTable s).sequencer = s.sequencer ∧ (emptyTable s).generator = s.generator ∧ (emptyTable s).servos = s.servos ∧ (emptyTable s).links = s.links ∧ (emptyTable s).sensors = s.sensors ∧ (emptyTable s).intake = s.intake ∧ (emptyTable s).path = s.path ∧ (emptyTable s).loader = s.loader ∧ (emptyTable s).signals = s.signals ∧ (emptyTable s).freeCount = s.freeCount ∧ (emptyTable s).pending = s.pending := by
  unfold emptyTable
  refine ⟨?_, ?_, ?_, ?_, ?_, ?_, ?_, ?_, ?_, ?_, ?_⟩ <;> (try dsimp only) <;> (try split) <;> simp [foldl_keeps]

@[simp] theorem rebuildTable_keeps (s : State) :
    (rebuildTable s).sequencer = s.sequencer ∧ (rebuildTable s).generator = s.generator ∧ (rebuildTable s).servos = s.servos ∧ (rebuildTable s).links = s.links ∧ (rebuildTable s).sensors = s.sensors ∧ (rebuildTable s).intake = s.intake ∧ (rebuildTable s).path = s.path ∧ (rebuildTable s).loader = s.loader ∧ (rebuildTable s).signals = s.signals ∧ (rebuildTable s).freeCount = s.freeCount ∧ (rebuildTable s).pending = s.pending := by
  unfold rebuildTable
  refine ⟨?_, ?_, ?_, ?_, ?_, ?_, ?_, ?_, ?_, ?_, ?_⟩ <;> (try dsimp only) <;> (try split) <;> simp [foldl_keeps]

@[simp] theorem sweepTold_keeps (s : State) :
    (sweepTold s).tracker = s.tracker ∧ (sweepTold s).sequencer = s.sequencer ∧ (sweepTold s).generator = s.generator ∧ (sweepTold s).servos = s.servos ∧ (sweepTold s).links = s.links ∧ (sweepTold s).sensors = s.sensors ∧ (sweepTold s).intake = s.intake ∧ (sweepTold s).path = s.path ∧ (sweepTold s).signals = s.signals ∧ (sweepTold s).freeCount = s.freeCount ∧ (sweepTold s).pending = s.pending := by
  unfold sweepTold
  refine ⟨?_, ?_, ?_, ?_, ?_, ?_, ?_, ?_, ?_, ?_, ?_⟩ <;> (try dsimp only) <;> (repeat' split) <;> simp

@[simp] theorem reportTold_keeps (s : State) :
    (reportTold s).tracker = s.tracker ∧ (reportTold s).sequencer = s.sequencer ∧ (reportTold s).generator = s.generator ∧ (reportTold s).servos = s.servos ∧ (reportTold s).links = s.links ∧ (reportTold s).sensors = s.sensors ∧ (reportTold s).intake = s.intake ∧ (reportTold s).path = s.path ∧ (reportTold s).loader = s.loader ∧ (reportTold s).signals = s.signals ∧ (reportTold s).freeCount = s.freeCount ∧ (reportTold s).pending = s.pending := by
  unfold reportTold
  refine ⟨?_, ?_, ?_, ?_, ?_, ?_, ?_, ?_, ?_, ?_, ?_, ?_⟩ <;> (try dsimp only) <;> (repeat' split) <;> simp

@[simp] theorem endSweep_keeps (s : State) :
    (endSweep s).sequencer = s.sequencer ∧ (endSweep s).generator = s.generator ∧ (endSweep s).servos = s.servos ∧ (endSweep s).links = s.links ∧ (endSweep s).sensors = s.sensors ∧ (endSweep s).intake = s.intake ∧ (endSweep s).signals = s.signals ∧ (endSweep s).freeCount = s.freeCount ∧ (endSweep s).pending = s.pending := by
  unfold endSweep
  refine ⟨?_, ?_, ?_, ?_, ?_, ?_, ?_, ?_, ?_⟩ <;> (try dsimp only) <;> (repeat' split) <;> simp

@[simp] theorem sweepAnswered_keeps (k addr : Nat) (answer : OwnAnswer) (s : State) :
    (sweepAnswered k addr answer s).sequencer = s.sequencer ∧ (sweepAnswered k addr answer s).generator = s.generator ∧ (sweepAnswered k addr answer s).servos = s.servos ∧ (sweepAnswered k addr answer s).links = s.links ∧ (sweepAnswered k addr answer s).sensors = s.sensors ∧ (sweepAnswered k addr answer s).intake = s.intake ∧ (sweepAnswered k addr answer s).signals = s.signals ∧ (sweepAnswered k addr answer s).freeCount = s.freeCount ∧ (sweepAnswered k addr answer s).pending = s.pending := by
  unfold sweepAnswered
  refine ⟨?_, ?_, ?_, ?_, ?_, ?_, ?_, ?_, ?_⟩ <;> (try dsimp only) <;> (repeat' split) <;> simp

@[simp] theorem countStep_keeps (d : Direction) (s : State) :
    (countStep d s).tracker = s.tracker ∧ (countStep d s).sequencer = s.sequencer ∧ (countStep d s).generator = s.generator ∧ (countStep d s).links = s.links ∧ (countStep d s).sensors = s.sensors ∧ (countStep d s).intake = s.intake ∧ (countStep d s).path = s.path ∧ (countStep d s).loader = s.loader ∧ (countStep d s).reporter = s.reporter ∧ (countStep d s).signals = s.signals ∧ (countStep d s).freeCount = s.freeCount ∧ (countStep d s).pending = s.pending := by
  unfold countStep
  refine ⟨?_, ?_, ?_, ?_, ?_, ?_, ?_, ?_, ?_, ?_, ?_, ?_⟩ <;> (try dsimp only) <;> (repeat' split) <;> simp

@[simp] theorem countSeek_keeps (s : State) :
    (countSeek s).tracker = s.tracker ∧ (countSeek s).generator = s.generator ∧ (countSeek s).servos = s.servos ∧ (countSeek s).links = s.links ∧ (countSeek s).sensors = s.sensors ∧ (countSeek s).intake = s.intake ∧ (countSeek s).path = s.path ∧ (countSeek s).loader = s.loader ∧ (countSeek s).reporter = s.reporter ∧ (countSeek s).signals = s.signals ∧ (countSeek s).freeCount = s.freeCount ∧ (countSeek s).pending = s.pending := by
  unfold countSeek
  refine ⟨?_, ?_, ?_, ?_, ?_, ?_, ?_, ?_, ?_, ?_, ?_, ?_⟩ <;> (try dsimp only) <;> (repeat' split) <;> simp

@[simp] theorem countMarker_keeps (m : Marker) (d : Direction) (s : State) :
    (countMarker m d s).links = s.links ∧ (countMarker m d s).loader = s.loader ∧ (countMarker m d s).freeCount = s.freeCount ∧ (countMarker m d s).pending = s.pending := by
  unfold countMarker
  refine ⟨?_, ?_, ?_, ?_⟩ <;> (try dsimp only) <;> (repeat' split) <;> simp

@[simp] theorem checkSeekLimit_keeps (s : State) :
    (checkSeekLimit s).links = s.links ∧ (checkSeekLimit s).sensors = s.sensors ∧ (checkSeekLimit s).loader = s.loader ∧ (checkSeekLimit s).freeCount = s.freeCount ∧ (checkSeekLimit s).pending = s.pending := by
  unfold checkSeekLimit
  refine ⟨?_, ?_, ?_, ?_, ?_⟩ <;> (try dsimp only) <;> (repeat' split) <;> simp

@[simp] theorem encoderCount_keeps (d : Direction) (s : State) :
    (encoderCount d s).links = s.links ∧ (encoderCount d s).pending = s.pending := by
  unfold encoderCount
  refine ⟨?_, ?_⟩ <;> (try dsimp only) <;> (repeat' split) <;> simp

@[simp] theorem indexPulse_keeps (reel : Reel) (s : State) :
    (indexPulse reel s).tracker = s.tracker ∧ (indexPulse reel s).sequencer = s.sequencer ∧ (indexPulse reel s).generator = s.generator ∧ (indexPulse reel s).links = s.links ∧ (indexPulse reel s).sensors = s.sensors ∧ (indexPulse reel s).intake = s.intake ∧ (indexPulse reel s).path = s.path ∧ (indexPulse reel s).loader = s.loader ∧ (indexPulse reel s).signals = s.signals ∧ (indexPulse reel s).freeCount = s.freeCount ∧ (indexPulse reel s).pending = s.pending := by
  unfold indexPulse
  refine ⟨?_, ?_, ?_, ?_, ?_, ?_, ?_, ?_, ?_, ?_, ?_⟩ <;> (try dsimp only) <;> (repeat' split) <;> simp

@[simp] theorem keepCounts_keeps (before : Sensors) (s : State) :
    (keepCounts before s).tracker = s.tracker ∧ (keepCounts before s).sequencer = s.sequencer ∧ (keepCounts before s).generator = s.generator ∧ (keepCounts before s).servos = s.servos ∧ (keepCounts before s).links = s.links ∧ (keepCounts before s).intake = s.intake ∧ (keepCounts before s).path = s.path ∧ (keepCounts before s).loader = s.loader ∧ (keepCounts before s).reporter = s.reporter ∧ (keepCounts before s).signals = s.signals ∧ (keepCounts before s).freeCount = s.freeCount ∧ (keepCounts before s).pending = s.pending := by
  unfold keepCounts
  refine ⟨?_, ?_, ?_, ?_, ?_, ?_, ?_, ?_, ?_, ?_, ?_, ?_⟩ <;> (try dsimp only) <;> (repeat' split) <;> simp

@[simp] theorem followLoss_keeps (s : State) :
    (followLoss s).tracker = s.tracker ∧ (followLoss s).sequencer = s.sequencer ∧ (followLoss s).generator = s.generator ∧ (followLoss s).servos = s.servos ∧ (followLoss s).links = s.links ∧ (followLoss s).intake = s.intake ∧ (followLoss s).path = s.path ∧ (followLoss s).loader = s.loader ∧ (followLoss s).reporter = s.reporter ∧ (followLoss s).signals = s.signals ∧ (followLoss s).freeCount = s.freeCount ∧ (followLoss s).pending = s.pending := by
  unfold followLoss
  refine ⟨?_, ?_, ?_, ?_, ?_, ?_, ?_, ?_, ?_, ?_, ?_, ?_⟩ <;> (try dsimp only) <;> (repeat' split) <;> simp

@[simp] theorem vacuumLost_keeps (c : Reel) (s : State) :
    (vacuumLost c s).links = s.links ∧ (vacuumLost c s).loader = s.loader ∧ (vacuumLost c s).freeCount = s.freeCount ∧ (vacuumLost c s).pending = s.pending := by
  unfold vacuumLost
  refine ⟨?_, ?_, ?_, ?_⟩ <;> (try dsimp only) <;> (repeat' split) <;> simp

@[simp] theorem vacuumChanged_keeps (c : Reel) (made : Bool) (s : State) :
    (vacuumChanged c made s).links = s.links ∧ (vacuumChanged c made s).loader = s.loader ∧ (vacuumChanged c made s).freeCount = s.freeCount ∧ (vacuumChanged c made s).pending = s.pending := by
  unfold vacuumChanged
  refine ⟨?_, ?_, ?_, ?_⟩ <;> (try dsimp only) <;> (repeat' split) <;> simp

@[simp] theorem doorChanged_keeps (closed : Bool) (s : State) :
    (doorChanged closed s).links = s.links ∧ (doorChanged closed s).loader = s.loader ∧ (doorChanged closed s).freeCount = s.freeCount ∧ (doorChanged closed s).pending = s.pending := by
  unfold doorChanged
  refine ⟨?_, ?_, ?_, ?_⟩ <;> (try dsimp only) <;> (repeat' split) <;> simp

@[simp] theorem pathChanged_keeps (present : Bool) (s : State) :
    (pathChanged present s).links = s.links ∧ (pathChanged present s).loader = s.loader ∧ (pathChanged present s).freeCount = s.freeCount ∧ (pathChanged present s).pending = s.pending := by
  unfold pathChanged
  refine ⟨?_, ?_, ?_, ?_⟩ <;> (try dsimp only) <;> (repeat' split) <;> simp

@[simp] theorem switchAccepted_keeps (sw : Switch) (active : Bool) (s : State) :
    (switchAccepted sw active s).links = s.links ∧ (switchAccepted sw active s).loader = s.loader ∧ (switchAccepted sw active s).freeCount = s.freeCount ∧ (switchAccepted sw active s).pending = s.pending := by
  unfold switchAccepted
  refine ⟨?_, ?_, ?_, ?_⟩ <;> (try dsimp only) <;> (repeat' split) <;> simp

@[simp] theorem setSwitchRecord_keeps (sw : Switch) (r : SwitchRecord) (s : State) :
    (setSwitchRecord sw r s).tracker = s.tracker ∧ (setSwitchRecord sw r s).sequencer = s.sequencer ∧ (setSwitchRecord sw r s).generator = s.generator ∧ (setSwitchRecord sw r s).servos = s.servos ∧ (setSwitchRecord sw r s).links = s.links ∧ (setSwitchRecord sw r s).intake = s.intake ∧ (setSwitchRecord sw r s).path = s.path ∧ (setSwitchRecord sw r s).loader = s.loader ∧ (setSwitchRecord sw r s).reporter = s.reporter ∧ (setSwitchRecord sw r s).signals = s.signals ∧ (setSwitchRecord sw r s).freeCount = s.freeCount ∧ (setSwitchRecord sw r s).pending = s.pending := by
  unfold setSwitchRecord
  refine ⟨?_, ?_, ?_, ?_, ?_, ?_, ?_, ?_, ?_, ?_, ?_, ?_⟩ <;> (try dsimp only) <;> (repeat' split) <;> simp

@[simp] theorem firstSettled_keeps (sw : Switch) (s : State) :
    (firstSettled sw s).tracker = s.tracker ∧ (firstSettled sw s).generator = s.generator ∧ (firstSettled sw s).links = s.links ∧ (firstSettled sw s).intake = s.intake ∧ (firstSettled sw s).path = s.path ∧ (firstSettled sw s).loader = s.loader ∧ (firstSettled sw s).signals = s.signals ∧ (firstSettled sw s).freeCount = s.freeCount ∧ (firstSettled sw s).pending = s.pending := by
  unfold firstSettled
  refine ⟨?_, ?_, ?_, ?_, ?_, ?_, ?_, ?_, ?_⟩ <;> (try dsimp only) <;> (repeat' split) <;> simp

@[simp] theorem acceptSwitch_keeps (sw : Switch) (s : State) :
    (acceptSwitch sw s).links = s.links ∧ (acceptSwitch sw s).loader = s.loader ∧ (acceptSwitch sw s).freeCount = s.freeCount ∧ (acceptSwitch sw s).pending = s.pending := by
  unfold acceptSwitch
  refine ⟨?_, ?_, ?_, ?_⟩ <;> (try dsimp only) <;> (repeat' split) <;> simp

@[simp] theorem rawChange_keeps (sw : Switch) (level : Bool) (s : State) :
    (rawChange sw level s).links = s.links ∧ (rawChange sw level s).pending = s.pending := by
  unfold rawChange
  refine ⟨?_, ?_⟩ <;> (try dsimp only) <;> (repeat' split) <;> simp

@[simp] theorem stabilityExpiry_keeps (sw : Switch) (s : State) :
    (stabilityExpiry sw s).links = s.links ∧ (stabilityExpiry sw s).pending = s.pending := by
  unfold stabilityExpiry
  refine ⟨?_, ?_⟩ <;> (try dsimp only) <;> (repeat' split) <;> simp

@[simp] theorem markerActive_keeps (m : Marker) (s : State) :
    (markerActive m s).tracker = s.tracker ∧ (markerActive m s).sequencer = s.sequencer ∧ (markerActive m s).generator = s.generator ∧ (markerActive m s).servos = s.servos ∧ (markerActive m s).links = s.links ∧ (markerActive m s).intake = s.intake ∧ (markerActive m s).path = s.path ∧ (markerActive m s).loader = s.loader ∧ (markerActive m s).reporter = s.reporter ∧ (markerActive m s).signals = s.signals ∧ (markerActive m s).freeCount = s.freeCount ∧ (markerActive m s).pending = s.pending := by
  unfold markerActive
  refine ⟨?_, ?_, ?_, ?_, ?_, ?_, ?_, ?_, ?_, ?_, ?_, ?_⟩ <;> (try dsimp only) <;> (repeat' split) <;> simp

@[simp] theorem markerInactive_keeps (m : Marker) (s : State) :
    (markerInactive m s).links = s.links ∧ (markerInactive m s).pending = s.pending := by
  unfold markerInactive
  refine ⟨?_, ?_⟩ <;> (try dsimp only) <;> (repeat' split) <;> simp

@[simp] theorem convert_keeps (supplyLevel takeupLevel : Int) (s : State) :
    (convert supplyLevel takeupLevel s).tracker = s.tracker ∧ (convert supplyLevel takeupLevel s).sequencer = s.sequencer ∧ (convert supplyLevel takeupLevel s).generator = s.generator ∧ (convert supplyLevel takeupLevel s).servos = s.servos ∧ (convert supplyLevel takeupLevel s).links = s.links ∧ (convert supplyLevel takeupLevel s).intake = s.intake ∧ (convert supplyLevel takeupLevel s).path = s.path ∧ (convert supplyLevel takeupLevel s).loader = s.loader ∧ (convert supplyLevel takeupLevel s).reporter = s.reporter ∧ (convert supplyLevel takeupLevel s).signals = s.signals ∧ (convert supplyLevel takeupLevel s).freeCount = s.freeCount ∧ (convert supplyLevel takeupLevel s).pending = s.pending := by
  unfold convert
  refine ⟨?_, ?_, ?_, ?_, ?_, ?_, ?_, ?_, ?_, ?_, ?_, ?_⟩ <;> (try dsimp only) <;> (repeat' split) <;> simp

@[simp] theorem closeInterval_keeps (s : State) :
    (closeInterval s).tracker = s.tracker ∧ (closeInterval s).sequencer = s.sequencer ∧ (closeInterval s).generator = s.generator ∧ (closeInterval s).servos = s.servos ∧ (closeInterval s).links = s.links ∧ (closeInterval s).intake = s.intake ∧ (closeInterval s).path = s.path ∧ (closeInterval s).loader = s.loader ∧ (closeInterval s).reporter = s.reporter ∧ (closeInterval s).signals = s.signals ∧ (closeInterval s).freeCount = s.freeCount ∧ (closeInterval s).pending = s.pending := by
  unfold closeInterval
  refine ⟨?_, ?_, ?_, ?_, ?_, ?_, ?_, ?_, ?_, ?_, ?_, ?_⟩ <;> (try dsimp only) <;> (repeat' split) <;> simp

@[simp] theorem sendCommands_keeps (vacuum : Bool) (s : State) :
    (sendCommands vacuum s).tracker = s.tracker ∧ (sendCommands vacuum s).sequencer = s.sequencer ∧ (sendCommands vacuum s).generator = s.generator ∧ (sendCommands vacuum s).servos = s.servos ∧ (sendCommands vacuum s).sensors = s.sensors ∧ (sendCommands vacuum s).intake = s.intake ∧ (sendCommands vacuum s).path = s.path ∧ (sendCommands vacuum s).loader = s.loader ∧ (sendCommands vacuum s).reporter = s.reporter ∧ (sendCommands vacuum s).signals = s.signals ∧ (sendCommands vacuum s).freeCount = s.freeCount ∧ (sendCommands vacuum s).pending = s.pending := by
  unfold sendCommands
  refine ⟨?_, ?_, ?_, ?_, ?_, ?_, ?_, ?_, ?_, ?_, ?_, ?_⟩ <;> (try dsimp only) <;> (repeat' split) <;> simp

@[simp] theorem takeTracking_keeps (s : State) :
    (takeTracking s).tracker = s.tracker ∧ (takeTracking s).sequencer = s.sequencer ∧ (takeTracking s).generator = s.generator ∧ (takeTracking s).links = s.links ∧ (takeTracking s).sensors = s.sensors ∧ (takeTracking s).intake = s.intake ∧ (takeTracking s).path = s.path ∧ (takeTracking s).loader = s.loader ∧ (takeTracking s).reporter = s.reporter ∧ (takeTracking s).signals = s.signals ∧ (takeTracking s).freeCount = s.freeCount ∧ (takeTracking s).pending = s.pending := by
  unfold takeTracking
  refine ⟨?_, ?_, ?_, ?_, ?_, ?_, ?_, ?_, ?_, ?_, ?_, ?_⟩ <;> (try dsimp only) <;> (repeat' split) <;> simp

@[simp] theorem takeWindow_keeps (s : State) :
    (takeWindow s).tracker = s.tracker ∧ (takeWindow s).sequencer = s.sequencer ∧ (takeWindow s).generator = s.generator ∧ (takeWindow s).servos = s.servos ∧ (takeWindow s).links = s.links ∧ (takeWindow s).intake = s.intake ∧ (takeWindow s).path = s.path ∧ (takeWindow s).loader = s.loader ∧ (takeWindow s).reporter = s.reporter ∧ (takeWindow s).signals = s.signals ∧ (takeWindow s).freeCount = s.freeCount ∧ (takeWindow s).pending = s.pending := by
  unfold takeWindow
  refine ⟨?_, ?_, ?_, ?_, ?_, ?_, ?_, ?_, ?_, ?_, ?_, ?_⟩ <;> (try dsimp only) <;> (repeat' split) <;> simp

@[simp] theorem endCut_keeps (c : Reel) (s : State) :
    (endCut c s).tracker = s.tracker ∧ (endCut c s).sequencer = s.sequencer ∧ (endCut c s).generator = s.generator ∧ (endCut c s).servos = s.servos ∧ (endCut c s).links = s.links ∧ (endCut c s).intake = s.intake ∧ (endCut c s).path = s.path ∧ (endCut c s).loader = s.loader ∧ (endCut c s).reporter = s.reporter ∧ (endCut c s).signals = s.signals ∧ (endCut c s).freeCount = s.freeCount ∧ (endCut c s).pending = s.pending := by
  unfold endCut
  refine ⟨?_, ?_, ?_, ?_, ?_, ?_, ?_, ?_, ?_, ?_, ?_, ?_⟩ <;> (try dsimp only) <;> (repeat' split) <;> simp

@[simp] theorem columnFault_keeps (c : Reel) (x : Nat) (s : State) :
    (columnFault c x s).links = s.links ∧ (columnFault c x s).loader = s.loader ∧ (columnFault c x s).freeCount = s.freeCount ∧ (columnFault c x s).pending = s.pending := by
  unfold columnFault
  refine ⟨?_, ?_, ?_, ?_⟩ <;> (try dsimp only) <;> (repeat' split) <;> simp

@[simp] theorem trackingFaulted_keeps (e : Int) (s : State) :
    (trackingFaulted e s).links = s.links ∧ (trackingFaulted e s).loader = s.loader ∧ (trackingFaulted e s).freeCount = s.freeCount ∧ (trackingFaulted e s).pending = s.pending := by
  unfold trackingFaulted
  refine ⟨?_, ?_, ?_, ?_⟩ <;> (try dsimp only) <;> (repeat' split) <;> simp

@[simp] theorem settleTest_keeps (s : State) :
    (settleTest s).tracker = s.tracker ∧ (settleTest s).links = s.links ∧ (settleTest s).intake = s.intake ∧ (settleTest s).loader = s.loader ∧ (settleTest s).signals = s.signals ∧ (settleTest s).freeCount = s.freeCount ∧ (settleTest s).pending = s.pending := by
  unfold settleTest
  refine ⟨?_, ?_, ?_, ?_, ?_, ?_, ?_⟩ <;> (try dsimp only) <;> (repeat' split) <;> simp

@[simp] theorem sampleFaults_keeps (takeupFirst : Bool) (s : State) :
    (sampleFaults takeupFirst s).links = s.links ∧ (sampleFaults takeupFirst s).loader = s.loader ∧ (sampleFaults takeupFirst s).freeCount = s.freeCount ∧ (sampleFaults takeupFirst s).pending = s.pending := by
  unfold sampleFaults
  refine ⟨?_, ?_, ?_, ?_⟩ <;> (try dsimp only) <;> (repeat' split) <;> simp

@[simp] theorem conflict_keeps (i : Fin 16) (code : Nat) (s : State) :
    (conflict i code s).tracker = s.tracker ∧ (conflict i code s).sequencer = s.sequencer ∧ (conflict i code s).generator = s.generator ∧ (conflict i code s).servos = s.servos ∧ (conflict i code s).links = s.links ∧ (conflict i code s).sensors = s.sensors ∧ (conflict i code s).intake = s.intake ∧ (conflict i code s).path = s.path ∧ (conflict i code s).loader = s.loader ∧ (conflict i code s).signals = s.signals ∧ (conflict i code s).freeCount = s.freeCount ∧ (conflict i code s).pending = s.pending := by
  unfold conflict
  refine ⟨?_, ?_, ?_, ?_, ?_, ?_, ?_, ?_, ?_, ?_, ?_, ?_⟩ <;> (try dsimp only) <;> (repeat' split) <;> simp

@[simp] theorem invalidEntry_keeps (i : Fin 16) (s : State) :
    (invalidEntry i s).tracker = s.tracker ∧ (invalidEntry i s).sequencer = s.sequencer ∧ (invalidEntry i s).generator = s.generator ∧ (invalidEntry i s).servos = s.servos ∧ (invalidEntry i s).links = s.links ∧ (invalidEntry i s).sensors = s.sensors ∧ (invalidEntry i s).intake = s.intake ∧ (invalidEntry i s).path = s.path ∧ (invalidEntry i s).loader = s.loader ∧ (invalidEntry i s).signals = s.signals ∧ (invalidEntry i s).freeCount = s.freeCount ∧ (invalidEntry i s).pending = s.pending := by
  unfold invalidEntry
  refine ⟨?_, ?_, ?_, ?_, ?_, ?_, ?_, ?_, ?_, ?_, ?_, ?_⟩ <;> (try dsimp only) <;> (repeat' split) <;> simp

@[simp] theorem stateFilled_keeps (i : Fin 16) (s : State) :
    (stateFilled i s).links = s.links ∧ (stateFilled i s).loader = s.loader ∧ (stateFilled i s).freeCount = s.freeCount ∧ (stateFilled i s).pending = s.pending := by
  unfold stateFilled
  refine ⟨?_, ?_, ?_, ?_⟩ <;> (try dsimp only) <;> (repeat' split) <;> simp

@[simp] theorem shrinkSpan_keeps (s : State) :
    (shrinkSpan s).sequencer = s.sequencer ∧ (shrinkSpan s).generator = s.generator ∧ (shrinkSpan s).servos = s.servos ∧ (shrinkSpan s).links = s.links ∧ (shrinkSpan s).sensors = s.sensors ∧ (shrinkSpan s).intake = s.intake ∧ (shrinkSpan s).path = s.path ∧ (shrinkSpan s).loader = s.loader ∧ (shrinkSpan s).reporter = s.reporter ∧ (shrinkSpan s).signals = s.signals ∧ (shrinkSpan s).freeCount = s.freeCount ∧ (shrinkSpan s).pending = s.pending := by
  unfold shrinkSpan
  refine ⟨?_, ?_, ?_, ?_, ?_, ?_, ?_, ?_, ?_, ?_, ?_, ?_⟩ <;> (try dsimp only) <;> (repeat' split) <;> simp

@[simp] theorem retract_keeps (i : Fin 16) (s : State) :
    (retract i s).links = s.links ∧ (retract i s).intake = s.intake ∧ (retract i s).loader = s.loader ∧ (retract i s).freeCount = s.freeCount ∧ (retract i s).pending = s.pending := by
  unfold retract
  refine ⟨?_, ?_, ?_, ?_, ?_⟩ <;> (try dsimp only) <;> (repeat' split) <;> simp

@[simp] theorem stateEmpty_keeps (i : Fin 16) (s : State) :
    (stateEmpty i s).links = s.links ∧ (stateEmpty i s).loader = s.loader ∧ (stateEmpty i s).freeCount = s.freeCount ∧ (stateEmpty i s).pending = s.pending := by
  unfold stateEmpty
  refine ⟨?_, ?_, ?_, ?_⟩ <;> (try dsimp only) <;> (repeat' split) <;> simp

@[simp] theorem stateCheck_keeps (ok : Bool) (i : Fin 16) (s : State) :
    (stateCheck ok i s).links = s.links ∧ (stateCheck ok i s).loader = s.loader ∧ (stateCheck ok i s).freeCount = s.freeCount ∧ (stateCheck ok i s).pending = s.pending := by
  unfold stateCheck
  refine ⟨?_, ?_, ?_, ?_⟩ <;> (try dsimp only) <;> (repeat' split) <;> simp

@[simp] theorem readingReceipt_keeps (r : Receipt) (o : OrderCode) (i : Fin 16) (s : State) :
    (readingReceipt r o i s).links = s.links ∧ (readingReceipt r o i s).loader = s.loader ∧ (readingReceipt r o i s).freeCount = s.freeCount ∧ (readingReceipt r o i s).pending = s.pending := by
  unfold readingReceipt
  refine ⟨?_, ?_, ?_, ?_⟩ <;> (try dsimp only) <;> (repeat' split) <;> simp

@[simp] theorem spacingReceipt_keeps (r : Receipt) (o : OrderCode) (i : Fin 16) (s : State) :
    (spacingReceipt r o i s).links = s.links ∧ (spacingReceipt r o i s).loader = s.loader ∧ (spacingReceipt r o i s).freeCount = s.freeCount ∧ (spacingReceipt r o i s).pending = s.pending := by
  unfold spacingReceipt
  refine ⟨?_, ?_, ?_, ?_⟩ <;> (try dsimp only) <;> (repeat' split) <;> simp

@[simp] theorem stateReceipt_keeps (r : Receipt) (i : Fin 16) (s : State) :
    (stateReceipt r i s).links = s.links ∧ (stateReceipt r i s).loader = s.loader ∧ (stateReceipt r i s).freeCount = s.freeCount ∧ (stateReceipt r i s).pending = s.pending := by
  unfold stateReceipt
  refine ⟨?_, ?_, ?_, ?_⟩ <;> (try dsimp only) <;> (repeat' split) <;> simp

@[simp] theorem stateCodeWrite_keeps (i : Fin 16) (code : Nat) (s : State) :
    (stateCodeWrite i code s).links = s.links ∧ (stateCodeWrite i code s).loader = s.loader ∧ (stateCodeWrite i code s).freeCount = s.freeCount ∧ (stateCodeWrite i code s).pending = s.pending := by
  unfold stateCodeWrite
  refine ⟨?_, ?_, ?_, ?_⟩ <;> (try dsimp only) <;> (repeat' split) <;> simp

@[simp] theorem checkExpiry_keeps (i : Fin 16) (s : State) :
    (checkExpiry i s).links = s.links ∧ (checkExpiry i s).pending = s.pending := by
  unfold checkExpiry
  refine ⟨?_, ?_⟩ <;> (try dsimp only) <;> (repeat' split) <;> simp

@[simp] theorem mergeDescriptor_keeps (k : Fin 64) (w : BusWord) (s : State) :
    (mergeDescriptor k w s).tracker = s.tracker ∧ (mergeDescriptor k w s).sequencer = s.sequencer ∧ (mergeDescriptor k w s).generator = s.generator ∧ (mergeDescriptor k w s).servos = s.servos ∧ (mergeDescriptor k w s).links = s.links ∧ (mergeDescriptor k w s).sensors = s.sensors ∧ (mergeDescriptor k w s).intake = s.intake ∧ (mergeDescriptor k w s).loader = s.loader ∧ (mergeDescriptor k w s).reporter = s.reporter ∧ (mergeDescriptor k w s).signals = s.signals ∧ (mergeDescriptor k w s).freeCount = s.freeCount ∧ (mergeDescriptor k w s).pending = s.pending := by
  unfold mergeDescriptor
  refine ⟨?_, ?_, ?_, ?_, ?_, ?_, ?_, ?_, ?_, ?_, ?_, ?_⟩ <;> (try dsimp only) <;> (repeat' split) <;> simp

@[simp] theorem descriptorWrite_keeps (i : Fin 16) (w : BusWord) (s : State) :
    (descriptorWrite i w s).links = s.links ∧ (descriptorWrite i w s).loader = s.loader ∧ (descriptorWrite i w s).freeCount = s.freeCount ∧ (descriptorWrite i w s).pending = s.pending := by
  unfold descriptorWrite
  refine ⟨?_, ?_, ?_, ?_⟩ <;> (try dsimp only) <;> (repeat' split) <;> simp

@[simp] theorem descriptorCommand_keeps (i : Fin 16) (code : Word) (s : State) :
    (descriptorCommand i code s).links = s.links ∧ (descriptorCommand i code s).pending = s.pending := by
  unfold descriptorCommand
  refine ⟨?_, ?_⟩ <;> (try dsimp only) <;> (repeat' split) <;> simp

@[simp] theorem haltRewind_keeps (s : State) :
    (haltRewind s).tracker = s.tracker ∧ (haltRewind s).links = s.links ∧ (haltRewind s).sensors = s.sensors ∧ (haltRewind s).intake = s.intake ∧ (haltRewind s).loader = s.loader ∧ (haltRewind s).reporter = s.reporter ∧ (haltRewind s).freeCount = s.freeCount ∧ (haltRewind s).pending = s.pending := by
  unfold haltRewind
  refine ⟨?_, ?_, ?_, ?_, ?_, ?_, ?_, ?_⟩ <;> (try dsimp only) <;> (repeat' split) <;> simp

@[simp] theorem haltMotion_keeps (s : State) :
    (haltMotion s).tracker = s.tracker ∧ (haltMotion s).links = s.links ∧ (haltMotion s).intake = s.intake ∧ (haltMotion s).loader = s.loader ∧ (haltMotion s).freeCount = s.freeCount ∧ (haltMotion s).pending = s.pending := by
  unfold haltMotion
  refine ⟨?_, ?_, ?_, ?_, ?_, ?_⟩ <;> (try dsimp only) <;> (repeat' split) <;> simp

@[simp] theorem haltDeck_keeps (s : State) :
    (haltDeck s).links = s.links ∧ (haltDeck s).loader = s.loader ∧ (haltDeck s).freeCount = s.freeCount ∧ (haltDeck s).pending = s.pending := by
  unfold haltDeck
  refine ⟨?_, ?_, ?_, ?_⟩ <;> (try dsimp only) <;> (repeat' split) <;> simp

@[simp] theorem softReset_keeps (s : State) :
    (softReset s).links = s.links ∧ (softReset s).loader = s.loader ∧ (softReset s).freeCount = s.freeCount ∧ (softReset s).pending = s.pending := by
  unfold softReset
  refine ⟨?_, ?_, ?_, ?_⟩ <;> (try dsimp only) <;> (repeat' split) <;> simp

@[simp] theorem ackClasses_keeps (named : Nat) (s : State) :
    (ackClasses named s).tracker = s.tracker ∧ (ackClasses named s).sequencer = s.sequencer ∧ (ackClasses named s).generator = s.generator ∧ (ackClasses named s).servos = s.servos ∧ (ackClasses named s).links = s.links ∧ (ackClasses named s).sensors = s.sensors ∧ (ackClasses named s).intake = s.intake ∧ (ackClasses named s).path = s.path ∧ (ackClasses named s).loader = s.loader ∧ (ackClasses named s).signals = s.signals ∧ (ackClasses named s).freeCount = s.freeCount ∧ (ackClasses named s).pending = s.pending := by
  unfold ackClasses
  refine ⟨?_, ?_, ?_, ?_, ?_, ?_, ?_, ?_, ?_, ?_, ?_, ?_⟩ <;> (try dsimp only) <;> (repeat' split) <;> simp

@[simp] theorem orderEffect_keeps (o : OrderCode) (i : Fin 8) (arg : Nat) (s : State) :
    (orderEffect o i arg s).links = s.links ∧ (orderEffect o i arg s).loader = s.loader ∧ (orderEffect o i arg s).freeCount = s.freeCount ∧ (orderEffect o i arg s).pending = s.pending := by
  unfold orderEffect
  refine ⟨?_, ?_, ?_, ?_⟩ <;> (try dsimp only) <;> (repeat' split) <;> simp

@[simp] theorem recordCommit_keeps (i : Fin 8) (t : TakenOrder) (o : Outcome) (r : Reason) (finalT : Int) (s : State) :
    (recordCommit i t o r finalT s).tracker = s.tracker ∧ (recordCommit i t o r finalT s).sequencer = s.sequencer ∧ (recordCommit i t o r finalT s).generator = s.generator ∧ (recordCommit i t o r finalT s).servos = s.servos ∧ (recordCommit i t o r finalT s).links = s.links ∧ (recordCommit i t o r finalT s).sensors = s.sensors ∧ (recordCommit i t o r finalT s).path = s.path ∧ (recordCommit i t o r finalT s).loader = s.loader ∧ (recordCommit i t o r finalT s).signals = s.signals ∧ (recordCommit i t o r finalT s).freeCount = s.freeCount ∧ (recordCommit i t o r finalT s).pending = s.pending := by
  unfold recordCommit
  refine ⟨?_, ?_, ?_, ?_, ?_, ?_, ?_, ?_, ?_, ?_, ?_⟩ <;> (try dsimp only) <;> (repeat' split) <;> simp

@[simp] theorem refuseCommit_keeps (i : Fin 8) (arg : Nat) (r : Reason) (s : State) :
    (refuseCommit i arg r s).tracker = s.tracker ∧ (refuseCommit i arg r s).sequencer = s.sequencer ∧ (refuseCommit i arg r s).generator = s.generator ∧ (refuseCommit i arg r s).servos = s.servos ∧ (refuseCommit i arg r s).links = s.links ∧ (refuseCommit i arg r s).sensors = s.sensors ∧ (refuseCommit i arg r s).path = s.path ∧ (refuseCommit i arg r s).loader = s.loader ∧ (refuseCommit i arg r s).signals = s.signals ∧ (refuseCommit i arg r s).freeCount = s.freeCount ∧ (refuseCommit i arg r s).pending = s.pending := by
  unfold refuseCommit
  refine ⟨?_, ?_, ?_, ?_, ?_, ?_, ?_, ?_, ?_, ?_, ?_⟩ <;> (try dsimp only) <;> (repeat' split) <;> simp

@[simp] theorem acceptCommit_keeps (o : OrderCode) (i : Fin 8) (u : ArgumentUse) (s : State) :
    (acceptCommit o i u s).links = s.links ∧ (acceptCommit o i u s).loader = s.loader ∧ (acceptCommit o i u s).pending = s.pending := by
  unfold acceptCommit
  refine ⟨?_, ?_, ?_⟩ <;> (try dsimp only) <;> (repeat' split) <;> simp

@[simp] theorem judgeCommit_keeps (i : Fin 8) (s : State) :
    (judgeCommit i s).links = s.links ∧ (judgeCommit i s).loader = s.loader ∧ (judgeCommit i s).pending = s.pending := by
  unfold judgeCommit
  refine ⟨?_, ?_, ?_⟩ <;> (try dsimp only) <;> (repeat' split) <;> simp

@[simp] theorem mergeSlot_keeps (k : Fin 32) (w : BusWord) (s : State) :
    (mergeSlot k w s).tracker = s.tracker ∧ (mergeSlot k w s).sequencer = s.sequencer ∧ (mergeSlot k w s).generator = s.generator ∧ (mergeSlot k w s).servos = s.servos ∧ (mergeSlot k w s).links = s.links ∧ (mergeSlot k w s).sensors = s.sensors ∧ (mergeSlot k w s).intake = s.intake ∧ (mergeSlot k w s).loader = s.loader ∧ (mergeSlot k w s).reporter = s.reporter ∧ (mergeSlot k w s).signals = s.signals ∧ (mergeSlot k w s).freeCount = s.freeCount ∧ (mergeSlot k w s).pending = s.pending := by
  unfold mergeSlot
  refine ⟨?_, ?_, ?_, ?_, ?_, ?_, ?_, ?_, ?_, ?_, ?_, ?_⟩ <;> (try dsimp only) <;> (repeat' split) <;> simp

@[simp] theorem slotWrite_keeps (i : Fin 8) (w : BusWord) (s : State) :
    (slotWrite i w s).links = s.links ∧ (slotWrite i w s).loader = s.loader ∧ (slotWrite i w s).pending = s.pending := by
  unfold slotWrite
  refine ⟨?_, ?_, ?_⟩ <;> (try dsimp only) <;> (repeat' split) <;> simp

@[simp] theorem slotCommand_keeps (i : Fin 8) (code seq : Byte) (s : State) :
    (slotCommand i code seq s).links = s.links ∧ (slotCommand i code seq s).pending = s.pending := by
  unfold slotCommand
  refine ⟨?_, ?_⟩ <;> (try dsimp only) <;> (repeat' split) <;> simp

@[simp] theorem quietSlotCommand_keeps (i : Fin 8) (code seq : Byte) (s : State) :
    (quietSlotCommand i code seq s).links = s.links ∧ (quietSlotCommand i code seq s).loader = s.loader ∧ (quietSlotCommand i code seq s).pending = s.pending := by
  unfold quietSlotCommand
  refine ⟨?_, ?_, ?_⟩ <;> (try dsimp only) <;> (repeat' split) <;> simp

@[simp] theorem beginRecordWrite_keeps (n : RecordName) (rest : List RecordName) (s : State) :
    (beginRecordWrite n rest s).tracker = s.tracker ∧ (beginRecordWrite n rest s).sequencer = s.sequencer ∧ (beginRecordWrite n rest s).generator = s.generator ∧ (beginRecordWrite n rest s).servos = s.servos ∧ (beginRecordWrite n rest s).links = s.links ∧ (beginRecordWrite n rest s).sensors = s.sensors ∧ (beginRecordWrite n rest s).intake = s.intake ∧ (beginRecordWrite n rest s).loader = s.loader ∧ (beginRecordWrite n rest s).signals = s.signals ∧ (beginRecordWrite n rest s).freeCount = s.freeCount ∧ (beginRecordWrite n rest s).pending = s.pending := by
  unfold beginRecordWrite
  refine ⟨?_, ?_, ?_, ?_, ?_, ?_, ?_, ?_, ?_, ?_, ?_⟩ <;> (try dsimp only) <;> (repeat' split) <;> simp

@[simp] theorem reportAnswered_keeps (done : Bool) (s : State) :
    (reportAnswered done s).tracker = s.tracker ∧ (reportAnswered done s).sequencer = s.sequencer ∧ (reportAnswered done s).generator = s.generator ∧ (reportAnswered done s).servos = s.servos ∧ (reportAnswered done s).links = s.links ∧ (reportAnswered done s).sensors = s.sensors ∧ (reportAnswered done s).intake = s.intake ∧ (reportAnswered done s).loader = s.loader ∧ (reportAnswered done s).signals = s.signals ∧ (reportAnswered done s).freeCount = s.freeCount ∧ (reportAnswered done s).pending = s.pending := by
  unfold reportAnswered
  refine ⟨?_, ?_, ?_, ?_, ?_, ?_, ?_, ?_, ?_, ?_, ?_⟩ <;> (try dsimp only) <;> (repeat' split) <;> simp

@[simp] theorem refreshExpiry_keeps (s : State) :
    (refreshExpiry s).tracker = s.tracker ∧ (refreshExpiry s).sequencer = s.sequencer ∧ (refreshExpiry s).generator = s.generator ∧ (refreshExpiry s).servos = s.servos ∧ (refreshExpiry s).links = s.links ∧ (refreshExpiry s).sensors = s.sensors ∧ (refreshExpiry s).intake = s.intake ∧ (refreshExpiry s).path = s.path ∧ (refreshExpiry s).loader = s.loader ∧ (refreshExpiry s).signals = s.signals ∧ (refreshExpiry s).freeCount = s.freeCount ∧ (refreshExpiry s).pending = s.pending := by
  unfold refreshExpiry
  refine ⟨?_, ?_, ?_, ?_, ?_, ?_, ?_, ?_, ?_, ?_, ?_, ?_⟩ <;> (try dsimp only) <;> (repeat' split) <;> simp

@[simp] theorem filledRead_keeps (i : Fin 16) (s : State) :
    (filledRead i s).sequencer = s.sequencer ∧ (filledRead i s).generator = s.generator ∧ (filledRead i s).servos = s.servos ∧ (filledRead i s).links = s.links ∧ (filledRead i s).sensors = s.sensors ∧ (filledRead i s).intake = s.intake ∧ (filledRead i s).loader = s.loader ∧ (filledRead i s).signals = s.signals ∧ (filledRead i s).freeCount = s.freeCount ∧ (filledRead i s).pending = s.pending := by
  unfold filledRead
  refine ⟨?_, ?_, ?_, ?_, ?_, ?_, ?_, ?_, ?_, ?_⟩ <;> (try dsimp only) <;> (repeat' split) <;> simp

@[simp] theorem armedRead_keeps (i : Fin 16) (t : BusTxn) (s : State) :
    (armedRead i t s).links = s.links ∧ (armedRead i t s).loader = s.loader ∧ (armedRead i t s).freeCount = s.freeCount ∧ (armedRead i t s).pending = s.pending := by
  unfold armedRead
  refine ⟨?_, ?_, ?_, ?_⟩ <;> (try dsimp only) <;> (repeat' split) <;> simp

@[simp] theorem readArrives_keeps (t : BusTxn) (s : State) :
    (readArrives t s).links = s.links ∧ (readArrives t s).loader = s.loader ∧ (readArrives t s).freeCount = s.freeCount ∧ (readArrives t s).pending = s.pending := by
  unfold readArrives
  refine ⟨?_, ?_, ?_, ?_⟩ <;> (try dsimp only) <;> (repeat' split) <;> simp

@[simp] theorem txnArrives_keeps (t : BusTxn) (s : State) :
    (txnArrives t s).links = s.links ∧ (txnArrives t s).loader = s.loader ∧ (txnArrives t s).freeCount = s.freeCount ∧ (txnArrives t s).pending = s.pending := by
  unfold txnArrives
  refine ⟨?_, ?_, ?_, ?_⟩ <;> (try dsimp only) <;> (repeat' split) <;> simp

@[simp] theorem busTransaction_keeps (t : BusTxn) (s : State) :
    (busTransaction t s).links = s.links ∧ (busTransaction t s).pending = s.pending := by
  unfold busTransaction
  refine ⟨?_, ?_⟩ <;> (try dsimp only) <;> (repeat' split) <;> simp

@[simp] theorem nextTransaction_keeps (n : Option BusTxn) (s : State) :
    (nextTransaction n s).links = s.links ∧ (nextTransaction n s).loader = s.loader ∧ (nextTransaction n s).freeCount = s.freeCount ∧ (nextTransaction n s).pending = s.pending := by
  unfold nextTransaction
  refine ⟨?_, ?_, ?_, ?_⟩ <;> (try dsimp only) <;> (repeat' split) <;> simp

@[simp] theorem setupValue_keeps (w : Word) (s : State) :
    (setupValue w s).tracker = s.tracker ∧ (setupValue w s).sequencer = s.sequencer ∧ (setupValue w s).generator = s.generator ∧ (setupValue w s).servos = s.servos ∧ (setupValue w s).links = s.links ∧ (setupValue w s).sensors = s.sensors ∧ (setupValue w s).intake = s.intake ∧ (setupValue w s).signals = s.signals ∧ (setupValue w s).freeCount = s.freeCount ∧ (setupValue w s).pending = s.pending := by
  unfold setupValue
  refine ⟨?_, ?_, ?_, ?_, ?_, ?_, ?_, ?_, ?_, ?_⟩ <;> (try dsimp only) <;> (repeat' split) <;> simp

@[simp] theorem commitWrite_keeps (w : BusWord) (s : State) :
    (commitWrite w s).tracker = s.tracker ∧ (commitWrite w s).sequencer = s.sequencer ∧ (commitWrite w s).generator = s.generator ∧ (commitWrite w s).servos = s.servos ∧ (commitWrite w s).links = s.links ∧ (commitWrite w s).sensors = s.sensors ∧ (commitWrite w s).intake = s.intake ∧ (commitWrite w s).signals = s.signals ∧ (commitWrite w s).freeCount = s.freeCount ∧ (commitWrite w s).pending = s.pending := by
  unfold commitWrite
  refine ⟨?_, ?_, ?_, ?_, ?_, ?_, ?_, ?_, ?_, ?_⟩ <;> (try dsimp only) <;> (repeat' split) <;> simp

@[simp] theorem watchedWrite_keeps (x : Watched) (w : BusWord) (s : State) :
    (watchedWrite x w s).links = s.links ∧ (watchedWrite x w s).pending = s.pending := by
  unfold watchedWrite
  refine ⟨?_, ?_⟩ <;> (try dsimp only) <;> (repeat' split) <;> simp

@[simp] theorem writeFaulted_keeps (ws : List BusWord) (addr : Nat) (s : State) :
    (writeFaulted ws addr s).tracker = s.tracker ∧ (writeFaulted ws addr s).sequencer = s.sequencer ∧ (writeFaulted ws addr s).generator = s.generator ∧ (writeFaulted ws addr s).servos = s.servos ∧ (writeFaulted ws addr s).links = s.links ∧ (writeFaulted ws addr s).sensors = s.sensors ∧ (writeFaulted ws addr s).intake = s.intake ∧ (writeFaulted ws addr s).path = s.path ∧ (writeFaulted ws addr s).loader = s.loader ∧ (writeFaulted ws addr s).signals = s.signals ∧ (writeFaulted ws addr s).freeCount = s.freeCount ∧ (writeFaulted ws addr s).pending = s.pending := by
  unfold writeFaulted
  refine ⟨?_, ?_, ?_, ?_, ?_, ?_, ?_, ?_, ?_, ?_, ?_, ?_⟩ <;> (try dsimp only) <;> (repeat' split) <;> simp

@[simp] theorem passReadAnswered_keeps (a : PassAnswer) (next : Option BusTxn) (s : State) :
    (passReadAnswered a next s).links = s.links ∧ (passReadAnswered a next s).pending = s.pending := by
  unfold passReadAnswered
  refine ⟨?_, ?_⟩ <;> (try dsimp only) <;> (repeat' split) <;> simp

@[simp] theorem wordsAct_keeps (ws : List BusWord) (addr : Nat) (s : State) :
    (wordsAct ws addr s).links = s.links ∧ (wordsAct ws addr s).pending = s.pending := by
  induction ws generalizing addr s with
  | nil => exact ⟨rfl, rfl⟩
  | cons w ws ih =>
    unfold wordsAct
    split
    · simp [ih]
    · exact ih _ _

@[simp] theorem passWriteAnswered_keeps (done : Bool) (next : Option BusTxn) (s : State) :
    (passWriteAnswered done next s).links = s.links ∧ (passWriteAnswered done next s).pending = s.pending := by
  unfold passWriteAnswered
  refine ⟨?_, ?_⟩ <;> (try dsimp only) <;> (repeat' split) <;> simp

@[simp] theorem fetchAct_keeps (answer : OwnAnswer) (a : OwnAccess) (addr : Nat) (s : State) :
    (fetchAct answer a addr s).tracker = s.tracker ∧ (fetchAct answer a addr s).sequencer = s.sequencer ∧ (fetchAct answer a addr s).links = s.links ∧ (fetchAct answer a addr s).sensors = s.sensors ∧ (fetchAct answer a addr s).intake = s.intake ∧ (fetchAct answer a addr s).loader = s.loader ∧ (fetchAct answer a addr s).freeCount = s.freeCount ∧ (fetchAct answer a addr s).pending = s.pending := by
  unfold fetchAct
  refine ⟨?_, ?_, ?_, ?_, ?_, ?_, ?_, ?_⟩ <;> (try dsimp only) <;> (repeat' split) <;> simp

@[simp] theorem setupAct_keeps (answer : OwnAnswer) (setupFirst : Bool) (a : OwnAccess) (_addr : Nat) (s : State) :
    (setupAct answer setupFirst a _addr s).links = s.links ∧ (setupAct answer setupFirst a _addr s).signals = s.signals ∧ (setupAct answer setupFirst a _addr s).freeCount = s.freeCount ∧ (setupAct answer setupFirst a _addr s).pending = s.pending := by
  unfold setupAct
  refine ⟨?_, ?_, ?_, ?_⟩ <;> (try dsimp only) <;> (repeat' split) <;> simp

@[simp] theorem sweepAct_keeps (answer : OwnAnswer) (a : OwnAccess) (addr : Nat) (s : State) :
    (sweepAct answer a addr s).sequencer = s.sequencer ∧ (sweepAct answer a addr s).generator = s.generator ∧ (sweepAct answer a addr s).servos = s.servos ∧ (sweepAct answer a addr s).links = s.links ∧ (sweepAct answer a addr s).sensors = s.sensors ∧ (sweepAct answer a addr s).intake = s.intake ∧ (sweepAct answer a addr s).signals = s.signals ∧ (sweepAct answer a addr s).freeCount = s.freeCount ∧ (sweepAct answer a addr s).pending = s.pending := by
  unfold sweepAct
  refine ⟨?_, ?_, ?_, ?_, ?_, ?_, ?_, ?_, ?_⟩ <;> (try dsimp only) <;> (repeat' split) <;> simp

@[simp] theorem commitCommand_keeps (w : Word) (s : State) :
    (commitCommand w s).links = s.links ∧ (commitCommand w s).pending = s.pending := by
  unfold commitCommand
  refine ⟨?_, ?_⟩ <;> (try dsimp only) <;> (repeat' split) <;> simp

@[simp] theorem holdExpiry_keeps (s : State) :
    (holdExpiry s).tracker = s.tracker ∧ (holdExpiry s).sequencer = s.sequencer ∧ (holdExpiry s).generator = s.generator ∧ (holdExpiry s).servos = s.servos ∧ (holdExpiry s).links = s.links ∧ (holdExpiry s).sensors = s.sensors ∧ (holdExpiry s).intake = s.intake ∧ (holdExpiry s).loader = s.loader ∧ (holdExpiry s).reporter = s.reporter ∧ (holdExpiry s).signals = s.signals ∧ (holdExpiry s).freeCount = s.freeCount ∧ (holdExpiry s).pending = s.pending := by
  unfold holdExpiry
  refine ⟨?_, ?_, ?_, ?_, ?_, ?_, ?_, ?_, ?_, ?_, ?_, ?_⟩ <;> (try dsimp only) <;> (repeat' split) <;> simp

@[simp] theorem stopPhaseTimer_keeps (s : State) :
    (stopPhaseTimer s).tracker = s.tracker ∧ (stopPhaseTimer s).generator = s.generator ∧ (stopPhaseTimer s).servos = s.servos ∧ (stopPhaseTimer s).links = s.links ∧ (stopPhaseTimer s).sensors = s.sensors ∧ (stopPhaseTimer s).intake = s.intake ∧ (stopPhaseTimer s).path = s.path ∧ (stopPhaseTimer s).loader = s.loader ∧ (stopPhaseTimer s).reporter = s.reporter ∧ (stopPhaseTimer s).signals = s.signals ∧ (stopPhaseTimer s).freeCount = s.freeCount ∧ (stopPhaseTimer s).pending = s.pending := by
  unfold stopPhaseTimer
  refine ⟨?_, ?_, ?_, ?_, ?_, ?_, ?_, ?_, ?_, ?_, ?_, ?_⟩ <;> (try dsimp only) <;> (repeat' split) <;> simp

@[simp] theorem vacuumExpiry_keeps (s : State) :
    (vacuumExpiry s).links = s.links ∧ (vacuumExpiry s).pending = s.pending := by
  unfold vacuumExpiry
  refine ⟨?_, ?_⟩ <;> (try dsimp only) <;> (repeat' split) <;> simp

@[simp] theorem characterizationBegin_keeps (s : State) :
    (characterizationBegin s).links = s.links ∧ (characterizationBegin s).pending = s.pending := by
  unfold characterizationBegin
  refine ⟨?_, ?_⟩ <;> (try dsimp only) <;> (repeat' split) <;> simp

@[simp] theorem reportWriteBegin_keeps (s : State) :
    (reportWriteBegin s).tracker = s.tracker ∧ (reportWriteBegin s).sequencer = s.sequencer ∧ (reportWriteBegin s).generator = s.generator ∧ (reportWriteBegin s).servos = s.servos ∧ (reportWriteBegin s).links = s.links ∧ (reportWriteBegin s).sensors = s.sensors ∧ (reportWriteBegin s).intake = s.intake ∧ (reportWriteBegin s).loader = s.loader ∧ (reportWriteBegin s).signals = s.signals ∧ (reportWriteBegin s).freeCount = s.freeCount ∧ (reportWriteBegin s).pending = s.pending := by
  unfold reportWriteBegin
  refine ⟨?_, ?_, ?_, ?_, ?_, ?_, ?_, ?_, ?_, ?_, ?_⟩ <;> (try dsimp only) <;> (repeat' split) <;> simp

end Sys2Proof.Machine
end

