-- ==== Sys2Proof/Laws/React.lean ====
section
/-! SUPPORT. What the end of an event does: nothing when it is quiet, and what quietness depends on. -/

namespace Sys2Proof.Machine

variable {s a b : State}

theorem react_of_quiet (n : Nat) (h : Quiet s) : react n s = s := by
  cases n with
  | zero => rfl
  | succ n => unfold react; rw [h]

theorem react_succ (n : Nat) {t : State} (h : reactOnce s = some t) : react (n + 1) s = react n t := by
  show (match reactOnce s with | some s1 => react n s1 | none => s) = _
  rw [h]

theorem finishEvent_of_quiet (h : Quiet s) : finishEvent s = arbitrate s := by
  unfold finishEvent; rw [react_of_quiet _ h]

/-- An event in which one thing more comes about. -/
theorem finishEvent_of_once {t : State} (h : reactOnce s = some t) (q : Quiet t) : finishEvent s = arbitrate t := by
  unfold finishEvent
  rw [show reactFuel = 63 + 1 from rfl, react_succ _ h, react_of_quiet _ q]

theorem orElse_none_iff {α : Type} (x y : Option α) : (x <|> y) = none ↔ x = none ∧ y = none := by
  cases x <;> simp

theorem settlementEvent_none_iff : settlementEvent s = none ↔ settlementDue s = none := by
  unfold settlementEvent; exact Option.map_eq_none_iff

theorem handOverEvent_none_iff : handOverEvent s = none ↔ handOverDue s = none := by
  unfold handOverEvent; exact Option.map_eq_none_iff

/-- Nothing is quiet but a state with no report, no position condition, no settlement and no hand-over due. -/
theorem quiet_iff : Quiet s ↔ s.signals = [] ∧ positionEvent s = none ∧ settlementDue s = none ∧ handOverDue s = none := by
  unfold Quiet reactOnce
  cases s.signals with
  | cons g l => simp
  | nil => simp only [orElse_none_iff, settlementEvent_none_iff, handOverEvent_none_iff, true_and]

/-- A waiting settlement is not due where the same one was not, with what keeps it waiting still there. -/
theorem settlementDue_none_of (h : settlementDue a = none) (l : b.generator.loadSet = a.generator.loadSet)
    (c : ∀ p, canSettle p b = true → canSettle p a = true) : settlementDue b = none := by
  revert h
  unfold settlementDue
  rw [l]
  split
  · next p _ =>
    split
    · simp
    · next n => intro _; rw [if_neg fun k => n (c p k)]
  · simp

/-- Whether a settlement can begin is a matter of the generator and of the own accesses. -/
theorem canSettle_congr (p : Nat) (g : b.generator = a.generator) (c : b.path.claims = a.path.claims) (o : b.path.port = a.path.port) :
    canSettle p b = canSettle p a := by
  unfold canSettle fetching outstanding; rw [g, c, o]

theorem settlementDue_congr (g : b.generator = a.generator) (c : b.path.claims = a.path.claims) (o : b.path.port = a.path.port)
    (h : settlementDue a = none) : settlementDue b = none :=
  settlementDue_none_of h (by rw [g]) (fun p k => (canSettle_congr p g c o) ▸ k)

/-- With no settlement waiting none is due. -/
theorem settlementDue_of_none (h : s.generator.loadSet = none) : settlementDue s = none := by
  unfold settlementDue; rw [h]

/-- Each position condition is absent. -/
structure NoPositionEvent (s : State) : Prop where
  held : heldRelease s = none
  decision : decisionDue s = none
  noShow : noShowDue s = none
  erase : eraseDue s = none
  reposition : repositionDue s = none
  blank : blankDue s = none
  bot : botDue s = none
  eot : eotDue s = none
  near : rewindNear s = none
  limit : rewindLimit s = none
  leader : leaderDue s = none

theorem positionEvent_none_iff : positionEvent s = none ↔ NoPositionEvent s := by
  unfold positionEvent
  simp only [orElse_none_iff]
  constructor
  · rintro ⟨h1, h2, h3, h4, h5, h6, h7, h8, h9, h10, h11⟩
    exact ⟨h1, h2, h3, h4, h5, h6, h7, h8, h9, h10, h11⟩
  · intro h
    exact ⟨h.held, h.decision, h.noShow, h.erase, h.reposition, h.blank, h.bot, h.eot, h.near, h.limit, h.leader⟩

/-- What the end of an event looks at, alike in two states: all but the Block Tracker, the links, the sensors, the reports,
and what the ports hold but for a held read. -/
structure SameView (a b : State) : Prop where
  sequencer : b.sequencer = a.sequencer
  slowing : a.generator.mode = .decel ∨ a.generator.mode = .fallback → b.generator.mode = .decel ∨ b.generator.mode = .fallback
  active : b.generator.active = a.generator.active
  tape : b.servos.t = a.servos.t
  groupB : b.loader.groupB = a.loader.groupB
  order : b.runningOrder = a.runningOrder
  queue : b.intake.queue = a.intake.queue
  suspended : b.intake.suspended = a.intake.suspended
  running : b.intake.running = a.intake.running
  holding : b.holding = a.holding
  sweep : b.path.sweep = a.path.sweep
  signals : b.signals = a.signals
  settlement : settlementDue a = none → settlementDue b = none

theorem noPositionEvent_of_sameView (v : SameView a b) (h : NoPositionEvent a) : NoPositionEvent b := by
  obtain ⟨e1, e2, e2', e3, e4, e5, _, _, _, e6, _, _, _⟩ := v
  obtain ⟨h1, h2, h3, h4, h5, h6, h7, h8, h9, h10, h11⟩ := h
  constructor
  · revert h1; unfold heldRelease releaseCondition State.tapePos State.groupB
    simp only [e1, e3, e4, e5, e6]; split <;> simp
  · revert h2; unfold decisionDue State.tapePos
    simp only [e1, e3]; split <;> simp
  · revert h3; unfold noShowDue State.movingAs State.tapePos State.groupB
    simp only [e1, e3, e4]; split <;> simp
  · revert h4; unfold eraseDue State.movingAs State.tapePos State.distance
    simp only [e1, e2', e3]; split <;> simp
  · revert h5; unfold repositionDue State.movingAs State.tapePos State.distance
    simp only [e1, e2', e3]; split <;> simp
  · revert h6; unfold blankDue State.readingUnderway State.tapePos State.groupB
    simp only [e1, e3, e4]; split <;> simp
  · revert h7; unfold botDue State.tapePos
    simp only [e1, e3]; split <;> simp
  · revert h8; unfold eotDue State.beyondEot State.tapePos State.groupB
    simp only [e1, e3, e4, e5]; split <;> simp
  · revert h9; unfold rewindNear State.rewindStep State.farFromLoadPoint State.tapePos State.groupB
    simp only [e1, e3, e4]; split <;> simp
  · revert h10; unfold rewindLimit State.rewindStep State.tapePos State.groupB
    simp only [e1, e3, e4]; split <;> simp
  · revert h11; unfold leaderDue State.tapePos State.distance
    simp only [e1, e2', e3]; split
    · simp only [ite_eq_right_iff, reduceCtorEq, imp_false, Bool.and_eq_true, decide_eq_true_eq, Bool.not_eq_true',
        Bool.or_eq_false_iff, decide_eq_false_iff_not, not_and]
      intro h p f
      exact h ⟨p.1, fun c => (e2 (.inl c)).elim p.2.1 p.2.2, fun c => (e2 (.inr c)).elim p.2.1 p.2.2⟩ f
    · simp

theorem quiet_of_sameView (v : SameView a b) (h : Quiet a) : Quiet b := by
  obtain ⟨h1, h2, hs, h3⟩ := quiet_iff.mp h
  refine quiet_iff.mpr ⟨v.signals ▸ h1, ?_, v.settlement hs, ?_⟩
  · exact positionEvent_none_iff.mpr (noPositionEvent_of_sameView v (positionEvent_none_iff.mp h2))
  · revert h3
    unfold handOverDue
    simp only [v.queue, v.suspended, v.running, v.sweep]
    split
    · simp
    · split <;> simp

/-- No position condition holds when the transport neither moves, rewinds nor winds the leader. -/
theorem positionEvent_of_still (h : s.sequencer.transport = .unthreaded ∨ s.sequencer.transport = .stopped ∨
    s.sequencer.transport = .faulted ∨ s.sequencer.transport = .loading) (l : s.sequencer.phase ≠ some .leader) :
    positionEvent s = none := by
  apply positionEvent_none_iff.mpr
  constructor
  · unfold heldRelease releaseCondition; rcases h with h | h | h | h <;> simp only [h] <;> split <;> simp
  · unfold decisionDue; rcases h with h | h | h | h <;> simp only [h, Transport.moves] <;> split <;> simp
  · unfold noShowDue State.movingAs; rcases h with h | h | h | h <;> simp only [h, Transport.underway] <;> split <;> simp
  · unfold eraseDue State.movingAs; rcases h with h | h | h | h <;> simp only [h, Transport.underway] <;> split <;> simp
  · unfold repositionDue State.movingAs
    rcases h with h | h | h | h <;> simp only [h, Transport.underway, Bool.false_and, Bool.or_self, Bool.and_false] <;> split <;> split <;> simp
  · unfold blankDue State.readingUnderway; rcases h with h | h | h | h <;> simp only [h, Transport.underway] <;> split <;> simp
  · unfold botDue; rcases h with h | h | h | h <;> simp [h, Transport.underway]
  · unfold eotDue; rcases h with h | h | h | h <;> simp [h, Transport.moves]
  · unfold rewindNear State.rewindStep; rcases h with h | h | h | h <;> simp [h]
  · unfold rewindLimit State.rewindStep; rcases h with h | h | h | h <;> simp [h]
  · unfold leaderDue; split <;> simp [l]

/-- The arbiter's turn touches the ports alone. -/
theorem arbitrate_eq (s : State) : arbitrate s = s.onPath fun _ => (arbitrate s).path := by
  unfold arbitrate
  split
  · rfl
  · split
    · unfold grant; split <;> rfl
    · rfl

/-- What the arbiter's turn leaves of the ports. -/
theorem arbitrate_path (s : State) : (arbitrate s).path.configured = s.path.configured ∧
    (arbitrate s).path.descriptors = s.path.descriptors ∧ (arbitrate s).path.slots = s.path.slots ∧
    (arbitrate s).path.commitWord = s.path.commitWord ∧ (arbitrate s).path.sweep = s.path.sweep ∧
    (arbitrate s).path.answers = s.path.answers := by
  unfold arbitrate
  split
  · exact ⟨rfl, rfl, rfl, rfl, rfl, rfl⟩
  · split
    · unfold grant; split <;> exact ⟨rfl, rfl, rfl, rfl, rfl, rfl⟩
    · exact ⟨rfl, rfl, rfl, rfl, rfl, rfl⟩

theorem arbitrate_of_busy {x : PortTxn} (h : s.path.port = some x) : arbitrate s = s := by
  unfold arbitrate; rw [h]

end Sys2Proof.Machine
end

