-- ==== Sys2Proof/Laws/Ops.lean ====
section
/-! SUPPORT. What the shared operations do to the blocks they change: marks, events, records, results. -/

namespace Sys2Proof.Machine

variable {s : State}

/-! ### Marks -/

/-- The dirty list after a mark. -/
def marked (n : RecordName) (d : List RecordName) : List RecordName := if n ∈ d then d else d ++ [n]

theorem mark_reporter (n : RecordName) (s : State) : (mark n s).reporter = { s.reporter with dirty := marked n s.reporter.dirty } := by
  unfold mark marked State.onReporter; dsimp only; split <;> rfl

theorem mem_marked (n : RecordName) (d : List RecordName) : n ∈ marked n d := by
  unfold marked; split
  · assumption
  · simp

theorem mem_marked_of_mem (n : RecordName) {m : RecordName} {d : List RecordName} (h : m ∈ d) : m ∈ marked n d := by
  unfold marked; split
  · exact h
  · exact List.mem_append_left _ h

/-- But for the dirty list, a mark leaves the Report Writer as it is. -/
@[simp] theorem mark_reporter_keeps (n : RecordName) (s : State) :
    (mark n s).reporter.configured = s.reporter.configured ∧ (mark n s).reporter.images = s.reporter.images ∧
    (mark n s).reporter.updates = s.reporter.updates ∧ (mark n s).reporter.writing = s.reporter.writing ∧
    (mark n s).reporter.refreshTimer = s.reporter.refreshTimer ∧ (mark n s).reporter.log = s.reporter.log ∧
    (mark n s).reporter.stored = s.reporter.stored ∧ (mark n s).reporter.writeIndex = s.reporter.writeIndex ∧
    (mark n s).reporter.nextSeq = s.reporter.nextSeq ∧ (mark n s).reporter.dropped = s.reporter.dropped ∧
    (mark n s).reporter.pendingClasses = s.reporter.pendingClasses ∧ (mark n s).reporter.ceiling = s.reporter.ceiling ∧
    (mark n s).reporter.notice = s.reporter.notice := by
  rw [mark_reporter]; exact ⟨rfl, rfl, rfl, rfl, rfl, rfl, rfl, rfl, rfl, rfl, rfl, rfl, rfl⟩

@[simp] theorem markStatusIf_reporter_keeps (c : Bool) (s : State) :
    (markStatusIf c s).reporter.configured = s.reporter.configured ∧ (markStatusIf c s).reporter.images = s.reporter.images ∧
    (markStatusIf c s).reporter.updates = s.reporter.updates ∧ (markStatusIf c s).reporter.writing = s.reporter.writing ∧
    (markStatusIf c s).reporter.refreshTimer = s.reporter.refreshTimer ∧ (markStatusIf c s).reporter.log = s.reporter.log ∧
    (markStatusIf c s).reporter.stored = s.reporter.stored ∧ (markStatusIf c s).reporter.writeIndex = s.reporter.writeIndex ∧
    (markStatusIf c s).reporter.nextSeq = s.reporter.nextSeq ∧ (markStatusIf c s).reporter.dropped = s.reporter.dropped ∧
    (markStatusIf c s).reporter.pendingClasses = s.reporter.pendingClasses ∧
    (markStatusIf c s).reporter.ceiling = s.reporter.ceiling ∧ (markStatusIf c s).reporter.notice = s.reporter.notice := by
  unfold markStatusIf markStatus; split
  · exact mark_reporter_keeps _ _
  · exact ⟨rfl, rfl, rfl, rfl, rfl, rfl, rfl, rfl, rfl, rfl, rfl, rfl, rfl⟩

/-! ### Events -/

@[simp] theorem logEvent_pending (e : Event) (s : State) : (logEvent e s).reporter.pendingClasses = s.reporter.pendingClasses ∧
    (logEvent e s).reporter.ceiling = s.reporter.ceiling := by
  unfold logEvent storeEvent dropEvent markStatus
  dsimp only
  constructor <;> (repeat' split) <;> simp

/-- An event adds its class to the pending set and leaves the ceiling. -/
@[simp] theorem raise_pending (e : Event) (s : State) :
    (raise e s).reporter.pendingClasses = s.reporter.pendingClasses ||| classBit e.name.noticeClass ∧
    (raise e s).reporter.ceiling = s.reporter.ceiling := by
  unfold raise setPendingClasses followNotice
  constructor <;> simp

@[simp] theorem raiseBlock_pending (e : EventName) (i : Fin 16) (d0 d1 : Word) (s : State) :
    (raiseBlock e i d0 d1 s).reporter.pendingClasses = s.reporter.pendingClasses ||| classBit e.noticeClass ∧
    (raiseBlock e i d0 d1 s).reporter.ceiling = s.reporter.ceiling := raise_pending _ _

/-- A class once pending stays so through an event. -/
theorem raise_keeps_class (e : Event) (s : State) {c : Nat} (h : s.reporter.pendingClasses.getLsbD c = true) :
    (raise e s).reporter.pendingClasses.getLsbD c = true := by
  simp [h]

theorem classBit_self (c : Fin 9) : (classBit c).getLsbD c = true := by
  revert c; decide

/-! ### Records -/

/-- A record change at index i: record i is the new one, the others stay; the cursors and the out-of-turn flag stay. -/
theorem setRecord_record (i j : Fin 16) (r : BlockRecord) (s : State) : (setRecord i r s).record j = if i = j then r else s.record j := by
  have e : (setRecord i r s).record j = (s.tracker.records.set i r)[j] := by
    unfold setRecord recount State.record
    dsimp only
    split <;> rfl
  rw [e, Fin.getElem_fin, Vector.getElem_set]
  simp only [Fin.ext_iff]
  rfl

@[simp] theorem setRecord_self (i : Fin 16) (r : BlockRecord) (s : State) : (setRecord i r s).record i = r := by
  rw [setRecord_record, if_pos rfl]

theorem setRecord_other {i j : Fin 16} (r : BlockRecord) (s : State) (h : j ≠ i) : (setRecord i r s).record j = s.record j := by
  rw [setRecord_record, if_neg (fun e => h e.symm)]

@[simp] theorem setRecord_cursors (i : Fin 16) (r : BlockRecord) (s : State) :
    (setRecord i r s).tracker.recordCursor = s.tracker.recordCursor ∧
    (setRecord i r s).tracker.receiveCursor = s.tracker.receiveCursor ∧
    (setRecord i r s).tracker.outOfTurn = s.tracker.outOfTurn := by
  unfold setRecord recount
  dsimp only
  refine ⟨?_, ?_, ?_⟩ <;> split <;> rfl

/-- Only the Block Tracker and the marks change with a record. -/
theorem setRecord_reporter (i : Fin 16) (r : BlockRecord) (s : State) :
    (setRecord i r s).reporter.pendingClasses = s.reporter.pendingClasses := by
  unfold setRecord recount
  dsimp only
  split <;> simp

theorem record_congr {a b : State} (h : a.tracker = b.tracker) (i : Fin 16) : a.record i = b.record i := by
  unfold State.record; rw [h]

/-! ### Results -/

theorem setResult_results (i j : Fin 8) (f : OrderResult → OrderResult) (s : State) :
    (setResult i f s).intake.results[j] = if i = j then f s.intake.results[i] else s.intake.results[j] := by
  have e : (setResult i f s).intake.results[j] = (s.intake.results.set i (f s.intake.results[i]))[j] := by
    unfold setResult
    simp only [mark_keeps]
    rfl
  rw [e, Fin.getElem_fin, Vector.getElem_set]
  simp only [Fin.ext_iff]
  rfl

@[simp] theorem setResult_intake (i : Fin 8) (f : OrderResult → OrderResult) (s : State) :
    (setResult i f s).intake.queue = s.intake.queue ∧ (setResult i f s).intake.suspended = s.intake.suspended ∧
    (setResult i f s).intake.running = s.intake.running ∧ (setResult i f s).intake.taken = s.intake.taken := by
  unfold setResult
  refine ⟨?_, ?_, ?_, ?_⟩ <;> simp

@[simp] theorem setQueue_intake (q : List (Fin 8)) (s : State) : (setQueue q s).intake = { s.intake with queue := q } := by
  unfold setQueue; simp

@[simp] theorem setSuspended_intake (b : Bool) (s : State) : (setSuspended b s).intake = { s.intake with suspended := b } := by
  unfold setSuspended; simp

@[simp] theorem setRunning_intake (r : Option (Fin 8)) (s : State) : (setRunning r s).intake = { s.intake with running := r } := by
  unfold setRunning; simp

end Sys2Proof.Machine
end

