-- ==== Sys2Proof/Laws/Sample.lean ====
section
/-! SUPPORT. What a servo sample does when its tests have no verdict: the generator's work, the commands, the counts. -/

namespace Sys2Proof.Machine

/-! ### Equal inputs, equal readings -/

theorem holding_congr {a b : State} (h : b.path.upper = a.path.upper) : b.holding = a.holding := by
  unfold State.holding; rw [h]

theorem order_congr {a b : State} (h : b.intake = a.intake) : b.runningOrder = a.runningOrder := by
  unfold State.runningOrder State.runningTaken; rw [h]

theorem doIf_true {c : Bool} (h : c = true) (f : State → State) (s : State) : s.doIf c f = f s := by
  unfold State.doIf; simp [h]

theorem doIf_false {c : Bool} (h : c = false) (f : State → State) (s : State) : s.doIf c f = s := by
  unfold State.doIf; simp [h]

/-! ### Verdicts -/

theorem sampleFaults_of_calm (b : Bool) {a : State} (h : Calm a) : sampleFaults b a = a := by
  have h1 : decide (Config.trackingLimit ≤ a.servos.tracking) = false := by
    have := h.tracking
    simp only [decide_eq_false_iff_not, Nat.not_le]; exact this
  unfold sampleFaults
  simp only [h1, h.supply, h.takeup]
  simp

theorem settleTest_of_calm {a : State} (h : Calm a) : settleTest a = a := by
  unfold settleTest; rw [h.looping]; rfl

/-- What the end of an event looks at is not changed from the sequencer's reactions to the counts. -/
theorem sampleCounts_view (s : State) : SameView (react reactFuel (generatorSample s)) (sampleCounts s) := by
  constructor <;>
    first | rfl | (unfold sampleCounts State.runningOrder State.runningTaken; simp) |
      exact settlementDue_congr rfl rfl rfl | (unfold sampleCounts; simp) | (unfold sampleCounts; simp [takeTracking])

/-- A sample that brings nothing about: the counts stand, and the arbiter has its turn. -/
theorem servoSample_of_calm (b : Bool) {s : State} (q : Quiet (generatorSample s)) (h : Calm (sampleCounts s)) :
    servoSample b s = arbitrate (sampleCounts s) ∧
    sampleCounts s = takeWindow (takeTracking (sendCommands s.sequencer.vacuumRequest (closeInterval (generatorSample s)))) := by
  have e := react_of_quiet reactFuel q
  have v := sampleCounts_view s
  rw [e] at v
  refine ⟨?_, by unfold sampleCounts; rw [e]⟩
  unfold servoSample
  rw [sampleFaults_of_calm b h, settleTest_of_calm h, finishEvent_of_quiet (quiet_of_sameView v q)]

/-- The same after one report of the generator. -/
theorem servoSample_of_once (b : Bool) {s t : State} (e : reactOnce (generatorSample s) = some t) (q : Quiet t)
    (h : Calm (sampleCounts s)) :
    servoSample b s = arbitrate (sampleCounts s) ∧
    sampleCounts s = takeWindow (takeTracking (sendCommands s.sequencer.vacuumRequest (closeInterval t))) := by
  have r : react reactFuel (generatorSample s) = t := by
    rw [show reactFuel = 63 + 1 from rfl, react_succ _ e, react_of_quiet _ q]
  have v := sampleCounts_view s
  rw [r] at v
  refine ⟨?_, by unfold sampleCounts; rw [r]⟩
  unfold servoSample
  rw [sampleFaults_of_calm b h, settleTest_of_calm h, finishEvent_of_quiet (quiet_of_sameView v q)]

/-- Converter, commands and counts of a sample, field by field. -/
theorem sampleEnd_spec (v : Bool) (g : State) :
    let a := takeWindow (takeTracking (sendCommands v (closeInterval g)))
    a.links = driveCommands v (closeInterval g) ∧ a.sensors.supply.x = g.sensors.supply.sum / g.sensors.intervalN ∧
    a.sensors.takeup.x = g.sensors.takeup.sum / g.sensors.intervalN ∧ a.sensors.supply.sum = 0 ∧ a.sensors.takeup.sum = 0 ∧
    a.sensors.taken = 0 ∧ a.sensors.intervalN = g.loader.groupB.conversions ∧
    a.servos.t = g.servos.t ∧ a.servos.driveMode = g.servos.driveMode ∧ a.servos.brake = g.servos.brake ∧
    a.servos.supply = g.servos.supply ∧ a.servos.takeup = g.servos.takeup := by
  refine ⟨rfl, ?_, ?_, ?_, ?_, rfl, rfl, rfl, rfl, rfl, rfl, rfl⟩
  all_goals rfl

/-! ### The generator's work -/

@[simp] theorem refreshUrgency_ports (s : State) : (refreshUrgency s).path.upper = s.path.upper ∧
    (refreshUrgency s).path.sweep = s.path.sweep := by
  unfold refreshUrgency urgeFetch; constructor <;> (dsimp only; split <;> split <;> rfl)

@[simp] theorem claimFetch_ports (o : Nat) (h : Option Chain) (u : Bool) (s : State) :
    (claimFetch o h u s).path.upper = s.path.upper ∧ (claimFetch o h u s).path.sweep = s.path.sweep := ⟨rfl, rfl⟩

theorem advanceP_generator (s : State) :
    (advanceP s).generator = { s.generator with p := s.generator.p + signedV s.generator.v s.generator.dir } := by
  unfold advanceP signedV State.onGenerator
  cases hd : s.generator.dir with
  | none => simp only [hd]; cases hs : s.generator; simp_all
  | some d => cases d <;> simp [hd, Int.sub_eq_add_neg]

theorem setV_generator (v : Int) (s : State) : (setV v s).generator = { s.generator with v := (clampInt 0 12800 v).toNat } := by
  unfold setV; simp only [markStatusIf_keeps]; rfl

theorem setV_others (v : Int) (s : State) : (setV v s).path = s.path ∧ (setV v s).loader = s.loader ∧ (setV v s).intake = s.intake ∧
    (setV v s).sequencer = s.sequencer ∧ (setV v s).tracker = s.tracker ∧ (setV v s).servos = s.servos ∧
    (setV v s).signals = s.signals := by
  unfold setV; simp

theorem beginSegment_spec (w : Segment) (s : State) :
    (beginSegment w s).generator = { s.generator with
      working := some w, reload := none, run := s.generator.run.map fun r => { r with segments := r.segments + 1, lateRaised := false } } ∧
    (beginSegment w s).path.upper = s.path.upper ∧ (beginSegment w s).path.sweep = s.path.sweep := by
  unfold beginSegment claimFetch makeClaim; dsimp only; refine ⟨?_, ?_, ?_⟩ <;> split <;> rfl

theorem dropChain_generator (s : State) :
    (dropChain s).generator = { s.generator with run := none, working := none, reload := none } := rfl

/-- A chain abandoned above V = 0 falls back with the slope of R72 and reports PROFILE_FAULT. -/
theorem abandonChain_spec {s : State} (hv : s.generator.v ≠ 0) {r : RunningChain} (hr : s.generator.run = some r) :
    (abandonChain s).generator = { s.generator with
      run := none, working := none, reload := none, mode := .fallback, fallSlope := (s.generator.v + 15) / 16 } ∧
    (abandonChain s).signals = s.signals ++ [.profileFault (!r.chain.isStart && !r.toCreep)] ∧
    (abandonChain s).path.upper = s.path.upper ∧ (abandonChain s).path.sweep = s.path.sweep ∧
    (abandonChain s).reporter = s.reporter ∧ (abandonChain s).servos = s.servos := by
  unfold abandonChain; dsimp only; rw [if_neg hv]; simp only [hr]; exact ⟨rfl, rfl, rfl, rfl, rfl, rfl⟩

/-- In HOLD the sample's work is P alone. -/
theorem generatorSample_hold {s : State} (h : s.generator.mode = .hold) :
    (generatorSample s).generator = { s.generator with
      p := if s.servos.driveMode = .off then 256 * s.servos.t else s.generator.p + signedV s.generator.v s.generator.dir } := by
  have e : stepV s = s := by unfold stepV; rw [h]
  unfold generatorSample
  rw [e]
  have k : (refreshUrgency (followTape (advanceP s))).generator = (followTape (advanceP s)).generator := by simp
  rw [k]
  unfold followTape
  by_cases ho : s.servos.driveMode = .off
  · simp [h, ho, advanceP_generator]
  · simp [ho, advanceP_generator]

theorem generatorSample_hold_keeps {s : State} (h : s.generator.mode = .hold) : (generatorSample s).tracker = s.tracker ∧
    (generatorSample s).sequencer = s.sequencer ∧ (generatorSample s).servos = s.servos ∧ (generatorSample s).links = s.links ∧
    (generatorSample s).sensors = s.sensors ∧ (generatorSample s).intake = s.intake ∧ (generatorSample s).loader = s.loader ∧
    (generatorSample s).reporter = s.reporter ∧ (generatorSample s).signals = s.signals ∧
    (generatorSample s).path.upper = s.path.upper ∧ (generatorSample s).path.sweep = s.path.sweep := by
  have e : stepV s = s := by unfold stepV; rw [h]
  unfold generatorSample
  rw [e]
  simp

/-- Outside HOLD the tape is not followed. -/
theorem generatorSample_moving (s : State) (h : (stepV s).generator.mode ≠ .hold) :
    generatorSample s = refreshUrgency (advanceP (stepV s)) := by
  unfold generatorSample followTape
  have : (advanceP (stepV s)).generator.mode ≠ .hold := by rw [advanceP_generator]; exact h
  simp [this]

end Sys2Proof.Machine
end

