-- ==== Sys2Proof/Laws/SoundBase.lean ====
section
/-! SUPPORT. Soundness and the updates of one block: what an update must leave alone for `Sound` to stay. -/

namespace Sys2Proof.Machine

/-- What of the Report Writer `Sound` speaks of, unchanged. -/
structure ReporterKept (r q : Reporter) : Prop where
  pendingClasses : q.pendingClasses = r.pendingClasses
  ceiling : q.ceiling = r.ceiling
  notice : q.notice = r.notice
  dirty : q.dirty = r.dirty
  stored : q.stored = r.stored
  refresh : q.refreshTimer.isSome = r.refreshTimer.isSome

/-- What of the Motion Sequencer `Sound` speaks of, unchanged. -/
structure SequencerKept (q r : Sequencer) : Prop where
  transport : r.transport = q.transport
  phase : r.phase = q.phase
  dir : r.dir = q.dir
  purpose : r.purpose = q.purpose

/-- What of the servos `Sound` speaks of, unchanged. -/
structure ServosKept (v w : Servos) : Prop where
  driveMode : w.driveMode = v.driveMode
  brake : w.brake = v.brake

/-- What of a column `Sound` speaks of, unchanged. -/
structure ColumnKept (c d : ColumnRecord) : Prop where
  x : d.x = c.x
  sum : d.sum = c.sum

/-- What of the Column and Sensor Unit `Sound` speaks of, unchanged. -/
structure SensorsKept (n m : Sensors) : Prop where
  supply : ColumnKept n.supply m.supply
  takeup : ColumnKept n.takeup m.takeup
  taken : m.taken = n.taken
  interval : m.intervalN = n.intervalN

/-- `Sound`, with a queue of waiting commands: what every operation within a step keeps. -/
structure Kept (pq : List Instr) (s : State) : Prop extends Sound s where
  queue : s.pending = pq

variable {pq : List Instr} {s : State}

theorem sound_onTracker (f : Tracker → Tracker) (hf : ∀ a, (f a).records = a.records) (h : Kept pq s) : Kept pq (s.onTracker f) :=
  have e : ∀ i, (s.onTracker f).record i = s.record i := fun i => by
    unfold State.record; simp only [onTracker_tracker, hf]
  { h with tape := fun i => by rw [e]; exact h.tape i }

theorem sound_onSequencer (f : Sequencer → Sequencer) (hf : ∀ q, SequencerKept q (f q)) (h : Kept pq s) :
    Kept pq (s.onSequencer f) :=
  have e := hf s.sequencer
  { h with
    drive := by simp only [onSequencer_servos, onSequencer_sequencer, e.transport, e.phase]; exact h.drive
    refresh := by simp only [onSequencer_reporter, onSequencer_sequencer, e.transport]; exact h.refresh
    still := by simp only [onSequencer_sequencer, e.transport, e.dir, e.purpose]; exact h.still }

theorem sound_onServos (f : Servos → Servos) (hf : ∀ v, ServosKept v (f v)) (h : Kept pq s) : Kept pq (s.onServos f) :=
  have e := hf s.servos
  { h with
    drive := by simp only [onServos_servos, onServos_sequencer, e.driveMode]; exact h.drive
    brake := by simp only [onServos_servos, e.driveMode, e.brake]; exact h.brake }

theorem sound_onIntake (f : Intake → Intake) (h : Kept pq s) : Kept pq (s.onIntake f) := { h with }
theorem sound_onPath (f : Path → Path) (h : Kept pq s) : Kept pq (s.onPath f) := { h with }
theorem sound_signal (g : Signal) (h : Kept pq s) : Kept pq (s.signal g) := { h with }
theorem sound_setSignals (l : List Signal) (h : Kept pq s) : Kept pq (s.setSignals l) := { h with }
theorem sound_setFreeCount (n : Nat) (h : Kept pq s) : Kept pq (s.setFreeCount n) := { h with }

theorem sound_onGenerator (f : Generator → Generator) (hf : ∀ g, (f g).v = g.v) (h : Kept pq s) : Kept pq (s.onGenerator f) :=
  { h with v := by simp only [onGenerator_generator, hf]; exact h.v }

theorem sound_onReporter (f : Reporter → Reporter) (hf : ∀ r, ReporterKept r (f r)) (h : Kept pq s) : Kept pq (s.onReporter f) :=
  { h with
    notice := by have k := hf s.reporter; simp only [onReporter_reporter, onReporter_loader, k.notice, k.pendingClasses, k.ceiling]; exact h.notice
    dirty := by have k := hf s.reporter; simp only [onReporter_reporter, k.dirty]; exact h.dirty
    stored := by have k := hf s.reporter; simp only [onReporter_reporter, k.stored]; exact h.stored
    refresh := by have k := hf s.reporter; simp only [onReporter_reporter, onReporter_sequencer, k.refresh]; exact h.refresh }

theorem within_of_kept {n : Nat} {c d : ColumnRecord} (k : ColumnKept c d) (h : c.Within n) : d.Within n :=
  ⟨k.x ▸ h.x, k.sum ▸ h.sum⟩

theorem sound_onSensors (f : Sensors → Sensors) (hf : ∀ n, SensorsKept n (f n)) (h : Kept pq s) : Kept pq (s.onSensors f) :=
  have k := hf s.sensors
  { h with
    columnS := by simp only [onSensors_sensors, k.taken]; exact within_of_kept k.supply h.columnS
    columnT := by simp only [onSensors_sensors, k.taken]; exact within_of_kept k.takeup h.columnT
    taken := by simp only [onSensors_sensors, k.taken, k.interval]; exact h.taken
    interval := by simp only [onSensors_sensors, k.interval]; exact h.interval }

theorem sound_onLoader (f : Loader → Loader) (hm : ∀ l, (f l).groupC = l.groupC) (hc : ∀ l, (f l).groupB = l.groupB)
    (h : Kept pq s) : Kept pq (s.onLoader f) :=
  { h with
    notice := by simp only [onLoader_reporter, onLoader_loader, hm]; exact h.notice
    conversions := by simp only [onLoader_loader, hc]; exact h.conversions }

theorem kept_tape {t : State} (i : Fin 16) (h : Kept pq t) : (t.record i).tapeLength = tapeLengthOf (t.record i).kind (t.record i).length :=
  h.tape i

theorem sound_doIf {f : State → State} (c : Bool) (hf : ∀ a, Kept pq a → Kept pq (f a)) (h : Kept pq s) : Kept pq (s.doIf c f) := by
  unfold State.doIf; split
  · exact hf s h
  · exact h

theorem sound_foldl {α : Type} (f : State → α → State) (hf : ∀ a i, Kept pq a → Kept pq (f a i)) (l : List α) (h : Kept pq s) :
    Kept pq (l.foldl f s) := by
  induction l generalizing s with
  | nil => exact h
  | cons i l ih => exact ih (hf s i h)

theorem clampInt_within {lo hi : Int} (x : Int) (hl : lo ≤ hi) : lo ≤ clampInt lo hi x ∧ clampInt lo hi x ≤ hi := by
  unfold clampInt; omega

theorem sound_mark (n : RecordName) (h : Kept pq s) : Kept pq (mark n s) := by
  unfold mark
  refine { h with notice := ?_, dirty := ?_, stored := ?_, refresh := ?_ } <;>
    simp only [onReporter_reporter, onReporter_loader, onReporter_sequencer] <;> split
  · exact h.notice
  · exact h.notice
  · exact h.dirty
  · next hn => exact List.nodup_append.mpr ⟨h.dirty, by simp, fun a ha b hb => by
      rw [List.mem_singleton.mp hb]; exact fun e => hn (e ▸ ha)⟩
  · exact h.stored
  · exact h.stored
  · exact h.refresh
  · exact h.refresh

theorem sound_setV (v : Int) (h : Kept pq s) : Kept pq (setV v s) := by
  have hv : (clampInt 0 Config.vLimit v).toNat ≤ Config.vLimit := by unfold clampInt; omega
  have k : Kept pq (s.onGenerator fun g => { g with v := (clampInt 0 Config.vLimit v).toNat }) := { h with v := hv }
  unfold setV markStatusIf markStatus
  dsimp only
  split
  · exact sound_mark _ k
  · exact k

end Sys2Proof.Machine
end

