-- ==== Sys2Proof/Laws/SoundMotion.lean ====
section
/-! SUPPORT. Soundness: the shared operations up to recovery, one lemma each. -/

namespace Sys2Proof.Machine

variable {pq : List Instr} {s : State}

theorem sound_markStatus (h : Kept pq s) : Kept pq (markStatus s) := by
  unfold markStatus
  try dsimp only
  repeat' (first | assumption | with_reducible apply sound_mark | split)

theorem sound_markStatusIf (c : Bool) (h : Kept pq s) : Kept pq (markStatusIf c s) := by
  unfold markStatusIf
  try dsimp only
  repeat' (first | assumption | with_reducible apply sound_markStatus | split)

theorem sound_followNotice (h : Kept pq s) : Kept pq (followNotice s) := { h with notice := rfl }

/-- `Sound` but for NOTICE. -/
def SoundBut (pq : List Instr) (s : State) : Prop := Kept pq (followNotice s)

theorem soundBut_of_sound (h : Kept pq s) : SoundBut pq s := sound_followNotice h

theorem soundBut_mark (n : RecordName) (h : SoundBut pq s) : SoundBut pq (mark n s) := by
  have k : Kept pq (mark n (followNotice s)) := sound_mark n h
  have e : followNotice (mark n s) = followNotice (mark n (followNotice s)) := by
    unfold mark followNotice State.onReporter; dsimp only; split <;> rfl
  unfold SoundBut; rw [e]; exact sound_followNotice k

theorem soundBut_markStatusIf (c : Bool) (h : SoundBut pq s) : SoundBut pq (markStatusIf c s) := by
  unfold markStatusIf markStatus; split
  · exact soundBut_mark _ h
  · exact h

theorem sound_setPendingClasses (p : BitVec 9) (h : Kept pq s) : Kept pq (setPendingClasses p s) :=
  soundBut_markStatusIf _ (show SoundBut pq (s.onReporter fun r => { r with pendingClasses := p }) from { h with notice := rfl })

theorem sound_setCeiling (c : Nat) (h : Kept pq s) : Kept pq (setCeiling c s) :=
  soundBut_markStatusIf _ (show SoundBut pq (s.onReporter fun r => { r with ceiling := c }) from { h with notice := rfl })

theorem sound_dropEvent (h : Kept pq s) : Kept pq (dropEvent s) := by
  unfold dropEvent
  try dsimp only
  repeat' (first | assumption | (intro _; exact ⟨rfl, rfl, rfl, rfl, rfl, rfl⟩) | (intro _; split <;> exact ⟨rfl, rfl, rfl, rfl, rfl, rfl⟩) | with_reducible apply sound_markStatus | with_reducible apply sound_onReporter | split)

theorem sound_storeEvent (g : LogRecord) (h : Kept pq s) : Kept pq (storeEvent g s) := by
  unfold storeEvent
  apply sound_mark
  exact { h with stored := by simp only [onReporter_reporter]; omega }

theorem sound_logEvent (e : Event) (h : Kept pq s) : Kept pq (logEvent e s) := by
  unfold logEvent
  try dsimp only
  repeat' (first | assumption | (intro _; exact ⟨rfl, rfl, rfl, rfl, rfl, rfl⟩) | (intro _; split <;> exact ⟨rfl, rfl, rfl, rfl, rfl, rfl⟩) | with_reducible apply sound_dropEvent | with_reducible apply sound_storeEvent | with_reducible apply sound_onReporter | split)

theorem sound_raise (e : Event) (h : Kept pq s) : Kept pq (raise e s) := by
  unfold raise
  try dsimp only
  repeat' (first | assumption | with_reducible apply sound_mark | with_reducible apply sound_setPendingClasses | with_reducible apply sound_logEvent | split)

theorem sound_raiseBlock (e : EventName) (i : Fin 16) (d0 d1 : Word) (h : Kept pq s) : Kept pq (raiseBlock e i d0 d1 s) := by
  unfold raiseBlock
  try dsimp only
  repeat' (first | assumption | with_reducible apply sound_raise | split)

theorem sound_publishStyle (style : LogStyle) (h : Kept pq s) : Kept pq (publishStyle style s) := by
  unfold publishStyle
  dsimp only
  split
  · apply sound_mark
    apply sound_foldl _ (fun a i ha => sound_mark _ ha)
    exact { h with stored := Nat.zero_le _ }
  · exact h
  · exact h

theorem sound_makeClaim (a : OwnAccess) (urgent : Bool) (h : Kept pq s) : Kept pq (makeClaim a urgent s) := by
  unfold makeClaim
  try dsimp only
  repeat' (first | assumption | with_reducible apply sound_onPath | split)

theorem sound_withdrawClaims (f : OwnAccess → Bool) (h : Kept pq s) : Kept pq (withdrawClaims f s) := by
  unfold withdrawClaims
  try dsimp only
  repeat' (first | assumption | with_reducible apply sound_onPath | split)

theorem sound_urgeFetch (h : Kept pq s) : Kept pq (urgeFetch s) := by
  unfold urgeFetch
  try dsimp only
  repeat' (first | assumption | with_reducible apply sound_onPath | split)

theorem sound_clearAnswers (h : Kept pq s) : Kept pq (clearAnswers s) := sound_onPath _ h

theorem sound_answerUpper (a : BusAnswer) (h : Kept pq s) : Kept pq (answerUpper a s) := by
  unfold answerUpper
  try dsimp only
  repeat' (first | assumption | with_reducible apply sound_onPath | split)

theorem sound_retryHeld (h : Kept pq s) : Kept pq (retryHeld s) := by
  unfold retryHeld
  try dsimp only
  repeat' (first | assumption | with_reducible apply sound_answerUpper | split)

theorem sound_passClaim (t : BusTxn) (h : Kept pq s) : Kept pq (passClaim t s) := by
  unfold passClaim
  try dsimp only
  repeat' (first | assumption | with_reducible apply sound_onPath | split)

theorem sound_releaseHeld (h : Kept pq s) : Kept pq (releaseHeld s) := by
  unfold releaseHeld
  try dsimp only
  repeat' (first | assumption | with_reducible apply sound_passClaim | split)

theorem sound_grant (t : Turn) (h : Kept pq s) : Kept pq (grant t s) := by
  unfold grant
  try dsimp only
  repeat' (first | assumption | with_reducible apply sound_onPath | split)

theorem sound_arbitrate (h : Kept pq s) : Kept pq (arbitrate s) := by
  unfold arbitrate
  try dsimp only
  repeat' (first | assumption | with_reducible apply sound_grant | split)

theorem sound_freePort (h : Kept pq s) : Kept pq (freePort s) := by
  unfold freePort
  try dsimp only
  repeat' (first | assumption | with_reducible apply sound_onPath | split)

theorem sound_setGenDir (d : Option Direction) (h : Kept pq s) : Kept pq (setGenDir d s) := by
  unfold setGenDir
  try dsimp only
  repeat' (first | assumption | (intro _; rfl) | (intro _; split <;> rfl) | (intro _; exact ⟨rfl, rfl⟩) | with_reducible apply sound_onServos | with_reducible apply sound_onGenerator | split)

theorem sound_advanceP (h : Kept pq s) : Kept pq (advanceP s) := by
  unfold advanceP
  try dsimp only
  repeat' (first | assumption | (intro _; rfl) | (intro _; split <;> rfl) | with_reducible apply sound_onGenerator | split)

theorem sound_claimFetch (offset : Nat) (head : Option Chain) (urgent : Bool) (h : Kept pq s) : Kept pq (claimFetch offset head urgent s) := by
  unfold claimFetch
  try dsimp only
  repeat' (first | assumption | with_reducible apply sound_makeClaim | split)

theorem sound_claimHead (c : Chain) (urgent : Bool) (h : Kept pq s) : Kept pq (claimHead c urgent s) := by
  unfold claimHead
  try dsimp only
  repeat' (first | assumption | with_reducible apply sound_claimFetch | split)

theorem sound_dropChain (h : Kept pq s) : Kept pq (dropChain s) := by
  unfold dropChain
  try dsimp only
  repeat' (first | assumption | (intro _; rfl) | (intro _; split <;> rfl) | with_reducible apply sound_withdrawClaims | with_reducible apply sound_onGenerator | split)

theorem sound_refreshUrgency (h : Kept pq s) : Kept pq (refreshUrgency s) := by
  unfold refreshUrgency
  try dsimp only
  repeat' (first | assumption | with_reducible apply sound_urgeFetch | split)

theorem sound_beginSegment (w : Segment) (h : Kept pq s) : Kept pq (beginSegment w s) := by
  unfold beginSegment
  try dsimp only
  repeat' (first | assumption | (intro _; rfl) | (intro _; split <;> rfl) | with_reducible apply sound_claimFetch | with_reducible apply sound_onGenerator | split)

theorem sound_beginStart (q : StartRequest) (h : Kept pq s) : Kept pq (beginStart q s) := by
  unfold beginStart
  try dsimp only
  repeat' (first | assumption | (intro _; rfl) | (intro _; split <;> rfl) | with_reducible apply sound_setGenDir | with_reducible apply sound_claimHead | with_reducible apply sound_dropChain | with_reducible apply sound_onGenerator | split)

theorem sound_takeWaiting (h : Kept pq s) : Kept pq (takeWaiting s) := by
  unfold takeWaiting
  try dsimp only
  repeat' (first | assumption | (intro _; rfl) | (intro _; split <;> rfl) | with_reducible apply sound_beginStart | with_reducible apply sound_onGenerator | split)

theorem sound_endStop (h : Kept pq s) : Kept pq (endStop s) := by
  unfold endStop
  try dsimp only
  repeat' (first | assumption | (intro _; rfl) | (intro _; split <;> rfl) | with_reducible apply sound_setV | with_reducible apply sound_setGenDir | with_reducible apply sound_dropChain | with_reducible apply sound_takeWaiting | with_reducible apply sound_signal | with_reducible apply sound_onGenerator | split)

theorem sound_enterCruise (companion : Chain) (h : Kept pq s) : Kept pq (enterCruise companion s) := by
  unfold enterCruise
  try dsimp only
  repeat' (first | assumption | (intro _; rfl) | (intro _; split <;> rfl) | with_reducible apply sound_claimHead | with_reducible apply sound_dropChain | with_reducible apply sound_onGenerator | split)

theorem sound_endChain (r : RunningChain) (h : Kept pq s) : Kept pq (endChain r s) := by
  unfold endChain
  try dsimp only
  repeat' (first | assumption | with_reducible apply sound_endStop | with_reducible apply sound_enterCruise | with_reducible apply sound_signal | split)

theorem sound_abandonChain (h : Kept pq s) : Kept pq (abandonChain s) := by
  unfold abandonChain
  try dsimp only
  repeat' (first | assumption | (intro _; rfl) | (intro _; split <;> rfl) | with_reducible apply sound_dropChain | with_reducible apply sound_endStop | with_reducible apply sound_signal | with_reducible apply sound_onGenerator | split)

theorem sound_startRequest (c : Chain) (d : Direction) (h : Kept pq s) : Kept pq (startRequest c d s) := by
  unfold startRequest
  try dsimp only
  repeat' (first | assumption | (intro _; rfl) | (intro _; split <;> rfl) | with_reducible apply sound_beginStart | with_reducible apply sound_onGenerator | split)

theorem sound_beginStop (c : Chain) (toCreep : Bool) (h : Kept pq s) : Kept pq (beginStop c toCreep s) := by
  unfold beginStop
  try dsimp only
  repeat' (first | assumption | (intro _; rfl) | (intro _; split <;> rfl) | with_reducible apply sound_onGenerator | split)

theorem sound_stopFromCruise (c : Chain) (toCreep : Bool) (h : Kept pq s) : Kept pq (stopFromCruise c toCreep s) := by
  unfold stopFromCruise
  try dsimp only
  repeat' (first | assumption | with_reducible apply sound_withdrawClaims | with_reducible apply sound_urgeFetch | with_reducible apply sound_claimHead | with_reducible apply sound_refreshUrgency | with_reducible apply sound_beginSegment | with_reducible apply sound_beginStop | split)

theorem sound_stopFromAccel (c : Chain) (toCreep : Bool) (h : Kept pq s) : Kept pq (stopFromAccel c toCreep s) := by
  unfold stopFromAccel
  try dsimp only
  repeat' (first | assumption | with_reducible apply sound_claimHead | with_reducible apply sound_dropChain | with_reducible apply sound_beginStop | split)

theorem sound_stopRequest (c : Chain) (h : Kept pq s) : Kept pq (stopRequest c s) := by
  unfold stopRequest
  try dsimp only
  repeat' (first | assumption | (intro _; rfl) | (intro _; split <;> rfl) | with_reducible apply sound_setGenDir | with_reducible apply sound_dropChain | with_reducible apply sound_stopFromCruise | with_reducible apply sound_stopFromAccel | with_reducible apply sound_signal | with_reducible apply sound_onGenerator | split)

theorem sound_trimToCreep (h : Kept pq s) : Kept pq (trimToCreep s) := by
  unfold trimToCreep
  try dsimp only
  repeat' (first | assumption | (intro _; rfl) | (intro _; split <;> rfl) | with_reducible apply sound_dropChain | with_reducible apply sound_onGenerator | split)

theorem sound_decelToCreep (h : Kept pq s) : Kept pq (decelToCreep s) := by
  unfold decelToCreep
  try dsimp only
  repeat' (first | assumption | with_reducible apply sound_stopFromCruise | with_reducible apply sound_stopFromAccel | with_reducible apply sound_trimToCreep | split)

theorem sound_dropMotion (h : Kept pq s) : Kept pq (dropMotion s) := by
  unfold dropMotion
  try dsimp only
  repeat' (first | assumption | (intro _; rfl) | (intro _; split <;> rfl) | with_reducible apply sound_setV | with_reducible apply sound_setGenDir | with_reducible apply sound_dropChain | with_reducible apply sound_onGenerator | split)

theorem sound_beginTrim (r : RunningChain) (h : Kept pq s) : Kept pq (beginTrim r s) := by
  unfold beginTrim
  try dsimp only
  repeat' (first | assumption | (intro _; rfl) | (intro _; split <;> rfl) | with_reducible apply sound_raise | with_reducible apply sound_dropChain | with_reducible apply sound_onGenerator | split)

theorem sound_trimSample (r : RunningChain) (h : Kept pq s) : Kept pq (trimSample r s) := by
  unfold trimSample
  try dsimp only
  repeat' (first | assumption | with_reducible apply sound_setV | with_reducible apply sound_endChain | split)

theorem sound_segmentOver (r : RunningChain) (w : Segment) (h : Kept pq s) : Kept pq (segmentOver r w s) := by
  unfold segmentOver
  try dsimp only
  repeat' (first | assumption | (intro _; rfl) | (intro _; split <;> rfl) | with_reducible apply sound_beginSegment | with_reducible apply sound_endChain | with_reducible apply sound_beginTrim | with_reducible apply sound_onGenerator | split)

theorem sound_segmentSample (r : RunningChain) (w : Segment) (h : Kept pq s) : Kept pq (segmentSample r w s) := by
  unfold segmentSample
  try dsimp only
  repeat' (first | assumption | (intro _; rfl) | (intro _; split <;> rfl) | with_reducible apply sound_setV | with_reducible apply sound_endStop | with_reducible apply sound_endChain | with_reducible apply sound_segmentOver | with_reducible apply sound_onGenerator | split)

theorem sound_lateSample (r : RunningChain) (h : Kept pq s) : Kept pq (lateSample r s) := by
  unfold lateSample
  try dsimp only
  repeat' (first | assumption | (intro _; rfl) | (intro _; split <;> rfl) | with_reducible apply sound_raise | with_reducible apply sound_abandonChain | with_reducible apply sound_onGenerator | split)

theorem sound_stepV (h : Kept pq s) : Kept pq (stepV s) := by
  unfold stepV
  try dsimp only
  repeat' (first | assumption | with_reducible apply sound_setV | with_reducible apply sound_beginSegment | with_reducible apply sound_endStop | with_reducible apply sound_trimSample | with_reducible apply sound_segmentSample | with_reducible apply sound_lateSample | split)

theorem sound_followTape (h : Kept pq s) : Kept pq (followTape s) := by
  unfold followTape
  try dsimp only
  repeat' (first | assumption | (intro _; rfl) | (intro _; split <;> rfl) | with_reducible apply sound_onGenerator | split)

theorem sound_generatorSample (h : Kept pq s) : Kept pq (generatorSample s) := by
  unfold generatorSample
  try dsimp only
  repeat' (first | assumption | with_reducible apply sound_advanceP | with_reducible apply sound_refreshUrgency | with_reducible apply sound_stepV | with_reducible apply sound_followTape | split)

theorem sound_fetchFailed (addr : Nat) (bad : Bool) (h : Kept pq s) : Kept pq (fetchFailed addr bad s) := by
  unfold fetchFailed
  try dsimp only
  repeat' (first | assumption | with_reducible apply sound_raise | with_reducible apply sound_abandonChain | split)

theorem sound_segmentArrives (w : Segment) (head : Option Chain) (h : Kept pq s) : Kept pq (segmentArrives w head s) := by
  unfold segmentArrives
  try dsimp only
  repeat' (first | assumption | (intro _; rfl) | (intro _; split <;> rfl) | with_reducible apply sound_refreshUrgency | with_reducible apply sound_beginSegment | with_reducible apply sound_onGenerator | split)

theorem sound_fetchAnswered (addr : Nat) (head : Option Chain) (answer : OwnAnswer) (h : Kept pq s) : Kept pq (fetchAnswered addr head answer s) := by
  unfold fetchAnswered
  try dsimp only
  repeat' (first | assumption | with_reducible apply sound_fetchFailed | with_reducible apply sound_segmentArrives | split)

theorem sound_setResult (i : Fin 8) (f : OrderResult → OrderResult) (h : Kept pq s) : Kept pq (setResult i f s) := by
  unfold setResult
  try dsimp only
  repeat' (first | assumption | with_reducible apply sound_mark | with_reducible apply sound_onIntake | split)

theorem sound_finishResult (i : Fin 8) (o : Outcome) (rsn : Reason) (blocks : Nat) (h : Kept pq s) : Kept pq (finishResult i o rsn blocks s) := by
  unfold finishResult
  try dsimp only
  repeat' (first | assumption | with_reducible apply sound_raise | with_reducible apply sound_setResult | split)

theorem sound_cancelResult (i : Fin 8) (rsn : Reason) (h : Kept pq s) : Kept pq (cancelResult i rsn s) := by
  unfold cancelResult
  try dsimp only
  repeat' (first | assumption | with_reducible apply sound_setResult | split)

theorem sound_setQueue (q : List (Fin 8)) (h : Kept pq s) : Kept pq (setQueue q s) := by
  unfold setQueue
  try dsimp only
  repeat' (first | assumption | with_reducible apply sound_markStatusIf | with_reducible apply sound_onIntake | split)

theorem sound_setSuspended (b : Bool) (h : Kept pq s) : Kept pq (setSuspended b s) := by
  unfold setSuspended
  try dsimp only
  repeat' (first | assumption | with_reducible apply sound_markStatusIf | with_reducible apply sound_onIntake | split)

theorem sound_setRunning (r : Option (Fin 8)) (h : Kept pq s) : Kept pq (setRunning r s) := by
  unfold setRunning
  try dsimp only
  repeat' (first | assumption | with_reducible apply sound_markStatusIf | with_reducible apply sound_onIntake | split)

theorem sound_reportEnd (o : Outcome) (rsn : Reason) (blocks : Nat) (h : Kept pq s) : Kept pq (reportEnd o rsn blocks s) := by
  unfold reportEnd
  try dsimp only
  repeat' (first | assumption | with_reducible apply sound_finishResult | with_reducible apply sound_setSuspended | with_reducible apply sound_setRunning | split)

theorem sound_cancelQueue (rsn : Reason) (h : Kept pq s) : Kept pq (cancelQueue rsn s) :=
  sound_setQueue _ (sound_foldl _ (fun _ _ ha => sound_cancelResult _ _ ha) _ h)

theorem sound_takeFree (h : Kept pq s) : Kept pq (takeFree s).2 := sound_setFreeCount _ h

theorem sound_handOver (i : Fin 8) (rest : List (Fin 8)) (h : Kept pq s) : Kept pq (handOver i rest s) := by
  unfold handOver
  exact sound_setRunning _ (sound_setResult _ _ (sound_setQueue _ (sound_takeFree h)))

theorem sound_clearCaptures (h : Kept pq s) : Kept pq (clearCaptures s) := by
  unfold clearCaptures
  try dsimp only
  repeat' (first | assumption | (intro _; exact ⟨rfl, rfl⟩) | with_reducible apply sound_onServos | split)


theorem sound_clearWindowCounts (h : Kept pq s) : Kept pq (clearWindowCounts s) := by
  unfold clearWindowCounts
  try dsimp only
  repeat' (first | assumption | (intro _; exact ⟨⟨rfl, rfl⟩, ⟨rfl, rfl⟩, rfl, rfl⟩) | with_reducible apply sound_onSensors | split)

theorem sound_armWindow (b : Bool) (h : Kept pq s) : Kept pq (armWindow b s) := by
  unfold armWindow
  try dsimp only
  repeat' (first | assumption | (intro _; exact ⟨⟨rfl, rfl⟩, ⟨rfl, rfl⟩, rfl, rfl⟩) | with_reducible apply sound_markStatusIf | with_reducible apply sound_clearWindowCounts | with_reducible apply sound_onSensors | split)


/-- The dirty list replaced. -/
def setDirty (d : List RecordName) (s : State) : State := s.onReporter fun r => { r with dirty := d }

theorem mark_eq (n : RecordName) (h : s.reporter.dirty.Nodup) : ∃ d, d.Nodup ∧ mark n s = setDirty d s := by
  by_cases m : n ∈ s.reporter.dirty
  · refine ⟨s.reporter.dirty, h, ?_⟩
    unfold mark setDirty State.onReporter; simp only [if_pos m]
  · refine ⟨s.reporter.dirty ++ [n], ?_, ?_⟩
    · exact List.nodup_append.mpr ⟨h, by simp, fun a ha b hb => by rw [List.mem_singleton.mp hb]; exact fun e => m (e ▸ ha)⟩
    · unfold mark setDirty State.onReporter; simp only [if_neg m]

theorem markStatusIf_eq (c : Bool) (h : s.reporter.dirty.Nodup) : ∃ d, d.Nodup ∧ markStatusIf c s = setDirty d s := by
  unfold markStatusIf; split
  · exact mark_eq _ h
  · exact ⟨s.reporter.dirty, h, rfl⟩

theorem refreshes_isSome (t : Transport) (o : Option Nat) (n : Nat) :
    (if t.refreshes then (o <|> some n) else none).isSome = t.refreshes := by
  cases t.refreshes <;> cases o <;> rfl

theorem sequencerIn_still (t : Transport) (p : Option Phase) (q : Sequencer) (h : t.moves = false) :
    (sequencerIn t p q).dir = none ∧ (sequencerIn t p q).purpose = none := by
  unfold sequencerIn; simp [h]

theorem sound_followed (t : Transport) (p : Option Phase) (c : Bool) (h : Kept pq s) :
    Kept pq (followRefresh t (setDriveMode (driveModeOf t p) (markStatusIf c (s.onSequencer (sequencerIn t p))))) := by
  obtain ⟨d, hd, e⟩ := markStatusIf_eq (s := s.onSequencer (sequencerIn t p)) c h.dirty
  rw [e]
  unfold setDriveMode
  split
  · next m =>
    exact { h with dirty := hd, drive := m.symm, refresh := refreshes_isSome _ _ _, still := sequencerIn_still t p _ }
  · dsimp only
    generalize ht : (setDirty d (s.onSequencer (sequencerIn t p))).onServos
      (fun v => { v with driveMode := driveModeOf t p, tracking := 0, brake := decide (driveModeOf t p = .off) }) = x
    have hx : x.reporter.dirty.Nodup := by rw [← ht]; exact hd
    obtain ⟨d2, hd2, e2⟩ := mark_eq (s := x) .status hx
    unfold markStatus
    rw [e2, ← ht]
    split <;>
      exact { h with dirty := hd2, drive := rfl, brake := rfl, refresh := refreshes_isSome _ _ _, still := sequencerIn_still t p _ }

theorem sound_endLossWatch (c : Bool) (h : Kept pq s) : Kept pq (endLossWatch c s) := by
  unfold endLossWatch
  split
  · exact sound_onSensors _ (fun _ => ⟨⟨rfl, rfl⟩, ⟨rfl, rfl⟩, rfl, rfl⟩) h
  · exact h

theorem sound_setTransport (t : Transport) (p : Option Phase) (h : Kept pq s) : Kept pq (setTransport t p s) := by
  unfold setTransport
  dsimp only
  have k := sound_followed t p (decide (t ≠ s.sequencer.transport) || decide (p ≠ s.sequencer.phase)) h
  split
  · exact sound_armWindow _ (sound_endLossWatch _ k)
  · exact sound_endLossWatch _ k

theorem sound_startPhaseTimer (ms : Nat) (h : Kept pq s) : Kept pq (startPhaseTimer ms s) := by
  unfold startPhaseTimer
  try dsimp only
  repeat' (first | assumption | (intro _; exact ⟨rfl, rfl, rfl, rfl⟩) | (intro _; split <;> exact ⟨rfl, rfl, rfl, rfl⟩) | with_reducible apply sound_onSequencer | split)

theorem sound_rebase (h : Kept pq s) : Kept pq (rebase s) := by
  unfold rebase
  try dsimp only
  repeat' (first | assumption | (intro _; rfl) | (intro _; split <;> rfl) | (intro _; exact ⟨rfl, rfl, rfl, rfl⟩) | (intro _; split <;> exact ⟨rfl, rfl, rfl, rfl⟩) | (intro _; exact ⟨rfl, rfl⟩) | with_reducible apply sound_markStatus | with_reducible apply sound_onServos | with_reducible apply sound_onGenerator | with_reducible apply sound_onSequencer | split)

theorem sound_setAnchor (a : Int) (k : GapKind) (h : Kept pq s) : Kept pq (setAnchor a k s) := by
  unfold setAnchor
  try dsimp only
  repeat' (first | assumption | (intro _; exact ⟨rfl, rfl, rfl, rfl⟩) | (intro _; split <;> exact ⟨rfl, rfl, rfl, rfl⟩) | with_reducible apply sound_onSequencer | split)

theorem sound_anchorAtLoadPoint (h : Kept pq s) : Kept pq (anchorAtLoadPoint s) := by
  unfold anchorAtLoadPoint
  try dsimp only
  repeat' (first | assumption | with_reducible apply sound_setAnchor | split)


theorem sound_recount (h : Kept pq s) : Kept pq (recount s) := sound_onTracker _ (fun _ => rfl) h

theorem sound_putRecord (i : Fin 16) (r : BlockRecord) (hr : r.tapeLength = tapeLengthOf r.kind r.length) (h : Kept pq s) :
    Kept pq (s.onTracker fun k => { k with records := k.records.set i r }) :=
  have e : ∀ j, (s.onTracker fun k => { k with records := k.records.set i r }).record j = if i = j then r else s.record j := fun j => by
    unfold State.record
    simp only [onTracker_tracker]
    rw [Fin.getElem_fin, Vector.getElem_set]
    simp only [Fin.ext_iff]; rfl
  have k : ∀ j, (if i = j then r else s.record j).tapeLength = tapeLengthOf (if i = j then r else s.record j).kind
      (if i = j then r else s.record j).length := fun j => by
    split
    · exact hr
    · exact h.tape j
  { h with tape := fun j => by rw [e]; exact k j }

theorem sound_setRecord (i : Fin 16) (r : BlockRecord) (hr : r.tapeLength = tapeLengthOf r.kind r.length) (h : Kept pq s) :
    Kept pq (setRecord i r s) := by
  unfold setRecord
  dsimp only
  apply sound_recount
  split
  · exact sound_mark _ (sound_putRecord i r hr h)
  · exact sound_putRecord i r hr h

theorem sound_freeRecord (i : Fin 16) (h : Kept pq s) : Kept pq (freeRecord i s) := by
  unfold freeRecord
  try dsimp only
  repeat' (first | assumption | rfl | exact kept_tape _ (by assumption) | with_reducible apply sound_setRecord | split | refine kept_tape (pq := pq) _ ?_)

theorem sound_rollBackAll (is : List (Fin 16)) (h : Kept pq s) : Kept pq (rollBackAll is s) :=
  sound_retryHeld (sound_foldl _ (fun _ _ ha => sound_setRecord _ (rolledBack _) (kept_tape _ ha) ha) _ h)

theorem sound_setRecordCursor (i : Fin 16) (h : Kept pq s) : Kept pq (setRecordCursor i s) := by
  unfold setRecordCursor
  try dsimp only
  repeat' (first | assumption | (intro _; rfl) | (intro _; split <;> rfl) | with_reducible apply sound_onTracker | split)

theorem sound_openContext (slot : Fin 8) (write : Bool) (n : Nat) (h : Kept pq s) : Kept pq (openContext slot write n s) := by
  unfold openContext
  try dsimp only
  repeat' (first | assumption | (intro _; rfl) | (intro _; split <;> rfl) | with_reducible apply sound_onTracker | split)

theorem sound_rollBackTo (k : Fin 16) (h : Kept pq s) : Kept pq (rollBackTo k s) := by
  unfold rollBackTo
  try dsimp only
  repeat' (first | assumption | rfl | exact kept_tape _ (by assumption) | with_reducible apply sound_setRecord | with_reducible apply sound_rollBackAll | with_reducible apply sound_setRecordCursor | split | refine kept_tape (pq := pq) _ ?_)

theorem sound_rollBackPast (k : Fin 16) (h : Kept pq s) : Kept pq (rollBackPast k s) := by
  unfold rollBackPast
  try dsimp only
  repeat' (first | assumption | rfl | exact kept_tape _ (by assumption) | with_reducible apply sound_setRecord | with_reducible apply sound_rollBackAll | with_reducible apply sound_setRecordCursor | split | refine kept_tape (pq := pq) _ ?_)

theorem sound_giveBack (h : Kept pq s) : Kept pq (giveBack s) := by
  unfold giveBack
  try dsimp only
  repeat' (first | assumption | with_reducible apply sound_freeRecord | split)

theorem sound_rollBackOrder (h : Kept pq s) : Kept pq (rollBackOrder s) := by
  unfold rollBackOrder
  try dsimp only
  repeat' (first | assumption | with_reducible apply sound_retryHeld | with_reducible apply sound_rollBackAll | with_reducible apply sound_setRecordCursor | split)

theorem sound_armRequest {t : State} (h : Kept pq s) (e : armRequest s = some t) : Kept pq t := by
  unfold armRequest at e
  try dsimp only at e
  repeat' (split at e)
  all_goals first | (simp at e; done) | (cases Option.some.inj e; repeat' (first | assumption | (intro _; rfl) | (intro _; exact ⟨rfl, rfl, rfl, rfl⟩) | apply sound_setRecord | apply sound_onTracker | split | exact kept_tape _ (by assumption) | refine kept_tape (pq := pq) _ ?_))

theorem sound_expectRequest {t : State} (h : Kept pq s) (e : expectRequest s = some t) : Kept pq t := by
  unfold expectRequest at e
  try dsimp only at e
  repeat' (split at e)
  all_goals first | (simp at e; done) | (cases Option.some.inj e; repeat' (first | assumption | (intro _; rfl) | (intro _; exact ⟨rfl, rfl, rfl, rfl⟩) | apply sound_setRecord | split | exact kept_tape _ (by assumption) | refine kept_tape (pq := pq) _ ?_))

theorem sound_decisionRequest (i : Fin 16) {t : State} (h : Kept pq s) (e : decisionRequest i s = some t) : Kept pq t := by
  unfold decisionRequest at e
  try dsimp only at e
  repeat' (split at e)
  all_goals first | (simp at e; done) | (cases Option.some.inj e; repeat' (first | assumption | (intro _; rfl) | (intro _; exact ⟨rfl, rfl, rfl, rfl⟩) | apply sound_setRecord | split | exact kept_tape _ (by assumption) | refine kept_tape (pq := pq) _ ?_))

theorem sound_countReceived (h : Kept pq s) : Kept pq (countReceived s) := by
  unfold countReceived
  try dsimp only
  repeat' (first | assumption | (intro _; rfl) | (intro _; split <;> rfl) | with_reducible apply sound_onTracker | split)

theorem sound_advanceReceive (h : Kept pq s) : Kept pq (advanceReceive s) := by
  unfold advanceReceive
  try dsimp only
  repeat' (first | assumption | (intro _; rfl) | (intro _; split <;> rfl) | with_reducible apply sound_onTracker | split)

theorem mark_sequencer (n : RecordName) (s : State) : (mark n s).sequencer = s.sequencer := rfl

theorem markStatusIf_sequencer (c : Bool) (s : State) : (markStatusIf c s).sequencer = s.sequencer := by
  unfold markStatusIf; split <;> rfl

theorem setDriveMode_sequencer (d : DriveMode) (s : State) : (setDriveMode d s).sequencer = s.sequencer := by
  unfold setDriveMode; split
  · rfl
  · dsimp only; split <;> rfl

/-- The sequencer after a change of the transport. -/
theorem setTransport_sequencer (t : Transport) (p : Option Phase) (s : State) :
    (setTransport t p s).sequencer = sequencerIn t p s.sequencer := by
  have e : (followRefresh t (setDriveMode (driveModeOf t p) (markStatusIf (decide (t ≠ s.sequencer.transport) ||
      decide (p ≠ s.sequencer.phase)) (s.onSequencer (sequencerIn t p))))).sequencer = sequencerIn t p s.sequencer := by
    show (setDriveMode _ _).sequencer = _
    rw [setDriveMode_sequencer, markStatusIf_sequencer]; rfl
  unfold setTransport
  dsimp only
  have l : ∀ c x, (endLossWatch c x).sequencer = x.sequencer := by intro c x; unfold endLossWatch; split <;> rfl
  split
  · unfold armWindow; rw [markStatusIf_sequencer]; exact (l _ _).trans e
  · exact (l _ _).trans e

theorem setTransport_transport (t : Transport) (p : Option Phase) (s : State) : (setTransport t p s).sequencer.transport = t := by
  rw [setTransport_sequencer]; rfl

theorem sound_startMotion (d : Direction) (p : Purpose) (h : Kept pq s) : Kept pq (startMotion d p s) := by
  have k := sound_setTransport .starting none h
  unfold startMotion
  dsimp only
  apply sound_startRequest
  apply sound_markStatus
  exact { k with still := fun m => absurd m (by rw [show (State.onSequencer (sequencerStarted d p s.tapePos) (setTransport .starting none s)).sequencer.transport = .starting from setTransport_transport _ _ _]; decide) }

theorem sound_stopMotion (h : Kept pq s) : Kept pq (stopMotion s) := by
  unfold stopMotion
  try dsimp only
  repeat' (first | assumption | with_reducible apply sound_stopRequest | with_reducible apply sound_setTransport | split)

theorem sound_forwardStart (x : Int) (p : Purpose) (h : Kept pq s) : Kept pq (forwardStart x p s) := by
  unfold forwardStart
  try dsimp only
  repeat' (first | assumption | (intro _; exact ⟨rfl, rfl, rfl, rfl⟩) | (intro _; split <;> exact ⟨rfl, rfl, rfl, rfl⟩) | with_reducible apply sound_startMotion | with_reducible apply sound_onSequencer | split)

theorem sound_settleRecords (o : Outcome) (keepAnchor : Bool) (h : Kept pq s) : Kept pq (settleRecords o keepAnchor s) := by
  unfold settleRecords
  try dsimp only
  repeat' (first | assumption | with_reducible apply sound_setAnchor | with_reducible apply sound_giveBack | with_reducible apply sound_rollBackOrder | split)

theorem sound_endOrder (o : Outcome) (rsn : Reason) (keepAnchor : Bool) (h : Kept pq s) : Kept pq (endOrder o rsn keepAnchor s) := by
  unfold endOrder
  try dsimp only
  repeat' (first | assumption | (intro _; rfl) | (intro _; split <;> rfl) | (intro _; exact ⟨rfl, rfl, rfl, rfl⟩) | (intro _; split <;> exact ⟨rfl, rfl, rfl, rfl⟩) | with_reducible apply sound_reportEnd | with_reducible apply sound_settleRecords | with_reducible apply sound_onTracker | with_reducible apply sound_onSequencer | split)

theorem sound_fixOutcome (o : Outcome) (rsn : Reason) (h : Kept pq s) : Kept pq (fixOutcome o rsn s) := by
  unfold fixOutcome
  try dsimp only
  repeat' (first | assumption | (intro _; exact ⟨rfl, rfl, rfl, rfl⟩) | (intro _; split <;> exact ⟨rfl, rfl, rfl, rfl⟩) | with_reducible apply sound_giveBack | with_reducible apply sound_endOrder | with_reducible apply sound_onSequencer | split)

theorem sound_fixAndStop (o : Outcome) (rsn : Reason) (h : Kept pq s) : Kept pq (fixAndStop o rsn s) := by
  unfold fixAndStop
  try dsimp only
  repeat' (first | assumption | with_reducible apply sound_stopMotion | with_reducible apply sound_fixOutcome | split)

theorem sound_setRecordPoint (h : Kept pq s) : Kept pq (setRecordPoint s) := by
  unfold setRecordPoint
  try dsimp only
  repeat' (first | assumption | (intro _; exact ⟨rfl, rfl, rfl, rfl⟩) | (intro _; split <;> exact ⟨rfl, rfl, rfl, rfl⟩) | with_reducible apply sound_onSequencer | split)

theorem sound_dropRecordPoint (h : Kept pq s) : Kept pq (dropRecordPoint s) := by
  unfold dropRecordPoint
  try dsimp only
  repeat' (first | assumption | (intro _; exact ⟨rfl, rfl, rfl, rfl⟩) | (intro _; split <;> exact ⟨rfl, rfl, rfl, rfl⟩) | with_reducible apply sound_onSequencer | split)

theorem sound_startToRecord (h : Kept pq s) : Kept pq (startToRecord s) := by
  unfold startToRecord
  try dsimp only
  repeat' (first | assumption | with_reducible apply sound_forwardStart | split)

theorem sound_armFlow (h : Kept pq s) : Kept pq (armFlow s) := by
  unfold armFlow
  dsimp only
  split
  · exact h
  · split
    · split
      · exact sound_stopMotion (sound_fixOutcome _ _ h)
      · exact sound_fixOutcome _ _ h
    · split
      · next e => exact sound_startToRecord (sound_setRecordPoint (sound_onSequencer _ (fun _ => ⟨rfl, rfl, rfl, rfl⟩) (sound_armRequest h e)))
      · exact sound_onSequencer _ (fun _ => ⟨rfl, rfl, rfl, rfl⟩) h

theorem closeRecovery_kept (k : Fin 16) {a b : Sequencer} (h : SequencerKept a b) : SequencerKept a (closeRecoveryOf k b) := by
  unfold closeRecoveryOf
  split
  · split
    · exact ⟨h.transport, h.phase, h.dir, h.purpose⟩
    · exact h
  · exact h

theorem sound_releaseHandled (i : Fin 16) (stop : Int) (h : Kept pq s) : Kept pq (releaseHandled i stop s) := by
  unfold releaseHandled
  try dsimp only
  repeat' (first | assumption | (intro _; exact ⟨rfl, rfl, rfl, rfl⟩) | (intro _; split <;> exact ⟨rfl, rfl, rfl, rfl⟩) | (intro _; exact closeRecovery_kept _ ⟨rfl, rfl, rfl, rfl⟩) | with_reducible apply sound_setAnchor | with_reducible apply sound_armFlow | with_reducible apply sound_noShow | with_reducible apply sound_onSequencer | split)

theorem sound_releaseBlock (i : Fin 16) (r : Int) (h : Kept pq s) : Kept pq (releaseBlock i r s) := by
  unfold releaseBlock
  try dsimp only
  repeat' (first | assumption | rfl | exact kept_tape _ (by assumption) | with_reducible apply sound_raiseBlock | with_reducible apply sound_setRecord | with_reducible apply sound_setRecordCursor | with_reducible apply sound_releaseHandled | split | refine kept_tape (pq := pq) _ ?_)

theorem sound_streamOrStop (h : Kept pq s) : Kept pq (streamOrStop s) := by
  unfold streamOrStop
  try dsimp only
  repeat' (first | assumption | (intro _; exact ⟨rfl, rfl, rfl, rfl⟩) | (intro _; split <;> exact ⟨rfl, rfl, rfl, rfl⟩) | with_reducible apply sound_stopMotion | with_reducible apply sound_armFlow | with_reducible apply sound_onSequencer | split)

theorem sound_decisionPoint (i : Fin 16) (rest : List (Fin 16 × Int)) (h : Kept pq s) : Kept pq (decisionPoint i rest s) := by
  unfold decisionPoint
  dsimp only
  split
  · exact sound_onSequencer _ (fun _ => ⟨rfl, rfl, rfl, rfl⟩) h
  · next e =>
    have k := sound_decisionRequest i (sound_onSequencer (fun q => { q with decisions := rest }) (fun _ => ⟨rfl, rfl, rfl, rfl⟩) h) e
    split
    · exact sound_streamOrStop k
    · exact k

theorem sound_unarm (i : Fin 16) (h : Kept pq s) : Kept pq (unarm i s) := by
  unfold unarm
  try dsimp only
  repeat' (first | assumption | rfl | exact kept_tape _ (by assumption) | with_reducible apply sound_retryHeld | with_reducible apply sound_setRecord | with_reducible apply sound_dropRecordPoint | split | refine kept_tape (pq := pq) _ ?_)

theorem sound_noShow (h : Kept pq s) : Kept pq (noShow s) := by
  unfold noShow
  try dsimp only
  repeat' (first | assumption | (intro _; exact ⟨rfl, rfl, rfl, rfl⟩) | (intro _; split <;> exact ⟨rfl, rfl, rfl, rfl⟩) | with_reducible apply sound_raiseBlock | with_reducible apply sound_stopMotion | with_reducible apply sound_fixOutcome | with_reducible apply sound_unarm | with_reducible apply sound_onSequencer | split)

theorem sound_holdNotice (h : Kept pq s) : Kept pq (holdNotice s) := by
  unfold holdNotice
  exact sound_onSequencer _ (fun _ => ⟨rfl, rfl, rfl, rfl⟩) h

theorem sound_cursorFilled (h : Kept pq s) : Kept pq (cursorFilled s) := by
  unfold cursorFilled
  try dsimp only
  repeat' (first | assumption | with_reducible apply sound_armFlow | with_reducible apply sound_holdNotice | split)

theorem sound_retracted (i : Fin 16) (h : Kept pq s) : Kept pq (retracted i s) := by
  unfold retracted
  try dsimp only
  repeat' (first | assumption | (intro _; exact ⟨rfl, rfl, rfl, rfl⟩) | (intro _; split <;> exact ⟨rfl, rfl, rfl, rfl⟩) | (intro _; exact closeRecovery_kept _ ⟨rfl, rfl, rfl, rfl⟩) | with_reducible apply sound_stopMotion | with_reducible apply sound_onSequencer | split)

theorem sound_startReading (o : OrderCode) (h : Kept pq s) : Kept pq (startReading o s) := by
  unfold startReading
  try dsimp only
  repeat' (first | assumption | with_reducible apply sound_startMotion | with_reducible apply sound_fixOutcome | split)

theorem sound_expectAndStart (o : OrderCode) (h : Kept pq s) : Kept pq (expectAndStart o s) := by
  unfold expectAndStart
  split
  · exact sound_startReading o h
  · split
    · next e => exact sound_startReading o (sound_onSequencer _ (fun _ => ⟨rfl, rfl, rfl, rfl⟩) (sound_expectRequest h e))
    · exact sound_onSequencer _ (fun _ => ⟨rfl, rfl, rfl, rfl⟩) h

theorem sound_receiveFreed (h : Kept pq s) : Kept pq (receiveFreed s) := by
  unfold receiveFreed
  try dsimp only
  repeat' (first | assumption | with_reducible apply sound_expectAndStart | split)

theorem sound_anchorAfterReceipt (d : Direction) (c : Coords) (h : Kept pq s) : Kept pq (anchorAfterReceipt d c s) := by
  unfold anchorAfterReceipt
  try dsimp only
  repeat' (first | assumption | with_reducible apply sound_setAnchor | split)

theorem sound_setBlankRef (h : Kept pq s) : Kept pq (setBlankRef s) := by
  unfold setBlankRef
  try dsimp only
  repeat' (first | assumption | (intro _; exact ⟨rfl, rfl, rfl, rfl⟩) | (intro _; split <;> exact ⟨rfl, rfl, rfl, rfl⟩) | with_reducible apply sound_onSequencer | split)

theorem sound_readDecision (isMark backing : Bool) (h : Kept pq s) : Kept pq (readDecision isMark backing s) := by
  unfold readDecision
  split
  · exact h
  · split
    · exact sound_fixAndStop _ _ h
    · split
      · exact sound_fixAndStop _ _ h
      · split
        · next e =>
          have k := sound_expectRequest h e
          split
          · exact sound_stopMotion k
          · exact k
        · exact sound_stopMotion (sound_onSequencer _ (fun _ => ⟨rfl, rfl, rfl, rfl⟩) h)

theorem sound_spaceDecision (isMark : Bool) (h : Kept pq s) : Kept pq (spaceDecision isMark s) := by
  unfold spaceDecision
  try dsimp only
  repeat' (first | assumption | with_reducible apply sound_fixAndStop | split)

theorem sound_eraseStop (e : Int) (h : Kept pq s) : Kept pq (eraseStop e s) := by
  unfold eraseStop
  try dsimp only
  repeat' (first | assumption | with_reducible apply sound_setAnchor | with_reducible apply sound_fixAndStop | split)

theorem sound_botRule (h : Kept pq s) : Kept pq (botRule s) := by
  unfold botRule
  try dsimp only
  repeat' (first | assumption | with_reducible apply sound_raise | with_reducible apply sound_stopMotion | with_reducible apply sound_fixOutcome | split)

theorem sound_setRecovery (r : Option Recovery) (h : Kept pq s) : Kept pq (setRecovery r s) := by
  unfold setRecovery
  try dsimp only
  repeat' (first | assumption | (intro _; exact ⟨rfl, rfl, rfl, rfl⟩) | (intro _; split <;> exact ⟨rfl, rfl, rfl, rfl⟩) | with_reducible apply sound_onSequencer | split)

theorem sound_setRecoveryPhase (p : RecoveryPhase) (h : Kept pq s) : Kept pq (setRecoveryPhase p s) := by
  unfold setRecoveryPhase
  try dsimp only
  repeat' (first | assumption | (intro _; exact ⟨rfl, rfl, rfl, rfl⟩) | (intro _; split <;> exact ⟨rfl, rfl, rfl, rfl⟩) | with_reducible apply sound_onSequencer | split)

theorem sound_pruneDecisions (h : Kept pq s) : Kept pq (pruneDecisions s) := by
  unfold pruneDecisions
  try dsimp only
  repeat' (first | assumption | (intro _; exact ⟨rfl, rfl, rfl, rfl⟩) | (intro _; split <;> exact ⟨rfl, rfl, rfl, rfl⟩) | with_reducible apply sound_onSequencer | split)

theorem sound_beginBackup (d : Direction) (h : Kept pq s) : Kept pq (beginBackup d s) := by
  unfold beginBackup
  try dsimp only
  repeat' (first | assumption | (intro _; exact ⟨rfl, rfl, rfl, rfl⟩) | (intro _; split <;> exact ⟨rfl, rfl, rfl, rfl⟩) | with_reducible apply sound_startMotion | with_reducible apply sound_setRecoveryPhase | with_reducible apply sound_onSequencer | split)

theorem sound_enterRunIn (h : Kept pq s) : Kept pq (enterRunIn s) := by
  unfold enterRunIn
  try dsimp only
  repeat' (first | assumption | with_reducible apply sound_armFlow | with_reducible apply sound_setRecovery | with_reducible apply sound_setRecoveryPhase | split)

theorem sound_settleWrite (target : Int) (h : Kept pq s) : Kept pq (settleWrite target s) := by
  unfold settleWrite
  try dsimp only
  repeat' (first | assumption | with_reducible apply sound_beginBackup | with_reducible apply sound_enterRunIn | split)

theorem sound_aimRecovery (k : Fin 16) (h : Kept pq s) : Kept pq (aimRecovery k s) := by
  unfold aimRecovery
  try dsimp only
  repeat' (first | assumption | (intro _; exact ⟨rfl, rfl, rfl, rfl⟩) | (intro _; split <;> exact ⟨rfl, rfl, rfl, rfl⟩) | with_reducible apply sound_setAnchor | with_reducible apply sound_onSequencer | split)

theorem sound_recoveryMotion (retarget : Bool) (h : Kept pq s) : Kept pq (recoveryMotion retarget s) := by
  unfold recoveryMotion
  try dsimp only
  repeat' (first | assumption | with_reducible apply sound_stopMotion | with_reducible apply sound_setRecoveryPhase | with_reducible apply sound_beginBackup | with_reducible apply sound_settleWrite | split)

theorem sound_openWriteRecovery (k : Fin 16) (h : Kept pq s) : Kept pq (openWriteRecovery k s) := by
  unfold openWriteRecovery
  try dsimp only
  repeat' (first | assumption | with_reducible apply sound_raiseBlock | with_reducible apply sound_rollBackTo | with_reducible apply sound_aimRecovery | with_reducible apply sound_recoveryMotion | split)

theorem sound_retargetRecovery (j k : Fin 16) (h : Kept pq s) : Kept pq (retargetRecovery j k s) := by
  unfold retargetRecovery
  try dsimp only
  repeat' (first | assumption | with_reducible apply sound_raiseBlock | with_reducible apply sound_rollBackTo | with_reducible apply sound_aimRecovery | with_reducible apply sound_recoveryMotion | split)

theorem sound_anchorBefore (j : Fin 16) (h : Kept pq s) : Kept pq (anchorBefore j s) := by
  unfold anchorBefore
  try dsimp only
  repeat' (first | assumption | with_reducible apply sound_setAnchor | split)

theorem sound_permanentWriteFailure (j : Fin 16) (h : Kept pq s) : Kept pq (permanentWriteFailure j s) := by
  unfold permanentWriteFailure
  try dsimp only
  repeat' (first | assumption | (intro _; exact ⟨rfl, rfl, rfl, rfl⟩) | (intro _; split <;> exact ⟨rfl, rfl, rfl, rfl⟩) | with_reducible apply sound_rollBackPast | with_reducible apply sound_stopMotion | with_reducible apply sound_fixOutcome | with_reducible apply sound_anchorBefore | with_reducible apply sound_onSequencer | split)

theorem sound_stopIfNoneListed (h : Kept pq s) : Kept pq (stopIfNoneListed s) := by
  unfold stopIfNoneListed
  split
  · exact sound_stopMotion h
  · exact h

theorem sound_failureAfterOutcome (permanent : Bool) (j : Fin 16) (h : Kept pq s) : Kept pq (failureAfterOutcome permanent j s) := by
  unfold failureAfterOutcome
  try dsimp only
  repeat' (first | assumption | with_reducible apply sound_raiseBlock | with_reducible apply sound_rollBackTo | with_reducible apply sound_rollBackPast | with_reducible apply sound_stopIfNoneListed | with_reducible apply sound_pruneDecisions | with_reducible apply sound_anchorBefore | split)

theorem sound_writeFailure (j : Fin 16) (h : Kept pq s) : Kept pq (writeFailure j s) := by
  unfold writeFailure
  try dsimp only
  repeat' (first | assumption | rfl | exact kept_tape _ (by assumption) | with_reducible apply sound_setRecord | with_reducible apply sound_openWriteRecovery | with_reducible apply sound_retargetRecovery | with_reducible apply sound_permanentWriteFailure | with_reducible apply sound_failureAfterOutcome | split | refine kept_tape (pq := pq) _ ?_)

theorem sound_verifyBlock (i : Fin 16) (h : Kept pq s) : Kept pq (verifyBlock i s) := by
  unfold verifyBlock
  try dsimp only
  repeat' (first | assumption | rfl | exact kept_tape _ (by assumption) | with_reducible apply sound_setRecord | with_reducible apply sound_fixOutcome | split | refine kept_tape (pq := pq) _ ?_)

theorem sound_settleRead (o : OrderCode) (h : Kept pq s) : Kept pq (settleRead o s) := by
  unfold settleRead
  try dsimp only
  repeat' (first | assumption | with_reducible apply sound_beginBackup | split)

theorem sound_beginReread (o : OrderCode) (h : Kept pq s) : Kept pq (beginReread o s) := by
  unfold beginReread
  try dsimp only
  repeat' (first | assumption | with_reducible apply sound_startReading | with_reducible apply sound_setRecoveryPhase | split)

theorem sound_openReadRecovery (k : Fin 16) (o : OrderCode) (c : Coords) (h : Kept pq s) : Kept pq (openReadRecovery k o c s) := by
  unfold openReadRecovery
  try dsimp only
  repeat' (first | assumption | with_reducible apply sound_raiseBlock | with_reducible apply sound_stopMotion | with_reducible apply sound_setRecovery | with_reducible apply sound_settleRead | split)

theorem sound_permanentReadError (k : Fin 16) (h : Kept pq s) : Kept pq (permanentReadError k s) := by
  unfold permanentReadError
  try dsimp only
  repeat' (first | assumption | rfl | exact kept_tape _ (by assumption) | with_reducible apply sound_setRecord | with_reducible apply sound_advanceReceive | with_reducible apply sound_fixAndStop | with_reducible apply sound_setRecovery | split | refine kept_tape (pq := pq) _ ?_)

theorem sound_readErrorTaken (k : Fin 16) (o : OrderCode) (c : Coords) (h : Kept pq s) : Kept pq (readErrorTaken k o c s) := by
  unfold readErrorTaken
  try dsimp only
  repeat' (first | assumption | rfl | exact kept_tape _ (by assumption) | with_reducible apply sound_setRecord | with_reducible apply sound_openReadRecovery | with_reducible apply sound_permanentReadError | split | refine kept_tape (pq := pq) _ ?_)

theorem sound_readReceipt (isMark : Bool) (d : Direction) (c : Coords) (h : Kept pq s) : Kept pq (readReceipt isMark d c s) := by
  unfold readReceipt
  try dsimp only
  repeat' (first | assumption | with_reducible apply sound_anchorAfterReceipt | with_reducible apply sound_setBlankRef | with_reducible apply sound_readDecision | with_reducible apply sound_setRecovery | split)

theorem sound_spaceReceipt (isMark : Bool) (d : Direction) (c : Coords) (h : Kept pq s) : Kept pq (spaceReceipt isMark d c s) := by
  unfold spaceReceipt
  try dsimp only
  repeat' (first | assumption | with_reducible apply sound_anchorAfterReceipt | with_reducible apply sound_setBlankRef | with_reducible apply sound_spaceDecision | split)

end Sys2Proof.Machine
end

