-- ==== Sys2Proof/Laws/SoundReact.lean ====
section
/-! SUPPORT. Soundness: threading and the reactions of an event, one lemma each. -/

namespace Sys2Proof.Machine

variable {pq : List Instr} {s : State}

theorem sound_startGroupRead (a : Activity) (h : Kept pq s) : Kept pq (startGroupRead a s) := by
  unfold startGroupRead
  try dsimp only
  repeat' (first | assumption | (intro _; rfl) | (intro _; split <;> rfl) | with_reducible apply sound_makeClaim | with_reducible apply sound_onLoader | split)

theorem sound_startGroupB (h : Kept pq s) : Kept pq (startGroupB s) := by
  unfold startGroupB
  try dsimp only
  repeat' (first | assumption | (intro _; exact ⟨rfl, rfl, rfl, rfl⟩) | (intro _; split <;> exact ⟨rfl, rfl, rfl, rfl⟩) | with_reducible apply sound_startGroupRead | with_reducible apply sound_onSequencer | split)

theorem sound_requestGroupB (h : Kept pq s) : Kept pq (requestGroupB s) := by
  unfold requestGroupB
  try dsimp only
  repeat' (first | assumption | (intro _; rfl) | (intro _; split <;> rfl) | with_reducible apply sound_startGroupB | with_reducible apply sound_onLoader | split)

theorem sound_failOrder (r : Reason) (h : Kept pq s) : Kept pq (failOrder r s) := by
  unfold failOrder
  try dsimp only
  repeat' (first | assumption | with_reducible apply sound_endOrder | split)

theorem sound_holdOrder (h : Kept pq s) : Kept pq (holdOrder s) := by
  unfold holdOrder
  try dsimp only
  repeat' (first | assumption | (intro _; exact ⟨rfl, rfl, rfl, rfl⟩) | (intro _; split <;> exact ⟨rfl, rfl, rfl, rfl⟩) | with_reducible apply sound_onSequencer | split)

theorem sound_raiseLoadPoint (h : Kept pq s) : Kept pq (raiseLoadPoint s) := by
  unfold raiseLoadPoint
  try dsimp only
  repeat' (first | assumption | with_reducible apply sound_raise | split)

theorem sound_setRewindStep (r : RewindStep) (h : Kept pq s) : Kept pq (setRewindStep r s) := by
  unfold setRewindStep
  try dsimp only
  repeat' (first | assumption | (intro _; exact ⟨rfl, rfl, rfl, rfl⟩) | (intro _; split <;> exact ⟨rfl, rfl, rfl, rfl⟩) | with_reducible apply sound_markStatusIf | with_reducible apply sound_setTransport | with_reducible apply sound_onSequencer | split)

theorem sound_beginRewind (h : Kept pq s) : Kept pq (beginRewind s) := by
  unfold beginRewind
  try dsimp only
  repeat' (first | assumption | with_reducible apply sound_startRequest | with_reducible apply sound_setRewindStep | split)

theorem sound_completeUnload (h : Kept pq s) : Kept pq (completeUnload s) := by
  unfold completeUnload
  try dsimp only
  repeat' (first | assumption | (intro _; exact ⟨rfl, rfl, rfl, rfl⟩) | (intro _; split <;> exact ⟨rfl, rfl, rfl, rfl⟩) | with_reducible apply sound_setTransport | with_reducible apply sound_endOrder | with_reducible apply sound_onSequencer | split)

theorem sound_enterRelease (h : Kept pq s) : Kept pq (enterRelease s) := by
  unfold enterRelease
  try dsimp only
  repeat' (first | assumption | (intro _; exact ⟨rfl, rfl, rfl, rfl⟩) | (intro _; split <;> exact ⟨rfl, rfl, rfl, rfl⟩) | with_reducible apply sound_armWindow | with_reducible apply sound_setTransport | with_reducible apply sound_startPhaseTimer | with_reducible apply sound_completeUnload | with_reducible apply sound_onSequencer | split)

theorem sound_enterLeader (h : Kept pq s) : Kept pq (enterLeader s) := by
  unfold enterLeader
  try dsimp only
  repeat' (first | assumption | (intro _; exact ⟨rfl, rfl, rfl, rfl⟩) | (intro _; split <;> exact ⟨rfl, rfl, rfl, rfl⟩) | with_reducible apply sound_startRequest | with_reducible apply sound_setTransport | with_reducible apply sound_enterRelease | with_reducible apply sound_onSequencer | split)

theorem sound_beginUnloadRewind (h : Kept pq s) : Kept pq (beginUnloadRewind s) := by
  unfold beginUnloadRewind
  try dsimp only
  repeat' (first | assumption | with_reducible apply sound_beginRewind | with_reducible apply sound_enterLeader | split)

theorem sound_beginLoad (origin : SeekOrigin) (h : Kept pq s) : Kept pq (beginLoad origin s) := by
  unfold beginLoad
  try dsimp only
  repeat' (first | assumption | (intro _; exact ⟨rfl, rfl, rfl, rfl⟩) | (intro _; split <;> exact ⟨rfl, rfl, rfl, rfl⟩) | with_reducible apply sound_setTransport | with_reducible apply sound_startPhaseTimer | with_reducible apply sound_requestGroupB | with_reducible apply sound_failOrder | with_reducible apply sound_onSequencer | split)

theorem sound_takeLoad (h : Kept pq s) : Kept pq (takeLoad s) := by
  unfold takeLoad
  try dsimp only
  repeat' (first | assumption | with_reducible apply sound_failOrder | with_reducible apply sound_holdOrder | with_reducible apply sound_beginLoad | split)

theorem sound_takeRewind (h : Kept pq s) : Kept pq (takeRewind s) := by
  unfold takeRewind
  try dsimp only
  repeat' (first | assumption | with_reducible apply sound_anchorAtLoadPoint | with_reducible apply sound_endOrder | with_reducible apply sound_failOrder | with_reducible apply sound_holdOrder | with_reducible apply sound_raiseLoadPoint | with_reducible apply sound_beginRewind | split)

theorem sound_takeUnload (h : Kept pq s) : Kept pq (takeUnload s) := by
  unfold takeUnload
  try dsimp only
  repeat' (first | assumption | with_reducible apply sound_setTransport | with_reducible apply sound_failOrder | with_reducible apply sound_holdOrder | with_reducible apply sound_enterLeader | with_reducible apply sound_beginUnloadRewind | split)

theorem sound_enterLoops (h : Kept pq s) : Kept pq (enterLoops s) := by
  unfold enterLoops
  try dsimp only
  repeat' (first | assumption | (intro _; exact ⟨rfl, rfl, rfl, rfl⟩) | (intro _; split <;> exact ⟨rfl, rfl, rfl, rfl⟩) | with_reducible apply sound_setTransport | with_reducible apply sound_startPhaseTimer | with_reducible apply sound_onSequencer | split)

theorem sound_vacuumCheck (h : Kept pq s) : Kept pq (vacuumCheck s) := by
  unfold vacuumCheck
  try dsimp only
  repeat' (first | assumption | with_reducible apply sound_enterLoops | split)

theorem sound_beginFinalCreep (h : Kept pq s) : Kept pq (beginFinalCreep s) := by
  unfold beginFinalCreep
  try dsimp only
  repeat' (first | assumption | (intro _; exact ⟨rfl, rfl, rfl, rfl⟩) | (intro _; split <;> exact ⟨rfl, rfl, rfl, rfl⟩) | with_reducible apply sound_startRequest | with_reducible apply sound_onSequencer | split)

theorem sound_enterSeek (h : Kept pq s) : Kept pq (enterSeek s) := by
  unfold enterSeek
  try dsimp only
  repeat' (first | assumption | (intro _; exact ⟨rfl, rfl, rfl, rfl⟩) | (intro _; split <;> exact ⟨rfl, rfl, rfl, rfl⟩) | with_reducible apply sound_startRequest | with_reducible apply sound_armWindow | with_reducible apply sound_setTransport | with_reducible apply sound_beginFinalCreep | with_reducible apply sound_onSequencer | split)

theorem sound_failLoad (r : Reason) (h : Kept pq s) : Kept pq (failLoad r s) := by
  unfold failLoad
  try dsimp only
  repeat' (first | assumption | with_reducible apply sound_setTransport | with_reducible apply sound_failOrder | split)

theorem sound_completeLoad (h : Kept pq s) : Kept pq (completeLoad s) := by
  unfold completeLoad
  try dsimp only
  repeat' (first | assumption | (intro _; exact ⟨rfl, rfl, rfl, rfl⟩) | (intro _; split <;> exact ⟨rfl, rfl, rfl, rfl⟩) | with_reducible apply sound_setTransport | with_reducible apply sound_anchorAtLoadPoint | with_reducible apply sound_endOrder | with_reducible apply sound_raiseLoadPoint | with_reducible apply sound_onSequencer | split)

theorem sound_completeRewind (h : Kept pq s) : Kept pq (completeRewind s) := by
  unfold completeRewind
  try dsimp only
  repeat' (first | assumption | with_reducible apply sound_setTransport | with_reducible apply sound_anchorAtLoadPoint | with_reducible apply sound_endOrder | with_reducible apply sound_raiseLoadPoint | split)

theorem sound_seekMarker (l : SeekLeg) (h : Kept pq s) : Kept pq (seekMarker l s) := by
  unfold seekMarker
  try dsimp only
  repeat' (first | assumption | (intro _; exact ⟨rfl, rfl, rfl, rfl⟩) | (intro _; split <;> exact ⟨rfl, rfl, rfl, rfl⟩) | with_reducible apply sound_stopRequest | with_reducible apply sound_rebase | with_reducible apply sound_onSequencer | split)

theorem sound_rewindMarker (r : RewindStep) (h : Kept pq s) : Kept pq (rewindMarker r s) := by
  unfold rewindMarker
  try dsimp only
  repeat' (first | assumption | with_reducible apply sound_stopRequest | with_reducible apply sound_rebase | with_reducible apply sound_setRewindStep | split)

theorem sound_botQualified (d : Direction) (h : Kept pq s) : Kept pq (botQualified d s) := by
  unfold botQualified
  try dsimp only
  repeat' (first | assumption | with_reducible apply sound_botRule | with_reducible apply sound_seekMarker | with_reducible apply sound_rewindMarker | split)

theorem sound_eotQualified (d : Direction) (h : Kept pq s) : Kept pq (eotQualified d s) := by
  unfold eotQualified
  try dsimp only
  repeat' (first | assumption | (intro _; exact ⟨rfl, rfl, rfl, rfl⟩) | (intro _; split <;> exact ⟨rfl, rfl, rfl, rfl⟩) | with_reducible apply sound_raise | with_reducible apply sound_onSequencer | split)

theorem sound_markerQualified (m : Marker) (d : Direction) (h : Kept pq s) : Kept pq (markerQualified m d s) := by
  unfold markerQualified
  try dsimp only
  repeat' (first | assumption | with_reducible apply sound_markStatus | with_reducible apply sound_botQualified | with_reducible apply sound_eotQualified | split)

theorem sound_botLeft (h : Kept pq s) : Kept pq (botLeft s) := by
  unfold botLeft
  try dsimp only
  repeat' (first | assumption | with_reducible apply sound_seekMarker | split)

theorem sound_cutOrder (o : Outcome) (r : Reason) (keepAnchor : Bool) (h : Kept pq s) : Kept pq (cutOrder o r keepAnchor s) := by
  unfold cutOrder
  try dsimp only
  repeat' (first | assumption | (intro _; exact ⟨rfl, rfl, rfl, rfl⟩) | (intro _; split <;> exact ⟨rfl, rfl, rfl, rfl⟩) | with_reducible apply sound_endOrder | with_reducible apply sound_noShow | with_reducible apply sound_onSequencer | split)

theorem sound_emergencyStop (h : Kept pq s) : Kept pq (emergencyStop s) := by
  unfold emergencyStop
  try dsimp only
  repeat' (first | assumption | (intro _; exact ⟨rfl, rfl⟩) | with_reducible apply sound_setSignals | with_reducible apply sound_dropMotion | with_reducible apply sound_clearCaptures | with_reducible apply sound_setTransport | with_reducible apply sound_cutOrder | with_reducible apply sound_onServos | (intro _; exact ⟨⟨rfl, rfl⟩, ⟨rfl, rfl⟩, rfl, rfl⟩) | with_reducible apply sound_onSensors | split)

theorem sound_beginOrder (o : OrderCode) (slot : Fin 8) (n : Nat) (h : Kept pq s) : Kept pq (beginOrder o slot n s) := by
  unfold beginOrder
  try dsimp only
  repeat' (first | assumption | (intro _; exact ⟨rfl, rfl, rfl, rfl⟩) | (intro _; split <;> exact ⟨rfl, rfl, rfl, rfl⟩) | with_reducible apply sound_openContext | with_reducible apply sound_forwardStart | with_reducible apply sound_armFlow | with_reducible apply sound_noShow | with_reducible apply sound_expectAndStart | with_reducible apply sound_onSequencer | split)

theorem sound_takeMotionOrder (o : OrderCode) (slot : Fin 8) (n : Nat) (h : Kept pq s) : Kept pq (takeMotionOrder o slot n s) := by
  unfold takeMotionOrder
  try dsimp only
  repeat' (first | assumption | with_reducible apply sound_endOrder | with_reducible apply sound_holdOrder | with_reducible apply sound_beginOrder | split)

theorem sound_takeRunning (h : Kept pq s) : Kept pq (takeRunning s) := by
  unfold takeRunning
  try dsimp only
  repeat' (first | assumption | (intro _; exact ⟨rfl, rfl, rfl, rfl⟩) | (intro _; split <;> exact ⟨rfl, rfl, rfl, rfl⟩) | with_reducible apply sound_takeLoad | with_reducible apply sound_takeRewind | with_reducible apply sound_takeUnload | with_reducible apply sound_takeMotionOrder | with_reducible apply sound_onSequencer | split)

theorem sound_anchorAtStop (h : Kept pq s) : Kept pq (anchorAtStop s) := by
  unfold anchorAtStop
  try dsimp only
  repeat' (first | assumption | (intro _; exact ⟨rfl, rfl, rfl, rfl⟩) | (intro _; split <;> exact ⟨rfl, rfl, rfl, rfl⟩) | with_reducible apply sound_setAnchor | with_reducible apply sound_onSequencer | split)

theorem sound_armIfNoticed (c : Bool) (h : Kept pq s) : Kept pq (armIfNoticed c s) := by
  unfold armIfNoticed
  split
  · exact sound_armFlow h
  · exact h

theorem sound_writeAtStopped (h : Kept pq s) : Kept pq (writeAtStopped s) := by
  unfold writeAtStopped
  try dsimp only
  repeat' (first | assumption | (intro _; exact ⟨rfl, rfl, rfl, rfl⟩) | (intro _; split <;> exact ⟨rfl, rfl, rfl, rfl⟩) | with_reducible apply sound_startMotion | with_reducible apply sound_setRecordPoint | with_reducible apply sound_startToRecord | with_reducible apply sound_armIfNoticed | with_reducible apply sound_enterRunIn | with_reducible apply sound_settleWrite | with_reducible apply sound_anchorAtStop | with_reducible apply sound_onSequencer | split)

theorem sound_readAtStopped (o : OrderCode) (h : Kept pq s) : Kept pq (readAtStopped o s) := by
  unfold readAtStopped
  try dsimp only
  repeat' (first | assumption | with_reducible apply sound_expectAndStart | with_reducible apply sound_settleRead | with_reducible apply sound_beginReread | split)

theorem sound_goOnAtStopped (o : OrderCode) (h : Kept pq s) : Kept pq (goOnAtStopped o s) := by
  unfold goOnAtStopped
  try dsimp only
  repeat' (first | assumption | (intro _; exact ⟨rfl, rfl, rfl, rfl⟩) | (intro _; split <;> exact ⟨rfl, rfl, rfl, rfl⟩) | with_reducible apply sound_startMotion | with_reducible apply sound_writeAtStopped | with_reducible apply sound_readAtStopped | with_reducible apply sound_onSequencer | split)

theorem sound_endAtStopped (f : FixedOutcome) (h : Kept pq s) : Kept pq (endAtStopped f s) := by
  unfold endAtStopped
  try dsimp only
  repeat' (first | assumption | with_reducible apply sound_endOrder | with_reducible apply sound_anchorAtStop | split)

theorem sound_orderAtStopped (h : Kept pq s) : Kept pq (orderAtStopped s) := by
  unfold orderAtStopped
  try dsimp only
  repeat' (first | assumption | with_reducible apply sound_takeRunning | with_reducible apply sound_goOnAtStopped | with_reducible apply sound_endAtStopped | split)

theorem sound_reachStopped (h : Kept pq s) : Kept pq (reachStopped s) := by
  unfold reachStopped
  try dsimp only
  repeat' (first | assumption | (intro _; exact ⟨rfl, rfl, rfl, rfl⟩) | (intro _; split <;> exact ⟨rfl, rfl, rfl, rfl⟩) | with_reducible apply sound_setTransport | with_reducible apply sound_orderAtStopped | with_reducible apply sound_onSequencer | split)

theorem sound_haltStopEnded (h : Kept pq s) : Kept pq (haltStopEnded s) := by
  unfold haltStopEnded
  try dsimp only
  repeat' (first | assumption | with_reducible apply sound_setTransport | with_reducible apply sound_anchorAtLoadPoint | with_reducible apply sound_orderAtStopped | split)

theorem sound_seekStopEnded (h : Kept pq s) : Kept pq (seekStopEnded s) := by
  unfold seekStopEnded
  try dsimp only
  repeat' (first | assumption | with_reducible apply sound_setTransport | with_reducible apply sound_endOrder | with_reducible apply sound_beginFinalCreep | with_reducible apply sound_completeLoad | split)

theorem sound_rewindStopEnded (h : Kept pq s) : Kept pq (rewindStopEnded s) := by
  unfold rewindStopEnded
  try dsimp only
  repeat' (first | assumption | with_reducible apply sound_setTransport | with_reducible apply sound_endOrder | with_reducible apply sound_completeRewind | with_reducible apply sound_haltStopEnded | split)

theorem sound_unloadStopEnded (h : Kept pq s) : Kept pq (unloadStopEnded s) := by
  unfold unloadStopEnded
  try dsimp only
  repeat' (first | assumption | (intro _; exact ⟨rfl, rfl, rfl, rfl⟩) | (intro _; split <;> exact ⟨rfl, rfl, rfl, rfl⟩) | with_reducible apply sound_setTransport | with_reducible apply sound_endOrder | with_reducible apply sound_enterRelease | with_reducible apply sound_enterLeader | with_reducible apply sound_beginUnloadRewind | with_reducible apply sound_onSequencer | split)

theorem sound_stopEnded (h : Kept pq s) : Kept pq (stopEnded s) := by
  unfold stopEnded
  try dsimp only
  repeat' (first | assumption | with_reducible apply sound_reachStopped | with_reducible apply sound_seekStopEnded | with_reducible apply sound_rewindStopEnded | with_reducible apply sound_unloadStopEnded | split)

theorem sound_startEnded (h : Kept pq s) : Kept pq (startEnded s) := by
  unfold startEnded
  try dsimp only
  repeat' (first | assumption | with_reducible apply sound_setTransport | with_reducible apply sound_setRewindStep | split)

theorem sound_creepReached (h : Kept pq s) : Kept pq (creepReached s) := by
  unfold creepReached
  try dsimp only
  repeat' (first | assumption | with_reducible apply sound_setRewindStep | split)

theorem sound_profileFaulted (stopping : Bool) (h : Kept pq s) : Kept pq (profileFaulted stopping s) := by
  unfold profileFaulted
  try dsimp only
  repeat' (first | assumption | (intro _; exact ⟨rfl, rfl, rfl, rfl⟩) | (intro _; split <;> exact ⟨rfl, rfl, rfl, rfl⟩) | with_reducible apply sound_setTransport | with_reducible apply sound_fixOutcome | with_reducible apply sound_onSequencer | split)

theorem sound_handleSignal (g : Signal) (h : Kept pq s) : Kept pq (handleSignal g s) := by
  unfold handleSignal
  try dsimp only
  repeat' (first | assumption | with_reducible apply sound_stopEnded | with_reducible apply sound_startEnded | with_reducible apply sound_creepReached | with_reducible apply sound_profileFaulted | split)

theorem sound_heldRelease {t : State} (h : Kept pq s) (e : heldRelease s = some t) : Kept pq t := by
  unfold heldRelease at e
  try dsimp only at e
  repeat' (split at e)
  all_goals first | (simp at e; done) | (cases Option.some.inj e; repeat' (first | assumption | (intro _; rfl) | (intro _; exact ⟨rfl, rfl, rfl, rfl⟩) | apply sound_releaseBlock | apply sound_releaseHeld | split | exact kept_tape _ (by assumption) | refine kept_tape (pq := pq) _ ?_))

theorem sound_decisionDue {t : State} (h : Kept pq s) (e : decisionDue s = some t) : Kept pq t := by
  unfold decisionDue at e
  try dsimp only at e
  repeat' (split at e)
  all_goals first | (simp at e; done) | (cases Option.some.inj e; repeat' (first | assumption | (intro _; rfl) | (intro _; exact ⟨rfl, rfl, rfl, rfl⟩) | apply sound_decisionPoint | split | exact kept_tape _ (by assumption) | refine kept_tape (pq := pq) _ ?_))

theorem sound_noShowDue {t : State} (h : Kept pq s) (e : noShowDue s = some t) : Kept pq t := by
  unfold noShowDue at e
  try dsimp only at e
  repeat' (split at e)
  all_goals first | (simp at e; done) | (cases Option.some.inj e; repeat' (first | assumption | (intro _; rfl) | (intro _; exact ⟨rfl, rfl, rfl, rfl⟩) | apply sound_noShow | split | exact kept_tape _ (by assumption) | refine kept_tape (pq := pq) _ ?_))

theorem sound_eraseDue {t : State} (h : Kept pq s) (e : eraseDue s = some t) : Kept pq t := by
  unfold eraseDue at e
  try dsimp only at e
  repeat' (split at e)
  all_goals first | (simp at e; done) | (cases Option.some.inj e; repeat' (first | assumption | (intro _; rfl) | (intro _; exact ⟨rfl, rfl, rfl, rfl⟩) | apply sound_eraseStop | split | exact kept_tape _ (by assumption) | refine kept_tape (pq := pq) _ ?_))

theorem sound_repositionDue {t : State} (h : Kept pq s) (e : repositionDue s = some t) : Kept pq t := by
  unfold repositionDue at e
  try dsimp only at e
  repeat' (split at e)
  all_goals first | (simp at e; done) | (cases Option.some.inj e; repeat' (first | assumption | (intro _; rfl) | (intro _; exact ⟨rfl, rfl, rfl, rfl⟩) | apply sound_stopMotion | split | exact kept_tape _ (by assumption) | refine kept_tape (pq := pq) _ ?_))

theorem sound_blankDue {t : State} (h : Kept pq s) (e : blankDue s = some t) : Kept pq t := by
  unfold blankDue at e
  try dsimp only at e
  repeat' (split at e)
  all_goals first | (simp at e; done) | (cases Option.some.inj e; repeat' (first | assumption | (intro _; rfl) | (intro _; exact ⟨rfl, rfl, rfl, rfl⟩) | apply sound_fixAndStop | split | exact kept_tape _ (by assumption) | refine kept_tape (pq := pq) _ ?_))

theorem sound_botDue {t : State} (h : Kept pq s) (e : botDue s = some t) : Kept pq t := by
  unfold botDue at e
  try dsimp only at e
  repeat' (split at e)
  all_goals first | (simp at e; done) | (cases Option.some.inj e; repeat' (first | assumption | (intro _; rfl) | (intro _; exact ⟨rfl, rfl, rfl, rfl⟩) | apply sound_botRule | split | exact kept_tape _ (by assumption) | refine kept_tape (pq := pq) _ ?_))

theorem sound_eotDue {t : State} (h : Kept pq s) (e : eotDue s = some t) : Kept pq t := by
  unfold eotDue at e
  try dsimp only at e
  repeat' (split at e)
  all_goals first | (simp at e; done) | (cases Option.some.inj e; repeat' (first | assumption | (intro _; rfl) | (intro _; exact ⟨rfl, rfl, rfl, rfl⟩) | apply sound_fixAndStop | split | exact kept_tape _ (by assumption) | refine kept_tape (pq := pq) _ ?_))

theorem sound_rewindNear {t : State} (h : Kept pq s) (e : rewindNear s = some t) : Kept pq t := by
  unfold rewindNear at e
  try dsimp only at e
  repeat' (split at e)
  all_goals first | (simp at e; done) | (cases Option.some.inj e; repeat' (first | assumption | (intro _; rfl) | (intro _; exact ⟨rfl, rfl, rfl, rfl⟩) | apply sound_setRewindStep | apply sound_decelToCreep | split | exact kept_tape _ (by assumption) | refine kept_tape (pq := pq) _ ?_))

theorem sound_rewindLimit {t : State} (h : Kept pq s) (e : rewindLimit s = some t) : Kept pq t := by
  unfold rewindLimit at e
  try dsimp only at e
  repeat' (split at e)
  all_goals first | (simp at e; done) | (cases Option.some.inj e; repeat' (first | assumption | (intro _; rfl) | (intro _; exact ⟨rfl, rfl, rfl, rfl⟩) | apply sound_stopRequest | apply sound_fixOutcome | split | exact kept_tape _ (by assumption) | refine kept_tape (pq := pq) _ ?_))

theorem sound_leaderDue {t : State} (h : Kept pq s) (e : leaderDue s = some t) : Kept pq t := by
  unfold leaderDue at e
  try dsimp only at e
  repeat' (split at e)
  all_goals first | (simp at e; done) | (cases Option.some.inj e; repeat' (first | assumption | (intro _; rfl) | (intro _; exact ⟨rfl, rfl, rfl, rfl⟩) | apply sound_stopRequest | split | exact kept_tape _ (by assumption) | refine kept_tape (pq := pq) _ ?_))

theorem sound_orElse {a b : Option State} (ha : ∀ t, a = some t → Kept pq t) (hb : ∀ t, b = some t → Kept pq t) :
    ∀ t, (a <|> b) = some t → Kept pq t := by
  intro t e
  cases a with
  | none => exact hb t (by simpa using e)
  | some x => exact ha t (by simpa using e)

theorem sound_positionEvent {t : State} (h : Kept pq s) (e : positionEvent s = some t) : Kept pq t := by
  unfold positionEvent at e
  refine sound_orElse (fun _ => sound_heldRelease h) (sound_orElse (fun _ => sound_decisionDue h) (sound_orElse
    (fun _ => sound_noShowDue h) (sound_orElse (fun _ => sound_eraseDue h) (sound_orElse (fun _ => sound_repositionDue h)
    (sound_orElse (fun _ => sound_blankDue h) (sound_orElse (fun _ => sound_botDue h) (sound_orElse (fun _ => sound_eotDue h)
    (sound_orElse (fun _ => sound_rewindNear h) (sound_orElse (fun _ => sound_rewindLimit h) (fun _ => sound_leaderDue h)))))))))) t e

theorem sound_setActive (a : ActiveSet) (h : Kept pq s) : Kept pq (setActive a s) := by
  unfold setActive
  try dsimp only
  repeat' (first | assumption | (intro _; rfl) | (intro _; split <;> rfl) | with_reducible apply sound_markStatusIf | with_reducible apply sound_onGenerator | split)

theorem sound_settleLoad (h : Kept pq s) : Kept pq (settleLoad s) := by
  unfold settleLoad
  try dsimp only
  repeat' (first | assumption | (intro _; exact ⟨rfl, rfl, rfl, rfl⟩) | (intro _; split <;> exact ⟨rfl, rfl, rfl, rfl⟩) | with_reducible apply sound_onSequencer | split)

theorem sound_rejectSet (c : Characterization) (chain : Nat) (segments : Nat) (why : CharactReason) (h : Kept pq s) : Kept pq (rejectSet c chain segments why s) := by
  unfold rejectSet
  try dsimp only
  repeat' (first | assumption | (intro _; rfl) | (intro _; split <;> rfl) | with_reducible apply sound_raise | with_reducible apply sound_finishResult | with_reducible apply sound_setActive | with_reducible apply sound_settleLoad | with_reducible apply sound_onGenerator | split)

theorem sound_acceptSet (c : Characterization) (h : Kept pq s) : Kept pq (acceptSet c s) := by
  unfold acceptSet
  try dsimp only
  repeat' (first | assumption | (intro _; rfl) | (intro _; split <;> rfl) | with_reducible apply sound_finishResult | with_reducible apply sound_setActive | with_reducible apply sound_settleLoad | with_reducible apply sound_onGenerator | split)

theorem sound_beginCharact (source : Nat) (slot : Option (Fin 8)) (h : Kept pq s) : Kept pq (beginCharact source slot s) := by
  unfold beginCharact
  try dsimp only
  repeat' (first | assumption | (intro _; rfl) | (intro _; split <;> rfl) | with_reducible apply sound_makeClaim | with_reducible apply sound_rejectSet | with_reducible apply sound_onGenerator | split)

theorem sound_settleNow (source : Nat) (h : Kept pq s) : Kept pq (settleNow source s) := by
  unfold settleNow
  try dsimp only
  repeat' (first | assumption | (intro _; rfl) | (intro _; split <;> rfl) | with_reducible apply sound_setActive | with_reducible apply sound_settleLoad | with_reducible apply sound_beginCharact | with_reducible apply sound_onGenerator | split)

theorem sound_settleActive (source : Nat) (h : Kept pq s) : Kept pq (settleActive source s) := by
  unfold settleActive
  try dsimp only
  repeat' (first | assumption | (intro _; rfl) | (intro _; split <;> rfl) | with_reducible apply sound_settleNow | with_reducible apply sound_onGenerator | split)

theorem sound_settlementDue {t : State} (h : Kept pq s) (e : settlementDue s = some t) : Kept pq t := by
  unfold settlementDue at e
  split at e
  · split at e
    · cases Option.some.inj e; exact sound_settleNow _ (sound_onGenerator _ (fun _ => rfl) h)
    · simp at e
  · simp at e

theorem sound_afterCharact (h : Kept pq s) : Kept pq (afterCharact s) := by
  unfold afterCharact
  apply sound_vacuumCheck
  apply sound_takeWaiting
  split
  · next e => exact sound_settlementDue h e
  · exact h

theorem sound_settlementEvent {t : State} (h : Kept pq s) (e : settlementEvent s = some t) : Kept pq t := by
  unfold settlementEvent at e
  obtain ⟨a, ha, rfl⟩ := Option.map_eq_some_iff.mp e
  exact sound_vacuumCheck (sound_takeWaiting (sound_settlementDue h ha))

theorem sound_handOverEvent {t : State} (h : Kept pq s) (e : handOverEvent s = some t) : Kept pq t := by
  unfold handOverEvent at e
  obtain ⟨a, _, rfl⟩ := Option.map_eq_some_iff.mp e
  exact sound_takeRunning (sound_handOver _ _ h)

theorem sound_reactOnce {t : State} (h : Kept pq s) (e : reactOnce s = some t) : Kept pq t := by
  unfold reactOnce at e
  split at e
  · cases Option.some.inj e; exact sound_handleSignal _ (sound_setSignals _ h)
  · exact sound_orElse (fun _ => sound_positionEvent h)
      (sound_orElse (fun _ => sound_settlementEvent h) (fun _ => sound_handOverEvent h)) t e

theorem sound_react (n : Nat) (h : Kept pq s) : Kept pq (react n s) := by
  induction n generalizing s with
  | zero => exact h
  | succ n ih =>
    unfold react
    split
    · next e => exact ih (sound_reactOnce h e)
    · exact h

theorem sound_finishEvent (h : Kept pq s) : Kept pq (finishEvent s) := sound_arbitrate (sound_react _ h)

end Sys2Proof.Machine
end

