-- ==== Sys2Proof/Laws/SoundPorts.lean ====
section
/-! SUPPORT. Soundness: setup, samples, descriptors, orders, reports and the ports, one lemma each. -/

namespace Sys2Proof.Machine

variable {pq : List Instr} {s : State}

theorem sound_beginWalk (i : Fin 6) (c : Characterization) (h : Kept pq s) : Kept pq (beginWalk i c s) := by
  unfold beginWalk
  try dsimp only
  repeat' (first | assumption | (intro _; rfl) | (intro _; split <;> rfl) | with_reducible apply sound_makeClaim | with_reducible apply sound_onGenerator | split)

theorem sound_headerArrives (c : Characterization) (ws : Vector Word 8) (h : Kept pq s) : Kept pq (headerArrives c ws s) := by
  unfold headerArrives
  try dsimp only
  repeat' (first | assumption | with_reducible apply sound_rejectSet | with_reducible apply sound_beginWalk | split)

theorem sound_chainWalked (c : Characterization) (a : Walk) (h : Kept pq s) : Kept pq (chainWalked c a s) := by
  unfold chainWalked
  try dsimp only
  repeat' (first | assumption | with_reducible apply sound_acceptSet | with_reducible apply sound_beginWalk | split)

theorem sound_walkArrives (c : Characterization) (w : Segment) (h : Kept pq s) : Kept pq (walkArrives c w s) := by
  unfold walkArrives
  try dsimp only
  repeat' (first | assumption | (intro _; rfl) | (intro _; split <;> rfl) | with_reducible apply sound_makeClaim | with_reducible apply sound_rejectSet | with_reducible apply sound_chainWalked | with_reducible apply sound_onGenerator | split)

theorem sound_charactAnswered (answer : OwnAnswer) (h : Kept pq s) : Kept pq (charactAnswered answer s) := by
  unfold charactAnswered
  try dsimp only
  repeat' (first | assumption | with_reducible apply sound_rejectSet | with_reducible apply sound_afterCharact | with_reducible apply sound_headerArrives | with_reducible apply sound_walkArrives | split)

theorem sound_takePending (p : PendingSet) (h : Kept pq s) : Kept pq (takePending p s) := by
  unfold takePending
  try dsimp only
  repeat' (first | assumption | (intro _; rfl) | (intro _; split <;> rfl) | with_reducible apply sound_finishResult | with_reducible apply sound_setActive | with_reducible apply sound_beginCharact | with_reducible apply sound_onGenerator | split)

theorem sound_selectSet (source : Option Nat) (slot : Fin 8) (h : Kept pq s) : Kept pq (selectSet source slot s) := by
  unfold selectSet
  try dsimp only
  repeat' (first | assumption | (intro _; rfl) | (intro _; split <;> rfl) | with_reducible apply sound_cancelResult | with_reducible apply sound_onGenerator | split)

theorem sound_dropSelections (h : Kept pq s) : Kept pq (dropSelections s) := by
  unfold dropSelections
  try dsimp only
  repeat' (first | assumption | (intro _; rfl) | (intro _; split <;> rfl) | with_reducible apply sound_withdrawClaims | with_reducible apply sound_cancelResult | with_reducible apply sound_afterCharact | with_reducible apply sound_onGenerator | split)

theorem sound_setSetupResult (f : SetupResult → SetupResult) (h : Kept pq s) : Kept pq (setSetupResult f s) := by
  unfold setSetupResult
  try dsimp only
  repeat' (first | assumption | (intro _; rfl) | (intro _; split <;> rfl) | with_reducible apply sound_mark | with_reducible apply sound_onLoader | split)

theorem sound_completeCommit (h : Kept pq s) : Kept pq (completeCommit s) := by
  unfold completeCommit
  try dsimp only
  repeat' (first | assumption | (intro _; rfl) | (intro _; split <;> rfl) | with_reducible apply sound_setSetupResult | with_reducible apply sound_onLoader | split)

theorem sound_raiseFieldDefaulted (group count first value : Nat) (h : Kept pq s) : Kept pq (raiseFieldDefaulted group count first value s) := by
  unfold raiseFieldDefaulted
  try dsimp only
  repeat' (first | assumption | with_reducible apply sound_raise | split)

theorem sound_raiseReadFault (a : Activity) (addr : Nat) (h : Kept pq s) : Kept pq (raiseReadFault a addr s) := by
  unfold raiseReadFault
  try dsimp only
  repeat' (first | assumption | with_reducible apply sound_raise | split)

theorem sound_raiseDefaults (a : Activity) (cs : List CheckedField) (h : Kept pq s) : Kept pq (raiseDefaults a cs s) := by
  unfold raiseDefaults
  try dsimp only
  repeat' (first | assumption | with_reducible apply sound_raiseFieldDefaulted | split)

theorem sound_deferGroupA (reason : Nat) (h : Kept pq s) : Kept pq (deferGroupA reason s) := by
  unfold deferGroupA
  try dsimp only
  repeat' (first | assumption | with_reducible apply sound_raise | with_reducible apply sound_setSetupResult | split)

theorem sound_publishGroupA (g : GroupA) (r : GroupResult) (h : Kept pq s) : Kept pq (publishGroupA g r s) := by
  unfold publishGroupA
  dsimp only
  exact sound_setSetupResult _ (sound_onServos _ (fun _ => ⟨rfl, rfl⟩) (sound_onSequencer _ (fun _ => ⟨rfl, rfl, rfl, rfl⟩) (sound_onPath _ (sound_withdrawClaims _ (sound_retryHeld
    (sound_onLoader _ (fun _ => rfl) (fun _ => rfl) h))))))

theorem kept_recountMarker (n : Sensors) : SensorsKept n { n with bot := recountMarker n.bot, eot := recountMarker n.eot } :=
  ⟨⟨rfl, rfl⟩, ⟨rfl, rfl⟩, rfl, rfl⟩

theorem clampAttempts_tape (g : GroupB) {r : BlockRecord} (h : r.tapeLength = tapeLengthOf r.kind r.length) :
    (clampAttempts g r).tapeLength = tapeLengthOf (clampAttempts g r).kind (clampAttempts g r).length := by
  unfold clampAttempts; split <;> exact h

theorem sound_publishGroupB (g : GroupB) (r : GroupResult) (hg : 1 ≤ g.conversions) (h : Kept pq s) : Kept pq (publishGroupB g r s) := by
  unfold publishGroupB
  dsimp only
  refine sound_setSetupResult _ (sound_foldl _ (fun _ _ ha => sound_setRecord _ _ (clampAttempts_tape _ (kept_tape _ ha)) ha) _ (sound_onSensors _ kept_recountMarker
    (sound_onServos _ (fun _ => ⟨rfl, rfl⟩) ?_)))
  exact { h with conversions := hg }

theorem sound_publishGroupC (g : GroupC) (r : GroupResult) (h : Kept pq s) : Kept pq (publishGroupC g r s) := by
  unfold publishGroupC
  dsimp only
  apply sound_setSetupResult
  -- everything but NOTICE, whose mask is replaced here
  have k : Kept pq (followNotice (s.onLoader fun l => { l with groupC := g })) := { h with notice := rfl }
  have hr : (s.reporter.refreshTimer.map fun _ => g.refresh).isSome = s.sequencer.transport.refreshes := by
    rw [Option.isSome_map]; exact h.refresh
  unfold publishStyle
  split
  · refine soundBut_mark _ ?_
    have fold : ∀ (l : List (Fin 8)) (a : State), SoundBut pq a → SoundBut pq (l.foldl (fun a p => mark (.log p) a) a) := by
      intro l
      induction l with
      | nil => exact fun _ ha => ha
      | cons i l ih => exact fun _ ha => ih _ (soundBut_mark _ ha)
    exact fold _ _ { k with stored := Nat.zero_le _, columnS := ⟨k.columnS.x, k.columnS.sum⟩, columnT := ⟨k.columnT.x, k.columnT.sum⟩, refresh := hr }
  · exact { k with columnS := ⟨k.columnS.x, k.columnS.sum⟩, columnT := ⟨k.columnT.x, k.columnT.sum⟩, refresh := hr }
  · exact { k with columnS := ⟨k.columnS.x, k.columnS.sum⟩, columnT := ⟨k.columnT.x, k.columnT.sum⟩, refresh := hr }

theorem sound_takeCommit (configure : Bool) (h : Kept pq s) : Kept pq (takeCommit configure s) := by
  unfold takeCommit
  try dsimp only
  repeat' (first | assumption | (intro _; rfl) | (intro _; split <;> rfl) | with_reducible apply sound_startGroupRead | with_reducible apply sound_setSetupResult | with_reducible apply sound_deferGroupA | with_reducible apply sound_onLoader | split)

theorem sound_setupCommit (configure : Bool) (h : Kept pq s) : Kept pq (setupCommit configure s) := by
  unfold setupCommit
  try dsimp only
  repeat' (first | assumption | (intro _; rfl) | (intro _; split <;> rfl) | with_reducible apply sound_takeCommit | with_reducible apply sound_onLoader | split)

theorem sound_nextWork (h : Kept pq s) : Kept pq (nextWork s) := by
  unfold nextWork
  try dsimp only
  repeat' (first | assumption | (intro _; rfl) | (intro _; split <;> rfl) | with_reducible apply sound_startGroupRead | with_reducible apply sound_startGroupB | with_reducible apply sound_takeCommit | with_reducible apply sound_onLoader | split)

theorem sound_readEnds (h : Kept pq s) : Kept pq (readEnds s) := by
  unfold readEnds
  try dsimp only
  repeat' (first | assumption | (intro _; rfl) | (intro _; split <;> rfl) | with_reducible apply sound_onLoader | split)

theorem sound_claimSweep (h : Kept pq s) : Kept pq (claimSweep s) := by
  unfold claimSweep
  try dsimp only
  repeat' (first | assumption | with_reducible apply sound_makeClaim | split)

theorem sound_endGroupA (words : List Word) (fault : Option Nat) (setupFirst : Bool) (h : Kept pq s) : Kept pq (endGroupA words fault setupFirst s) := by
  unfold endGroupA
  try dsimp only
  repeat' (first | assumption | with_reducible apply sound_raise | with_reducible apply sound_raiseReadFault | with_reducible apply sound_deferGroupA | with_reducible apply sound_publishGroupA | with_reducible apply sound_nextWork | with_reducible apply sound_readEnds | with_reducible apply sound_claimSweep | split)

theorem checkField_number (words : List Word) (base : Nat) (f : FieldSpec) : (checkField words base f).number = f.number := by
  unfold checkField; dsimp only; split <;> rfl

theorem groupB_conversions (words : List Word) : 1 ≤ (groupBOf (checkGroupB words)).conversions := by
  have e : (groupBOf (checkGroupB words)).conversions = (checkField words 16 ⟨42, .oneOf [1, 2, 4, 8], 4⟩).published := by
    simp [groupBOf, checkGroupB, publishedOf, specB, specXExt, List.find?, checkField_number]
  rw [e]
  unfold checkField
  dsimp only
  split
  · next hv => simp [FieldRange.holds] at hv; dsimp only; omega
  · exact (by decide : 1 ≤ 4)

theorem sound_endGroupB (words : List Word) (fault : Option Nat) (setupFirst : Bool) (h : Kept pq s) :
    Kept pq (endGroupB words fault setupFirst s) := by
  have tail : ∀ t, Kept pq t → ∀ p, Kept pq (vacuumCheck (if setupFirst then settleActive p (nextWork t) else nextWork (settleActive p t))) := by
    intro t ht p
    apply sound_vacuumCheck
    split
    · exact sound_settleActive _ (sound_nextWork ht)
    · exact sound_nextWork (sound_settleActive _ ht)
  have stage : ∀ t, Kept pq t → Kept pq (t.onSequencer fun q => { q with loadStage := if q.loadStage = .reading then .settling else q.loadStage }) :=
    fun t ht => sound_onSequencer _ (fun _ => ⟨rfl, rfl, rfl, rfl⟩) ht
  unfold endGroupB
  cases fault with
  | some a => exact tail _ (stage _ (sound_raiseReadFault _ _ (sound_publishGroupB _ _ (by decide) (sound_readEnds h)))) _
  | none => exact tail _ (stage _ (sound_raiseDefaults _ _ (sound_publishGroupB _ _ (groupB_conversions _) (sound_readEnds h)))) _

theorem sound_endGroupC (words : List Word) (fault : Option Nat) (h : Kept pq s) : Kept pq (endGroupC words fault s) := by
  have tail : ∀ t, Kept pq t → Kept pq (nextWork (match t.loader.commit with
      | some c => if c.awaitingSweep then t else completeCommit t
      | none => t)) := by
    intro t ht
    apply sound_nextWork
    split
    · split
      · exact ht
      · exact sound_completeCommit ht
    · exact ht
  unfold endGroupC
  cases fault with
  | some a => exact tail _ (sound_raiseReadFault _ _ (sound_publishGroupC _ _ (sound_readEnds h)))
  | none => exact tail _ (sound_raiseDefaults _ _ (sound_publishGroupC _ _ (sound_readEnds h)))

theorem sound_endGroupRead (a : Activity) (words : List Word) (fault : Option Nat) (setupFirst : Bool) (h : Kept pq s) : Kept pq (endGroupRead a words fault setupFirst s) := by
  unfold endGroupRead
  try dsimp only
  repeat' (first | assumption | with_reducible apply sound_endGroupA | with_reducible apply sound_endGroupB | with_reducible apply sound_endGroupC | split)

theorem sound_setupAnswered (word count : Nat) (answer : OwnAnswer) (setupFirst : Bool) (h : Kept pq s) : Kept pq (setupAnswered word count answer setupFirst s) := by
  unfold setupAnswered
  try dsimp only
  repeat' (first | assumption | (intro _; rfl) | (intro _; split <;> rfl) | with_reducible apply sound_makeClaim | with_reducible apply sound_endGroupRead | with_reducible apply sound_onLoader | split)

theorem sound_setSwept (k : Nat) (ws : Vector Word 8) (h : Kept pq s) : Kept pq (setSwept k ws s) := by
  unfold setSwept
  try dsimp only
  repeat' (first | assumption | with_reducible apply sound_onPath | split)

theorem sound_rebuildRecord (i : Fin 16) (h : Kept pq s) : Kept pq (rebuildRecord i s) := by
  unfold rebuildRecord
  try dsimp only
  repeat' (first | assumption | rfl | exact kept_tape _ (by assumption) | with_reducible apply sound_raise | with_reducible apply sound_setRecord | split | refine kept_tape (pq := pq) _ ?_)

theorem tape_reset : ∀ i : Fin 16, (Tracker.reset.records[i]).tapeLength =
    tapeLengthOf (Tracker.reset.records[i]).kind (Tracker.reset.records[i]).length := by decide

theorem sound_emptyTable (h : Kept pq s) : Kept pq (emptyTable s) :=
  sound_foldl _ (fun _ _ ha => sound_mark _ ha) _ { h with tape := tape_reset }

theorem sound_rebuildTable (h : Kept pq s) : Kept pq (rebuildTable s) :=
  sound_foldl _ (fun _ _ ha => sound_rebuildRecord _ ha) _ (sound_emptyTable h)

theorem sound_sweepTold (h : Kept pq s) : Kept pq (sweepTold s) := by
  unfold sweepTold
  try dsimp only
  repeat' (first | assumption | (intro _; rfl) | (intro _; split <;> rfl) | with_reducible apply sound_completeCommit | with_reducible apply sound_onLoader | split)

theorem sound_reportTold (h : Kept pq s) : Kept pq (reportTold s) := { h with dirty := show allRecords.Nodup by decide }

theorem sound_endSweep (h : Kept pq s) : Kept pq (endSweep s) :=
  sound_reportTold (sound_sweepTold (sound_rebuildTable (sound_onPath _ h)))

theorem sound_sweepAnswered (k addr : Nat) (answer : OwnAnswer) (h : Kept pq s) : Kept pq (sweepAnswered k addr answer s) := by
  have tail : ∀ t, Kept pq t → Kept pq (if k < 11 then makeClaim (.sweep (k + 1)) false (t.onPath fun p => { p with sweep := some (k + 1) })
      else endSweep t) := by
    intro t ht
    split
    · exact sound_makeClaim _ _ (sound_onPath _ ht)
    · exact sound_endSweep ht
  unfold sweepAnswered
  cases answer with
  | done ws => exact tail _ (sound_setSwept _ _ h)
  | fault => exact tail _ (sound_raise _ (sound_setSwept _ _ h))

theorem sound_countStep (d : Direction) (h : Kept pq s) : Kept pq (countStep d s) := by
  unfold countStep
  try dsimp only
  repeat' (first | assumption | (intro _; exact ⟨rfl, rfl⟩) | with_reducible apply sound_onServos | split)

theorem sound_countSeek (h : Kept pq s) : Kept pq (countSeek s) := by
  unfold countSeek
  try dsimp only
  repeat' (first | assumption | (intro _; exact ⟨rfl, rfl, rfl, rfl⟩) | (intro _; split <;> exact ⟨rfl, rfl, rfl, rfl⟩) | with_reducible apply sound_onSequencer | split)

theorem kept_setMarker (n : Sensors) (m : Marker) (r : MarkerRecord) : SensorsKept n (n.setMarker m r) := by
  cases m <;> exact ⟨⟨rfl, rfl⟩, ⟨rfl, rfl⟩, rfl, rfl⟩

theorem sound_countMarker (m : Marker) (d : Direction) (h : Kept pq s) : Kept pq (countMarker m d s) := by
  unfold countMarker
  dsimp only
  have k := fun r => sound_onSensors (fun n => n.setMarker m r) (fun n => kept_setMarker n m r) h
  split
  · exact sound_markerQualified m d (k _)
  · exact k _

theorem sound_checkSeekLimit (h : Kept pq s) : Kept pq (checkSeekLimit s) := by
  unfold checkSeekLimit
  try dsimp only
  repeat' (first | assumption | with_reducible apply sound_stopRequest | with_reducible apply sound_fixOutcome | split)

theorem sound_encoderCount (d : Direction) (h : Kept pq s) : Kept pq (encoderCount d s) := by
  unfold encoderCount
  try dsimp only
  repeat' (first | assumption | with_reducible apply sound_finishEvent | with_reducible apply sound_countStep | with_reducible apply sound_countSeek | with_reducible apply sound_countMarker | with_reducible apply sound_checkSeekLimit | split)

theorem kept_setReel (v : Servos) (r : Reel) (x : ReelServo) : ServosKept v (v.setReel r x) := by
  cases r <;> exact ⟨rfl, rfl⟩

theorem sound_indexPulse (reel : Reel) (h : Kept pq s) : Kept pq (indexPulse reel s) := by
  have k := fun x => sound_onServos (fun v => v.setReel reel x) (fun v => kept_setReel v reel x) h
  unfold indexPulse markStatusIf markStatus
  dsimp only
  split
  · exact sound_mark _ (k _)
  · exact k _

theorem sound_keepCounts (before : Sensors) (h : Kept pq s) : Kept pq (keepCounts before s) :=
  sound_onSensors _ (fun _ => ⟨⟨rfl, rfl⟩, ⟨rfl, rfl⟩, rfl, rfl⟩) h

theorem sound_followLoss (h : Kept pq s) : Kept pq (followLoss s) :=
  sound_onSensors _ (fun _ => ⟨⟨rfl, rfl⟩, ⟨rfl, rfl⟩, rfl, rfl⟩) h

theorem sound_vacuumLost (c : Reel) (h : Kept pq s) : Kept pq (vacuumLost c s) := by
  unfold vacuumLost
  try dsimp only
  repeat' (first | assumption | with_reducible apply sound_followLoss | with_reducible apply sound_keepCounts | with_reducible apply sound_raise | with_reducible apply sound_emergencyStop | split)

theorem sound_vacuumChanged (c : Reel) (made : Bool) (h : Kept pq s) : Kept pq (vacuumChanged c made s) := by
  unfold vacuumChanged
  try dsimp only
  repeat' (first | assumption | with_reducible apply sound_vacuumCheck | with_reducible apply sound_vacuumLost | split)

theorem sound_doorChanged (closed : Bool) (h : Kept pq s) : Kept pq (doorChanged closed s) := by
  unfold doorChanged
  try dsimp only
  repeat' (first | assumption | with_reducible apply sound_raise | with_reducible apply sound_emergencyStop | split)

theorem sound_pathChanged (present : Bool) (h : Kept pq s) : Kept pq (pathChanged present s) := by
  unfold pathChanged
  try dsimp only
  repeat' (first | assumption | with_reducible apply sound_raise | with_reducible apply sound_completeUnload | with_reducible apply sound_emergencyStop | split)

theorem sound_switchAccepted (sw : Switch) (active : Bool) (h : Kept pq s) : Kept pq (switchAccepted sw active s) := by
  unfold switchAccepted
  try dsimp only
  repeat' (first | assumption | with_reducible apply sound_vacuumChanged | with_reducible apply sound_doorChanged | with_reducible apply sound_pathChanged | split)

theorem kept_setSwitch (n : Sensors) (sw : Switch) (r : SwitchRecord) : SensorsKept n (n.setSwitch sw r) := by
  cases sw <;> exact ⟨⟨rfl, rfl⟩, ⟨rfl, rfl⟩, rfl, rfl⟩

theorem sound_setSwitchRecord (sw : Switch) (r : SwitchRecord) (h : Kept pq s) : Kept pq (setSwitchRecord sw r s) :=
  sound_onSensors _ (fun n => kept_setSwitch n sw r) h

theorem sound_firstSettled (sw : Switch) (h : Kept pq s) : Kept pq (firstSettled sw s) := by
  unfold firstSettled
  split <;> first | exact sound_vacuumCheck h | exact h

theorem sound_acceptSwitch (sw : Switch) (h : Kept pq s) : Kept pq (acceptSwitch sw s) := by
  unfold acceptSwitch
  try dsimp only
  repeat' (first | assumption | with_reducible apply sound_markStatus | with_reducible apply sound_switchAccepted | with_reducible apply sound_firstSettled | with_reducible apply sound_setSwitchRecord | split)

theorem sound_rawChange (sw : Switch) (level : Bool) (h : Kept pq s) : Kept pq (rawChange sw level s) := by
  unfold rawChange
  try dsimp only
  repeat' (first | assumption | with_reducible apply sound_finishEvent | with_reducible apply sound_setSwitchRecord | with_reducible apply sound_acceptSwitch | split)

theorem sound_stabilityExpiry (sw : Switch) (h : Kept pq s) : Kept pq (stabilityExpiry sw s) := by
  unfold stabilityExpiry
  try dsimp only
  repeat' (first | assumption | with_reducible apply sound_finishEvent | with_reducible apply sound_acceptSwitch | split)

theorem sound_markerActive (m : Marker) (h : Kept pq s) : Kept pq (markerActive m s) := by
  unfold markerActive
  dsimp only
  split
  · exact h
  · exact sound_onSensors _ (fun n => kept_setMarker n m _) h

theorem sound_markerInactive (m : Marker) (h : Kept pq s) : Kept pq (markerInactive m s) := by
  unfold markerInactive
  dsimp only
  have k := fun r => sound_onSensors (fun n => n.setMarker m r) (fun n => kept_setMarker n m r) h
  split
  · exact h
  · split
    · exact sound_finishEvent (sound_botLeft (k _))
    · exact k _

theorem saturate_le (x : Int) : saturate x ≤ 1023 := by unfold saturate clampInt; omega

theorem sound_convert (a b : Int) (h : Kept pq s) : Kept pq (convert a b s) := by
  unfold convert
  split
  · next hn =>
    have ha := saturate_le a
    have hb := saturate_le b
    have h1 := h.columnS.sum
    have h2 := h.columnT.sum
    exact { h with
      columnS := ⟨h.columnS.x, by simp only [onSensors_sensors]; omega⟩
      columnT := ⟨h.columnT.x, by simp only [onSensors_sensors]; omega⟩
      taken := by simp only [onSensors_sensors]; omega
      interval := h.interval }
  · exact h

theorem mean_le {sum taken n : Nat} (hs : sum ≤ 1023 * taken) (ht : taken ≤ n) : sum / n ≤ 1023 := by
  apply Nat.div_le_of_le_mul
  have := Nat.mul_le_mul_left 1023 ht
  rw [Nat.mul_comm n 1023]; omega

theorem sound_closeInterval (h : Kept pq s) : Kept pq (closeInterval s) :=
  { h with
    columnS := ⟨mean_le h.columnS.sum h.taken, Nat.zero_le _⟩
    columnT := ⟨mean_le h.columnT.sum h.taken, Nat.zero_le _⟩
    taken := Nat.zero_le _
    interval := h.conversions }

theorem within_clampCommand (x : Int) : commandWithin (clampCommand x) := clampInt_within x (by decide)

theorem sound_sendCommands (v : Bool) (h : Kept pq s) : Kept pq (sendCommands v s) := by
  have z : commandWithin 0 := ⟨by decide, by decide⟩
  have w : commandWithin Config.windCommand := ⟨by decide, by decide⟩
  unfold sendCommands
  refine { h with capstan := ?_, supply := ?_, takeup := ?_ } <;> simp only [onLinks_links, driveCommands] <;> split <;>
    first | exact z | exact w | exact within_clampCommand _

theorem sound_takeTracking (h : Kept pq s) : Kept pq (takeTracking s) := by
  unfold takeTracking
  try dsimp only
  repeat' (first | assumption | (intro _; exact ⟨rfl, rfl⟩) | with_reducible apply sound_onServos | split)

theorem kept_windowCount (b : Bool) (g : GroupC) (c : ColumnRecord) : ColumnKept c (windowCount b g c) :=
  ⟨rfl, rfl⟩

theorem sound_takeWindow (h : Kept pq s) : Kept pq (takeWindow s) :=
  sound_onSensors _ (fun _ => ⟨kept_windowCount _ _ _, kept_windowCount _ _ _, rfl, rfl⟩) h

theorem sound_endCut (c : Reel) (h : Kept pq s) : Kept pq (endCut c s) :=
  sound_onSensors _ (fun _ => by cases c <;> exact ⟨⟨rfl, rfl⟩, ⟨rfl, rfl⟩, rfl, rfl⟩) h

theorem sound_columnFault (c : Reel) (x : Nat) (h : Kept pq s) : Kept pq (columnFault c x s) := by
  unfold columnFault
  try dsimp only
  repeat' (first | assumption | with_reducible apply sound_endCut | with_reducible apply sound_raise | with_reducible apply sound_emergencyStop | split)

theorem sound_trackingFaulted (e : Int) (h : Kept pq s) : Kept pq (trackingFaulted e s) := by
  unfold trackingFaulted
  try dsimp only
  repeat' (first | assumption | with_reducible apply sound_raise | with_reducible apply sound_emergencyStop | split)

theorem sound_settleTest (h : Kept pq s) : Kept pq (settleTest s) := by
  unfold settleTest
  try dsimp only
  repeat' (first | assumption | (intro _; exact ⟨rfl, rfl, rfl, rfl⟩) | (intro _; split <;> exact ⟨rfl, rfl, rfl, rfl⟩) | with_reducible apply sound_enterSeek | with_reducible apply sound_onSequencer | split)

theorem sound_sampleCounts (h : Kept pq s) : Kept pq (sampleCounts s) := by
  unfold sampleCounts
  try dsimp only
  repeat' (first | assumption | with_reducible apply sound_generatorSample | with_reducible apply sound_closeInterval | with_reducible apply sound_sendCommands | with_reducible apply sound_takeTracking | with_reducible apply sound_takeWindow | with_reducible apply sound_react | split)

theorem sound_sampleFaults (takeupFirst : Bool) (h : Kept pq s) : Kept pq (sampleFaults takeupFirst s) := by
  have one : ∀ c x t, Kept pq t → Kept pq (if columnDue c s then columnFault c x t else t) := by
    intro c x t ht
    split
    · exact sound_columnFault _ _ ht
    · exact ht
  have first : Kept pq (if decide (Config.trackingLimit ≤ s.servos.tracking) then trackingFaulted s.trackingError s else s) := by
    split
    · exact sound_trackingFaulted _ h
    · exact h
  unfold sampleFaults
  cases takeupFirst
  · exact one _ _ _ (one _ _ _ first)
  · exact one _ _ _ (one _ _ _ first)

theorem sound_servoSample (takeupFirst : Bool) (h : Kept pq s) : Kept pq (servoSample takeupFirst s) := by
  unfold servoSample
  try dsimp only
  repeat' (first | assumption | with_reducible apply sound_finishEvent | with_reducible apply sound_settleTest | with_reducible apply sound_sampleCounts | with_reducible apply sound_sampleFaults | split)

theorem sound_conflict (i : Fin 16) (code : Nat) (h : Kept pq s) : Kept pq (conflict i code s) := by
  unfold conflict
  try dsimp only
  repeat' (first | assumption | with_reducible apply sound_raiseBlock | split)

theorem sound_invalidEntry (i : Fin 16) (h : Kept pq s) : Kept pq (invalidEntry i s) := by
  unfold invalidEntry
  try dsimp only
  repeat' (first | assumption | with_reducible apply sound_raiseBlock | split)

theorem sound_stateFilled (i : Fin 16) (h : Kept pq s) : Kept pq (stateFilled i s) := by
  unfold stateFilled
  try dsimp only
  repeat' (first | assumption | rfl | exact kept_tape _ (by assumption) | with_reducible apply sound_setRecord | with_reducible apply sound_cursorFilled | with_reducible apply sound_conflict | with_reducible apply sound_invalidEntry | split | refine kept_tape (pq := pq) _ ?_)

theorem sound_shrinkSpan (h : Kept pq s) : Kept pq (shrinkSpan s) := by
  unfold shrinkSpan
  try dsimp only
  repeat' (first | assumption | (intro _; rfl) | (intro _; split <;> rfl) | with_reducible apply sound_onTracker | split)

theorem sound_retract (i : Fin 16) (h : Kept pq s) : Kept pq (retract i s) := by
  unfold retract
  try dsimp only
  repeat' (first | assumption | with_reducible apply sound_retryHeld | with_reducible apply sound_freeRecord | with_reducible apply sound_retracted | with_reducible apply sound_shrinkSpan | split)

theorem sound_stateEmpty (i : Fin 16) (h : Kept pq s) : Kept pq (stateEmpty i s) := by
  unfold stateEmpty
  try dsimp only
  repeat' (first | assumption | with_reducible apply sound_freeRecord | with_reducible apply sound_receiveFreed | with_reducible apply sound_conflict | with_reducible apply sound_retract | split)

theorem sound_stateCheck (ok : Bool) (i : Fin 16) (h : Kept pq s) : Kept pq (stateCheck ok i s) := by
  unfold stateCheck
  try dsimp only
  repeat' (first | assumption | with_reducible apply sound_writeFailure | with_reducible apply sound_verifyBlock | with_reducible apply sound_conflict | split)

theorem sound_readingReceipt (r : Receipt) (o : OrderCode) (i : Fin 16) (h : Kept pq s) : Kept pq (readingReceipt r o i s) := by
  unfold readingReceipt
  try dsimp only
  repeat' (first | assumption | rfl | exact kept_tape _ (by assumption) | with_reducible apply sound_setRecord | with_reducible apply sound_countReceived | with_reducible apply sound_advanceReceive | with_reducible apply sound_setBlankRef | with_reducible apply sound_readErrorTaken | with_reducible apply sound_readReceipt | split | refine kept_tape (pq := pq) _ ?_)

theorem sound_spacingReceipt (r : Receipt) (o : OrderCode) (i : Fin 16) (h : Kept pq s) : Kept pq (spacingReceipt r o i s) := by
  unfold spacingReceipt
  try dsimp only
  repeat' (first | assumption | rfl | exact kept_tape _ (by assumption) | with_reducible apply sound_setRecord | with_reducible apply sound_countReceived | with_reducible apply sound_spaceReceipt | split | refine kept_tape (pq := pq) _ ?_)

theorem sound_stateReceipt (r : Receipt) (i : Fin 16) (h : Kept pq s) : Kept pq (stateReceipt r i s) := by
  unfold stateReceipt
  try dsimp only
  repeat' (first | assumption | with_reducible apply sound_conflict | with_reducible apply sound_readingReceipt | with_reducible apply sound_spacingReceipt | split)

theorem sound_stateCodeWrite (i : Fin 16) (code : Nat) (h : Kept pq s) : Kept pq (stateCodeWrite i code s) := by
  unfold stateCodeWrite
  try dsimp only
  repeat' (first | assumption | with_reducible apply sound_invalidEntry | with_reducible apply sound_stateFilled | with_reducible apply sound_stateEmpty | with_reducible apply sound_stateCheck | with_reducible apply sound_stateReceipt | split)

theorem sound_checkExpiry (i : Fin 16) (h : Kept pq s) : Kept pq (checkExpiry i s) := by
  unfold checkExpiry
  try dsimp only
  repeat' (first | assumption | rfl | exact kept_tape _ (by assumption) | with_reducible apply sound_raiseBlock | with_reducible apply sound_setRecord | with_reducible apply sound_writeFailure | with_reducible apply sound_finishEvent | split | refine kept_tape (pq := pq) _ ?_)

theorem sound_mergeDescriptor (k : Fin 64) (w : BusWord) (h : Kept pq s) : Kept pq (mergeDescriptor k w s) := by
  unfold mergeDescriptor
  try dsimp only
  repeat' (first | assumption | with_reducible apply sound_onPath | split)

theorem sound_descriptorWrite (i : Fin 16) (w : BusWord) (h : Kept pq s) : Kept pq (descriptorWrite i w s) := by
  unfold descriptorWrite
  try dsimp only
  repeat' (first | assumption | with_reducible apply sound_stateCodeWrite | with_reducible apply sound_mergeDescriptor | split)

theorem sound_descriptorCommand (i : Fin 16) (code : Word) (h : Kept pq s) : Kept pq (descriptorCommand i code s) := by
  unfold descriptorCommand
  try dsimp only
  repeat' (first | assumption | with_reducible apply sound_finishEvent | with_reducible apply sound_descriptorWrite | split)

theorem sound_haltRewind (h : Kept pq s) : Kept pq (haltRewind s) := by
  unfold haltRewind
  try dsimp only
  repeat' (first | assumption | (intro _; exact ⟨rfl, rfl, rfl, rfl⟩) | (intro _; split <;> exact ⟨rfl, rfl, rfl, rfl⟩) | with_reducible apply sound_stopRequest | with_reducible apply sound_onSequencer | split)

theorem sound_haltMotion (h : Kept pq s) : Kept pq (haltMotion s) := by
  unfold haltMotion
  try dsimp only
  repeat' (first | assumption | with_reducible apply sound_dropMotion | with_reducible apply sound_setTransport | with_reducible apply sound_stopMotion | with_reducible apply sound_haltRewind | split)

theorem sound_haltDeck (h : Kept pq s) : Kept pq (haltDeck s) := by
  unfold haltDeck
  dsimp only
  split
  · exact sound_cutOrder _ _ _ (sound_haltMotion h)
  · exact sound_haltMotion h

theorem sound_softReset (h : Kept pq s) : Kept pq (softReset s) :=
  sound_setCeiling _ (sound_setPendingClasses _ (sound_onServos _ (fun _ => ⟨rfl, rfl⟩) (sound_onSequencer _ (fun _ => ⟨rfl, rfl, rfl, rfl⟩) (sound_emptyTable (sound_retryHeld
    (sound_dropSelections (sound_setSuspended _ (sound_cancelQueue _ (sound_cutOrder _ _ _ (sound_haltMotion h))))))))))

theorem sound_ackClasses (named : Nat) (h : Kept pq s) : Kept pq (ackClasses named s) := by
  unfold ackClasses
  try dsimp only
  repeat' (first | assumption | with_reducible apply sound_setPendingClasses | split)

theorem sound_orderEffect (o : OrderCode) (i : Fin 8) (arg : Nat) (h : Kept pq s) : Kept pq (orderEffect o i arg s) := by
  cases o with
  | halt => exact sound_haltDeck h
  | flush => exact sound_cancelQueue _ h
  | resume => exact sound_setSuspended _ h
  | ack => exact sound_ackClasses _ h
  | ceiling => exact sound_setCeiling _ h
  | profileSelect => exact sound_selectSet _ _ h
  | softReset => exact sound_softReset h
  | _ => exact sound_setQueue _ h

theorem sound_recordCommit (i : Fin 8) (t : TakenOrder) (o : Outcome) (r : Reason) (finalT : Int) (h : Kept pq s) : Kept pq (recordCommit i t o r finalT s) := by
  unfold recordCommit
  try dsimp only
  repeat' (first | assumption | with_reducible apply sound_setResult | with_reducible apply sound_onIntake | split)

theorem sound_refuseCommit (i : Fin 8) (arg : Nat) (r : Reason) (h : Kept pq s) : Kept pq (refuseCommit i arg r s) := by
  unfold refuseCommit
  try dsimp only
  repeat' (first | assumption | with_reducible apply sound_raise | with_reducible apply sound_recordCommit | split)

theorem sound_acceptCommit (o : OrderCode) (i : Fin 8) (u : ArgumentUse) (h : Kept pq s) : Kept pq (acceptCommit o i u s) := by
  unfold acceptCommit
  dsimp only
  split
  · exact sound_orderEffect _ _ _ (sound_recordCommit _ _ _ _ _ h)
  · exact sound_orderEffect _ _ _ (sound_recordCommit _ _ _ _ _ (sound_takeFree h))

theorem sound_judgeCommit (i : Fin 8) (h : Kept pq s) : Kept pq (judgeCommit i s) := by
  unfold judgeCommit
  try dsimp only
  repeat' (first | assumption | with_reducible apply sound_raise | with_reducible apply sound_refuseCommit | with_reducible apply sound_acceptCommit | split)

theorem sound_mergeSlot (k : Fin 32) (w : BusWord) (h : Kept pq s) : Kept pq (mergeSlot k w s) := by
  unfold mergeSlot
  try dsimp only
  repeat' (first | assumption | with_reducible apply sound_onPath | split)

theorem sound_slotWrite (i : Fin 8) (w : BusWord) (h : Kept pq s) : Kept pq (slotWrite i w s) := by
  unfold slotWrite
  try dsimp only
  repeat' (first | assumption | with_reducible apply sound_judgeCommit | with_reducible apply sound_mergeSlot | split)

theorem sound_slotCommand (i : Fin 8) (code seq : Byte) (h : Kept pq s) : Kept pq (slotCommand i code seq s) := by
  unfold slotCommand
  try dsimp only
  repeat' (first | assumption | with_reducible apply sound_finishEvent | with_reducible apply sound_slotWrite | split)

theorem sound_quietSlotCommand (i : Fin 8) (code seq : Byte) (h : Kept pq s) : Kept pq (quietSlotCommand i code seq s) := by
  unfold quietSlotCommand
  try dsimp only
  repeat' (first | assumption | with_reducible apply sound_slotWrite | split)

theorem sound_beginRecordWrite (n : RecordName) (rest : List RecordName) (hr : rest.Nodup) (h : Kept pq s) :
    Kept pq (beginRecordWrite n rest s) := sound_makeClaim _ _ { h with dirty := hr }

theorem sound_reportAnswered (done : Bool) (h : Kept pq s) : Kept pq (reportAnswered done s) := by
  unfold reportAnswered
  try dsimp only
  repeat' (first | assumption | (intro _; exact ⟨rfl, rfl, rfl, rfl, rfl, rfl⟩) | (intro _; split <;> exact ⟨rfl, rfl, rfl, rfl, rfl, rfl⟩) | with_reducible apply sound_mark | with_reducible apply sound_makeClaim | with_reducible apply sound_onReporter | split)

theorem sound_refreshExpiry (h : Kept pq s) : Kept pq (refreshExpiry s) := by
  unfold refreshExpiry
  split
  · next e => exact sound_markStatus { h with refresh := by have k := h.refresh; rw [e] at k; exact k }
  · exact h

theorem sound_filledRead (i : Fin 16) (h : Kept pq s) : Kept pq (filledRead i s) := by
  unfold filledRead
  try dsimp only
  repeat' (first | assumption | (intro _; rfl) | (intro _; split <;> rfl) | with_reducible apply sound_raiseBlock | with_reducible apply sound_answerUpper | with_reducible apply sound_onTracker | split)

theorem sound_armedRead (i : Fin 16) (t : BusTxn) (h : Kept pq s) : Kept pq (armedRead i t s) := by
  unfold armedRead
  try dsimp only
  repeat' (first | assumption | with_reducible apply sound_answerUpper | with_reducible apply sound_passClaim | with_reducible apply sound_releaseBlock | with_reducible apply sound_onPath | split)

theorem sound_readArrives (t : BusTxn) (h : Kept pq s) : Kept pq (readArrives t s) := by
  unfold readArrives
  try dsimp only
  repeat' (first | assumption | with_reducible apply sound_passClaim | with_reducible apply sound_filledRead | with_reducible apply sound_armedRead | split)

theorem sound_txnArrives (t : BusTxn) (h : Kept pq s) : Kept pq (txnArrives t s) := by
  unfold txnArrives
  try dsimp only
  repeat' (first | assumption | with_reducible apply sound_answerUpper | with_reducible apply sound_passClaim | with_reducible apply sound_readArrives | split)

theorem sound_busTransaction (t : BusTxn) (h : Kept pq s) : Kept pq (busTransaction t s) := by
  unfold busTransaction
  try dsimp only
  repeat' (first | assumption | with_reducible apply sound_finishEvent | with_reducible apply sound_txnArrives | with_reducible apply sound_clearAnswers | split)

theorem sound_nextTransaction (n : Option BusTxn) (h : Kept pq s) : Kept pq (nextTransaction n s) := by
  unfold nextTransaction
  try dsimp only
  repeat' (first | assumption | with_reducible apply sound_txnArrives | split)

theorem sound_setupValue (w : Word) (h : Kept pq s) : Kept pq (setupValue w s) := by
  unfold setupValue
  try dsimp only
  repeat' (first | assumption | with_reducible apply sound_raiseFieldDefaulted | with_reducible apply sound_setupCommit | split)

theorem sound_commitWrite (w : BusWord) (h : Kept pq s) : Kept pq (commitWrite w s) := by
  unfold commitWrite
  try dsimp only
  repeat' (first | assumption | with_reducible apply sound_setupValue | with_reducible apply sound_onPath | split)

theorem sound_watchedWrite (x : Watched) (w : BusWord) (h : Kept pq s) : Kept pq (watchedWrite x w s) := by
  unfold watchedWrite
  try dsimp only
  repeat' (first | assumption | with_reducible apply sound_mergeDescriptor | with_reducible apply sound_descriptorWrite | with_reducible apply sound_mergeSlot | with_reducible apply sound_slotWrite | with_reducible apply sound_commitWrite | split)

theorem sound_wordsAct (ws : List BusWord) (addr : Nat) (h : Kept pq s) : Kept pq (wordsAct ws addr s) := by
  induction ws generalizing addr s with
  | nil => exact h
  | cons w ws ih =>
    unfold wordsAct
    split
    · exact ih _ (sound_react _ (sound_watchedWrite _ _ h))
    · exact ih _ h

theorem sound_writeFaulted (ws : List BusWord) (addr : Nat) (h : Kept pq s) : Kept pq (writeFaulted ws addr s) := by
  unfold writeFaulted
  try dsimp only
  repeat' (first | assumption | with_reducible apply sound_raise | split)

theorem sound_passReadAnswered (a : PassAnswer) (next : Option BusTxn) (h : Kept pq s) : Kept pq (passReadAnswered a next s) := by
  unfold passReadAnswered
  try dsimp only
  repeat' (first | assumption | with_reducible apply sound_answerUpper | with_reducible apply sound_freePort | with_reducible apply sound_clearAnswers | with_reducible apply sound_finishEvent | with_reducible apply sound_nextTransaction | split)

theorem sound_passWriteAnswered (done : Bool) (next : Option BusTxn) (h : Kept pq s) : Kept pq (passWriteAnswered done next s) := by
  unfold passWriteAnswered
  try dsimp only
  repeat' (first | assumption | with_reducible apply sound_answerUpper | with_reducible apply sound_freePort | with_reducible apply sound_clearAnswers | with_reducible apply sound_finishEvent | with_reducible apply sound_nextTransaction | with_reducible apply sound_writeFaulted | with_reducible apply sound_wordsAct | split)

theorem sound_ownAnswered (f : OwnAccess → Bool) (act : OwnAccess → Nat → State → State)
    (ha : ∀ a addr t, Kept pq t → Kept pq (act a addr t)) (h : Kept pq s) : Kept pq (ownAnswered f act s) := by
  unfold ownAnswered
  split
  · exact h
  · apply sound_finishEvent
    split
    · exact sound_freePort h
    · exact ha _ _ _ (sound_freePort h)

theorem sound_fetchAct (answer : OwnAnswer) (a : OwnAccess) (addr : Nat) (h : Kept pq s) : Kept pq (fetchAct answer a addr s) := by
  unfold fetchAct
  try dsimp only
  repeat' (first | assumption | with_reducible apply sound_fetchAnswered | split)

theorem sound_setupAct (answer : OwnAnswer) (setupFirst : Bool) (a : OwnAccess) (_addr : Nat) (h : Kept pq s) : Kept pq (setupAct answer setupFirst a _addr s) := by
  unfold setupAct
  try dsimp only
  repeat' (first | assumption | with_reducible apply sound_setupAnswered | split)

theorem sound_sweepAct (answer : OwnAnswer) (a : OwnAccess) (addr : Nat) (h : Kept pq s) : Kept pq (sweepAct answer a addr s) := by
  unfold sweepAct
  try dsimp only
  repeat' (first | assumption | with_reducible apply sound_sweepAnswered | split)

theorem sound_commitCommand (w : Word) (h : Kept pq s) : Kept pq (commitCommand w s) := by
  unfold commitCommand
  try dsimp only
  repeat' (first | assumption | with_reducible apply sound_finishEvent | with_reducible apply sound_commitWrite | split)

theorem sound_holdExpiry (h : Kept pq s) : Kept pq (holdExpiry s) := by
  unfold holdExpiry
  try dsimp only
  repeat' (first | assumption | with_reducible apply sound_retryHeld | split)

theorem sound_stopPhaseTimer (h : Kept pq s) : Kept pq (stopPhaseTimer s) := by
  unfold stopPhaseTimer
  try dsimp only
  repeat' (first | assumption | (intro _; exact ⟨rfl, rfl, rfl, rfl⟩) | (intro _; split <;> exact ⟨rfl, rfl, rfl, rfl⟩) | with_reducible apply sound_onSequencer | split)

theorem sound_vacuumExpiry (h : Kept pq s) : Kept pq (vacuumExpiry s) := by
  unfold vacuumExpiry
  try dsimp only
  repeat' (first | assumption | with_reducible apply sound_failLoad | with_reducible apply sound_finishEvent | with_reducible apply sound_stopPhaseTimer | split)

theorem sound_characterizationBegin (h : Kept pq s) : Kept pq (characterizationBegin s) := by
  unfold characterizationBegin
  try dsimp only
  repeat' (first | assumption | with_reducible apply sound_finishEvent | with_reducible apply sound_takePending | split)

theorem nodup_recordWriteDue {n : RecordName} {rest : List RecordName} (h : Kept pq s) (e : recordWriteDue s = some (n, rest)) :
    rest.Nodup := by
  unfold recordWriteDue at e
  split at e
  · split at e
    · next hd =>
      have k := h.dirty
      rw [hd] at k
      cases Option.some.inj e
      exact (List.nodup_cons.mp k).2
    · simp at e
  · simp at e

theorem sound_reportWriteBegin (h : Kept pq s) : Kept pq (reportWriteBegin s) := by
  unfold reportWriteBegin
  split
  · next e => exact sound_arbitrate (sound_beginRecordWrite _ _ (nodup_recordWriteDue h e) h)
  · exact h

end Sys2Proof.Machine
end

