-- ==== Sys2Proof/Laws/Ends.lean ====
section
/-! SUPPORT. What a transport change, an order's end and an emergency stop do, each said once. -/

namespace Sys2Proof.Machine

/-! ### The transport -/

theorem setDriveMode_mode (d : DriveMode) (s : State) : (setDriveMode d s).servos.driveMode = d := by
  unfold setDriveMode; split
  · next h => exact h.symm
  · dsimp only; split <;> simp [clearCaptures]

theorem setDriveMode_tape (d : DriveMode) (s : State) : (setDriveMode d s).servos.t = s.servos.t := by
  unfold setDriveMode; split
  · rfl
  · dsimp only; split <;> simp [clearCaptures]

theorem setDriveMode_pending (d : DriveMode) (s : State) :
    (setDriveMode d s).reporter.pendingClasses = s.reporter.pendingClasses := by
  unfold setDriveMode markStatus; split
  · rfl
  · dsimp only; split <;> simp [clearCaptures]

theorem setDriveMode_of_same {d : DriveMode} {s : State} (h : s.servos.driveMode = d) : setDriveMode d s = s := by
  unfold setDriveMode; rw [if_pos h.symm]

theorem setTransport_drive (t : Transport) (p : Option Phase) (s : State) :
    (setTransport t p s).servos.driveMode = driveModeOf t p := by
  unfold setTransport
  dsimp only
  split <;> simp [setDriveMode_mode]

theorem setTransport_brake {t : Transport} {p : Option Phase} {s : State} (h : Sound s) :
    (setTransport t p s).servos.brake = decide (driveModeOf t p = .off) := by
  have k := (sound_setTransport (pq := s.pending) t p { h with queue := rfl }).brake
  rw [setTransport_drive] at k; exact k

theorem setTransport_tape (t : Transport) (p : Option Phase) (s : State) : (setTransport t p s).servos.t = s.servos.t := by
  unfold setTransport
  dsimp only
  split <;> simp [setDriveMode_tape]

theorem setTransport_window {t : Transport} {p : Option Phase} {s : State} (h : t = .unthreaded ∨ t = .faulted) :
    (setTransport t p s).sensors.windowArmed = false := by
  unfold setTransport; dsimp only; rw [if_pos h]; unfold armWindow clearWindowCounts; simp

theorem setTransport_pending (t : Transport) (p : Option Phase) (s : State) :
    (setTransport t p s).reporter.pendingClasses = s.reporter.pendingClasses := by
  unfold setTransport
  dsimp only
  split <;> simp [setDriveMode_pending, armWindow, clearWindowCounts, followRefresh]

/-- Within one drive mode a transport change leaves the servos. -/
theorem setTransport_servos {t : Transport} {p : Option Phase} {s : State} (h : s.servos.driveMode = driveModeOf t p) :
    (setTransport t p s).servos = s.servos := by
  unfold setTransport
  dsimp only
  have e : ∀ x : State, x.servos = s.servos → (setDriveMode (driveModeOf t p) x).servos = s.servos := by
    intro x hx
    rw [setDriveMode_of_same (by rw [hx]; exact h), hx]
  split <;> simp [e]

/-! ### Motion dropped -/

theorem dropMotion_spec (s : State) : (dropMotion s).generator.v = 0 ∧ (dropMotion s).generator.mode = .hold ∧
    (dropMotion s).generator.dir = none ∧ (dropMotion s).servos.t = s.servos.t ∧
    (dropMotion s).reporter.pendingClasses = s.reporter.pendingClasses := by
  have hc : (clampInt 0 12800 0).toNat = 0 := by decide
  unfold dropMotion setGenDir
  refine ⟨?_, ?_, ?_, ?_, ?_⟩
  · split <;> simp [setV_generator, hc]
  · split <;> simp
  · split
    · next h => simp [← h]
    · simp
  · split <;> simp [dropChain, withdrawClaims]
  · split <;> simp [setV, dropChain, withdrawClaims]

/-! ### Results and ends -/

theorem finishResult_results (i j : Fin 8) (o : Outcome) (r : Reason) (n : Nat) (s : State) :
    (finishResult i o r n s).intake.results[j] =
      if i = j then { s.intake.results[i] with outcome := o, reason := r, blocks := n, finalT := s.tapePos } else s.intake.results[j] := by
  unfold finishResult; dsimp only; simp only [raise_keeps]; exact setResult_results i j _ s

/-- The end of the running order at the intake: its result, the running slot, the queue (R148, R151). -/
structure Ended (o : Outcome) (r : Reason) (s t : State) : Prop where
  running : t.intake.running = none
  queue : t.intake.queue = s.intake.queue
  result : ∀ i : Fin 8, s.intake.running = some i → (t.intake.results[i]).outcome = o ∧ (t.intake.results[i]).reason = r
  others : ∀ j : Fin 8, s.intake.running ≠ some j → t.intake.results[j] = s.intake.results[j]
  suspended : s.intake.running.isSome = true → o.suspends = true → t.intake.suspended = true
  active : o.suspends = false → t.intake.suspended = s.intake.suspended
  classes : ∀ c : Nat, s.reporter.pendingClasses.getLsbD c = true → t.reporter.pendingClasses.getLsbD c = true

theorem reportEnd_spec (o : Outcome) (r : Reason) (n : Nat) (s : State) : Ended o r s (reportEnd o r n s) := by
  unfold reportEnd
  cases h : s.intake.running with
  | none => exact ⟨h, rfl, fun i hi => by simp [h] at hi, fun _ _ => rfl, fun hs => by simp [h] at hs, fun _ => rfl, fun _ hc => hc⟩
  | some i =>
    dsimp only
    have fr := finishResult_results i i o r n s
    have hq : (finishResult i o r n s).intake.queue = s.intake.queue ∧
        (finishResult i o r n s).intake.suspended = s.intake.suspended := by
      unfold finishResult; simp
    refine ⟨?_, ?_, ?_, ?_, ?_, ?_, ?_⟩
    · split <;> simp
    · split <;> simp [hq.1]
    · intro j hj
      rw [h] at hj; cases hj
      split <;> simp [fr]
    · intro j hj
      rw [h] at hj
      have := finishResult_results i j o r n s
      rw [if_neg (fun e => hj (by rw [e]))] at this
      split <;> simp [this]
    · intro _ ho; simp [ho]
    · intro ho; simp [ho, hq.2]
    · intro c hc; split <;> simp [setSuspended, setRunning, finishResult, setResult, hc]

theorem rollBackAll_pending (l : List (Fin 16)) (s : State) :
    (rollBackAll l s).reporter.pendingClasses = s.reporter.pendingClasses := by
  unfold rollBackAll
  simp only [retryHeld_keeps]
  exact foldl_keeps (fun a => a.reporter.pendingClasses) _ (fun a i => setRecord_reporter _ _ _) l s

theorem giveBack_pending (s : State) : (giveBack s).reporter.pendingClasses = s.reporter.pendingClasses := by
  unfold giveBack freeRecord; dsimp only; split
  · exact setRecord_reporter _ _ _
  · rfl

theorem settleRecords_pending (o : Outcome) (k : Bool) (s : State) :
    (settleRecords o k s).reporter.pendingClasses = s.reporter.pendingClasses := by
  have hr : (rollBackOrder s).reporter.pendingClasses = s.reporter.pendingClasses := by
    unfold rollBackOrder; split
    · simp
    · simp [rollBackAll_pending]
  unfold settleRecords
  dsimp only
  repeat' split
  all_goals simp [hr, giveBack_pending]

theorem retryHeld_sweep (s : State) : (retryHeld s).path.sweep = s.path.sweep := by
  unfold retryHeld answerUpper; split <;> rfl

theorem setRecord_path (i : Fin 16) (r : BlockRecord) (s : State) : (setRecord i r s).path = s.path := by
  simp

theorem rollBackOrder_sweep (s : State) : (rollBackOrder s).path.sweep = s.path.sweep := by
  have h : ∀ l a, (rollBackAll l a).path.sweep = a.path.sweep := by
    intro l a
    unfold rollBackAll
    rw [retryHeld_sweep]
    exact foldl_keeps (fun a => a.path.sweep) _ (fun a i => by rw [setRecord_path]) l a
  unfold rollBackOrder; split
  · exact retryHeld_sweep s
  · simp [h]

theorem settleRecords_sweep (o : Outcome) (k : Bool) (s : State) : (settleRecords o k s).path.sweep = s.path.sweep := by
  unfold settleRecords
  dsimp only
  repeat' split
  all_goals simp [rollBackOrder_sweep]

/-- The end of an order: the intake's part, no context, the transport as it was (R35). -/
structure OrderEnded (o : Outcome) (r : Reason) (s t : State) : Prop extends Ended o r s t where
  context : t.tracker.context = none
  transport : t.sequencer.transport = s.sequencer.transport
  phase : t.sequencer.phase = s.sequencer.phase
  trusted : t.sequencer.trusted = s.sequencer.trusted
  clear : clearOrderState t.sequencer = t.sequencer
  sweep : t.path.sweep = s.path.sweep

theorem clearOrderState_idem (q : Sequencer) : clearOrderState (clearOrderState q) = clearOrderState q := rfl

theorem endOrder_spec (o : Outcome) (r : Reason) (k : Bool) (s : State) : OrderEnded o r s (endOrder o r k s) := by
  let x := ((settleRecords o k s).onSequencer clearOrderState).onTracker fun z => { z with context := none }
  have e : endOrder o r k s = reportEnd o r (settleRecords o k s).blocksCounted x := rfl
  have hx : x.intake = s.intake := by simp [x]
  have hp : x.reporter.pendingClasses = s.reporter.pendingClasses := settleRecords_pending o k s
  obtain ⟨a1, a2, a3, a4, a5, a6, a7⟩ := reportEnd_spec o r (settleRecords o k s).blocksCounted x
  have hq : (reportEnd o r (settleRecords o k s).blocksCounted x).sequencer = clearOrderState (settleRecords o k s).sequencer := by
    simp [x]
  have ht : (settleRecords o k s).sequencer.transport = s.sequencer.transport ∧
      (settleRecords o k s).sequencer.phase = s.sequencer.phase ∧ (settleRecords o k s).sequencer.trusted = s.sequencer.trusted := by
    unfold settleRecords; dsimp only; repeat' split
    all_goals simp [setAnchor]
  rw [hx] at a2 a3 a4 a5 a6
  rw [hp] at a7
  rw [e]
  refine ⟨⟨a1, a2, a3, a4, a5, a6, a7⟩, ?_, ?_, ?_, ?_, ?_, ?_⟩
  · simp [x]
  · rw [hq]; exact ht.1
  · rw [hq]; exact ht.2.1
  · rw [hq]; exact ht.2.2
  · rw [hq]; rfl
  · have : (reportEnd o r (settleRecords o k s).blocksCounted x).path = x.path := by simp
    rw [this]
    exact settleRecords_sweep o k s

/-- An order cut short (R52, R54): as its end, when one runs. -/
theorem cutOrder_spec (o : Outcome) (r : Reason) (k : Bool) (s : State) : Ended o r s (cutOrder o r k s) ∧
    (cutOrder o r k s).sequencer.transport = s.sequencer.transport ∧ (cutOrder o r k s).sequencer.phase = s.sequencer.phase ∧
    (cutOrder o r k s).sequencer.trusted = s.sequencer.trusted ∧ (cutOrder o r k s).path.sweep = s.path.sweep ∧
    (cutOrder o r k s).sequencer.writeMode = false ∧ (cutOrder o r k s).sequencer.noShow = 0 := by
  have h := endOrder_spec o r k s
  unfold cutOrder
  cases hr : s.intake.running with
  | none =>
    refine ⟨⟨hr, rfl, fun i hi => by simp [hr] at hi, fun _ _ => rfl, fun hs => by simp [hr] at hs, fun _ => rfl, fun _ hc => hc⟩,
      rfl, rfl, rfl, rfl, rfl, rfl⟩
  | some i =>
    exact ⟨⟨h.running, h.queue, h.result, h.others, h.suspended, h.active, h.classes⟩, h.transport, h.phase, h.trusted,
      h.sweep, rfl, rfl⟩

/-- What an order cut short leaves of the deck. -/
@[simp] theorem cutOrder_deck (o : Outcome) (r : Reason) (k : Bool) (s : State) :
    (cutOrder o r k s).generator = s.generator ∧ (cutOrder o r k s).servos = s.servos ∧ (cutOrder o r k s).sensors = s.sensors ∧
    (cutOrder o r k s).signals = s.signals := by
  unfold cutOrder
  split <;> simp

/-! ### A settlement that waited -/

/-- What a settlement that begins changes: the generator's set and characterization, its claim, the reports, the LOAD's
stage; all else stays (R67). -/
structure Settles (s u : State) : Prop where
  tracker : u.tracker = s.tracker
  servos : u.servos = s.servos
  links : u.links = s.links
  sensors : u.sensors = s.sensors
  intake : u.intake = s.intake
  loader : u.loader = s.loader
  signals : u.signals = s.signals
  pending : u.pending = s.pending
  sequencer : ∃ l, u.sequencer = { s.sequencer with loadStage := l }
  generator : ∃ a c, u.generator = { s.generator with active := a, charact := c, loadSet := none }
  path : ∃ cs, u.path = { s.path with claims := cs }
  classes : ∀ c : Nat, s.reporter.pendingClasses.getLsbD c = true → u.reporter.pendingClasses.getLsbD c = true

theorem settleLoad_sequencer (s : State) : ∃ l, (settleLoad s).sequencer = { s.sequencer with loadStage := l } := by
  unfold settleLoad
  split
  · exact ⟨s.sequencer.loadStage, rfl⟩
  · exact ⟨_, rfl⟩

theorem setActive_generator (a : ActiveSet) (s : State) : (setActive a s).generator = { s.generator with active := a } := by
  unfold setActive; simp

theorem beginCharact_settles {s : State} (source : Nat) (h : s.generator.loadSet = none) : Settles s (beginCharact source none s) := by
  unfold beginCharact
  dsimp only
  split
  · exact ⟨rfl, rfl, rfl, rfl, rfl, rfl, rfl, rfl, ⟨s.sequencer.loadStage, rfl⟩, ⟨s.generator.active, _, by rw [← h]; rfl⟩,
      ⟨_, rfl⟩, fun _ k => k⟩
  · unfold rejectSet
    dsimp only [newCharact]
    generalize hx : raise _ _ = x
    have k : x.generator = { s.generator with charact := none } ∧ x.sequencer = s.sequencer ∧ x.path = s.path := by
      rw [← hx]; simp
    obtain ⟨l, hl⟩ := settleLoad_sequencer (setActive (builtInSet s.groupB) x)
    refine ⟨?_, ?_, ?_, ?_, ?_, ?_, ?_, ?_, ⟨l, ?_⟩, ⟨builtInSet s.groupB, none, ?_⟩, ⟨s.path.claims, ?_⟩, fun c e => ?_⟩
    · rw [← hx]; simp
    · rw [← hx]; simp
    · rw [← hx]; simp
    · rw [← hx]; simp
    · rw [← hx]; simp
    · rw [← hx]; simp
    · rw [← hx]; simp
    · rw [← hx]; simp
    · rw [hl]; simp [k.2.1]
    · rw [(settleLoad_keeps _).2.1, setActive_generator, k.1, ← h]
    · simp [k.2.2]
    · rw [← hx]; simp [setActive, e]

theorem settleNow_settles {s : State} (source : Nat) (h : s.generator.loadSet = none) : Settles s (settleNow source s) := by
  unfold settleNow
  dsimp only
  generalize hx : (if s.generator.active.source.isNone = true then
    s.onGenerator fun g => { g with active := builtInSet s.groupB } else s) = x
  have k : ∃ a, x = s.onGenerator fun g => { g with active := a } := by
    rw [← hx]; split
    · exact ⟨_, rfl⟩
    · exact ⟨s.generator.active, rfl⟩
  obtain ⟨a, rfl⟩ := k
  split
  · obtain ⟨l, hl⟩ := settleLoad_sequencer (setActive (builtInSet s.groupB) (s.onGenerator fun g => { g with active := a }))
    refine ⟨by simp, by simp, by simp, by simp, by simp, by simp, by simp, by simp, ⟨l, by rw [hl]; simp⟩,
      ⟨builtInSet s.groupB, s.generator.charact, ?_⟩, ⟨s.path.claims, by simp⟩, fun c e => by simp [setActive, e]⟩
    rw [(settleLoad_keeps _).2.1, setActive_generator, ← h]; rfl
  · have b := beginCharact_settles (s := s.onGenerator fun g => { g with active := a }) source h
    obtain ⟨a2, c2, hg⟩ := b.generator
    exact ⟨b.tracker, b.servos, b.links, b.sensors, b.intake, b.loader, b.signals, b.pending, b.sequencer, ⟨a2, c2, hg⟩, b.path, b.classes⟩

theorem settlementDue_settles {s u : State} (e : settlementDue s = some u) : Settles s u := by
  unfold settlementDue at e
  split at e
  · split at e
    · cases Option.some.inj e
      next p _ _ =>
      have b := settleNow_settles (s := s.onGenerator fun g => { g with loadSet := none }) p rfl
      obtain ⟨a2, c2, hg⟩ := b.generator
      exact ⟨b.tracker, b.servos, b.links, b.sensors, b.intake, b.loader, b.signals, b.pending, b.sequencer, ⟨a2, c2, hg⟩, b.path,
        b.classes⟩
    · simp at e
  · simp at e

/-- Out of VACUUM, with no start request to take, a settlement brings nothing else about. -/
theorem settlementEvent_settles {s u : State} (e : settlementEvent s = some u) (w : s.generator.waiting = none)
    (v : s.sequencer.transport ≠ .loading) : Settles s u ∧ settlementDue u = none := by
  unfold settlementEvent at e
  obtain ⟨x, hx, rfl⟩ := Option.map_eq_some_iff.mp e
  have k := settlementDue_settles hx
  obtain ⟨a, c, hg⟩ := k.generator
  obtain ⟨l, hq⟩ := k.sequencer
  have h1 : takeWaiting x = x := by
    unfold takeWaiting
    have : x.generator.waiting = none := by rw [hg]; exact w
    rw [this]
  have h2 : vacuumCheck x = x := by
    unfold vacuumCheck
    rw [if_neg]
    intro h
    have : x.sequencer.transport = s.sequencer.transport := by rw [hq]
    exact v (this ▸ h.1)
  rw [h1, h2]
  exact ⟨k, settlementDue_of_none (by rw [hg])⟩

/-! ### The emergency stop -/

/-- Nothing more comes about in the event but, it may be, a LOAD's settlement that waited for the motion (R67). -/
structure AtRest (s : State) : Prop where
  waiting : s.generator.waiting = none
  signals : s.signals = []
  position : positionEvent s = none
  handOver : handOverDue s = none

/-- An emergency request taken in a state that is neither UNTHREADED nor FAULTED (R91). -/
theorem emergencyStop_spec {a : State} (hs : Sound a) (h1 : a.sequencer.transport ≠ .unthreaded)
    (h2 : a.sequencer.transport ≠ .faulted) (hh : handOverDue a = none) (hp : a.reporter.pendingClasses.getLsbD 0 = true) :
    EmergencyMade a (emergencyStop a) ∧ AtRest (emergencyStop a) := by
  unfold emergencyStop
  rw [if_neg (by simp [h1, h2])]
  dsimp only
  let d := (dropMotion a).setSignals []
  have hd : Sound d := (sound_setSignals (pq := a.pending) [] (sound_dropMotion (pq := a.pending) { hs with queue := rfl })).toSound
  let x := ((clearCaptures (setTransport .faulted none d)).onSensors fun n => { n with lossWatch := a.supervised }).onServos
    fun v => { v with tracking := 0 }
  obtain ⟨g1, g2, g3, g4, g5⟩ := dropMotion_spec a
  obtain ⟨c, c1, c2, c3, c4, _, _⟩ := cutOrder_spec .failed .emergency true x
  have xi : x.intake = a.intake := by simp [x, d]
  have xt : x.sequencer.transport = .faulted := by simp [x, setTransport_transport]
  have xph : x.sequencer.phase = none := by simp [x, setTransport_sequencer, sequencerIn]
  have xtr : x.sequencer.trusted = false := by simp [x, setTransport_sequencer, sequencerIn]
  have xs : x.signals = [] := by simp [x, d]
  have dp : d.path.sweep = a.path.sweep := by
    simp [d]
    unfold dropMotion dropChain withdrawClaims; simp
  have xp : x.path.sweep = a.path.sweep := by simp [x, dp]
  have xc : x.reporter.pendingClasses = a.reporter.pendingClasses := by
    simp [x]; rw [setTransport_pending]; simp [d, g5]
  refine ⟨⟨⟨c.running, fun i hi => c.result i (by rw [xi]; exact hi), fun hi => c.suspended (by rw [xi]; exact hi) rfl⟩,
    ?_, ?_, ?_, ?_, ?_, ?_, ?_, ?_, ?_, ?_, ?_, ?_, ?_⟩, ?_⟩
  · exact c1.trans xt
  · exact c3.trans xtr
  · show (cutOrder .failed .emergency true x).servos.driveMode = _
    simp only [cutOrder_deck]; simp [x, setTransport_drive, clearCaptures, driveModeOf]
  · show (cutOrder .failed .emergency true x).servos.brake = _
    simp only [cutOrder_deck]
    have := setTransport_brake (t := .faulted) (p := none) hd
    simp [x, clearCaptures, this, driveModeOf]
  · show (cutOrder .failed .emergency true x).generator.v = _
    simp only [cutOrder_deck]; simp [x, d, g1]
  · show (cutOrder .failed .emergency true x).generator.mode = _
    simp only [cutOrder_deck]; simp [x, d, g2]
  · show (cutOrder .failed .emergency true x).generator.dir = _
    simp only [cutOrder_deck]; simp [x, d, g3]
  · show (cutOrder .failed .emergency true x).sensors.windowArmed = _
    simp only [cutOrder_deck]; simp [x, setTransport_window]
  · show (cutOrder .failed .emergency true x).servos.t = _
    simp only [cutOrder_deck]; simp [x, clearCaptures, setTransport_tape, d, g4]
  · exact c.classes 0 (by rw [xc]; exact hp)
  · exact c.queue.trans (by rw [xi])
  · show (cutOrder .failed .emergency true x).links = _
    simp only [cutOrder_keeps]; simp [x, d]
  · show (cutOrder .failed .emergency true x).loader = _
    simp only [cutOrder_keeps]; simp [x, d]
  · refine ⟨?_, ?_, positionEvent_of_still (.inr (.inr (.inl (c1.trans xt)))) (by rw [c2, xph]; simp), ?_⟩
    · show (cutOrder .failed .emergency true x).generator.waiting = none
      simp only [cutOrder_deck]; simp [x, d, dropMotion]
    · show (cutOrder .failed .emergency true x).signals = []
      simp only [cutOrder_deck]; exact xs
    · revert hh
      show handOverDue a = none → handOverDue (cutOrder .failed .emergency true x) = none
      unfold handOverDue
      rw [c.running, c.queue, xi, c4, xp]
      cases hr : a.intake.running with
      | none =>
        have hsu : (cutOrder .failed .emergency true x).intake.suspended = a.intake.suspended := by
          unfold cutOrder; rw [xi, hr]; simp [xi]
        simp [hsu]
      | some i =>
        have hsu := c.suspended (by rw [xi, hr]; rfl) rfl
        simp [hsu]

/-- After an emergency stop no phase is left. -/
theorem emergencyStop_phase {a : State} (h1 : a.sequencer.transport ≠ .unthreaded) (h2 : a.sequencer.transport ≠ .faulted) :
    (emergencyStop a).sequencer.phase ≠ some .leader := by
  unfold emergencyStop
  rw [if_neg (by simp [h1, h2])]
  dsimp only
  rw [(cutOrder_spec _ _ _ _).2.2.1]
  simp [setTransport_sequencer, sequencerIn]

/-- The end of an emergency stop's event. A LOAD's settlement that waited for the motion begins; the stop stands. -/
theorem emergencyEnd_spec {a : State} (hs : Sound a) (h1 : a.sequencer.transport ≠ .unthreaded)
    (h2 : a.sequencer.transport ≠ .faulted) (hh : handOverDue a = none) (hp : a.reporter.pendingClasses.getLsbD 0 = true) :
    EmergencyMade a (finishEvent (emergencyStop a)) := by
  obtain ⟨m, w, sg, pe, ho⟩ := emergencyStop_spec hs h1 h2 hh hp
  cases hd : settlementDue (emergencyStop a) with
  | none =>
    rw [finishEvent_of_quiet (quiet_iff.mpr ⟨sg, pe, hd, ho⟩), arbitrate_eq]
    exact ⟨⟨m.running, m.result, m.suspended⟩, m.transport, m.trusted, m.drive, m.brake, m.v, m.mode, m.dir, m.window, m.tape,
      m.notice, m.queue, m.links, m.loader⟩
  | some y =>
    cases he : settlementEvent (emergencyStop a) with
    | none => rw [settlementEvent_none_iff.mp he] at hd; simp at hd
    | some u =>
      obtain ⟨k, hn⟩ := settlementEvent_settles he w (by rw [m.transport]; simp)
      obtain ⟨x, c, hg⟩ := k.generator
      obtain ⟨l, hq⟩ := k.sequencer
      obtain ⟨cs, hc⟩ := k.path
      have once : reactOnce (emergencyStop a) = some u := by
        unfold reactOnce; rw [sg]; dsimp only; rw [pe, he]; rfl
      have qu : Quiet u := by
        refine quiet_iff.mpr ⟨k.signals.trans sg, positionEvent_of_still (.inr (.inr (.inl (by rw [hq]; exact m.transport)))) ?_, hn, ?_⟩
        · rw [hq]; exact emergencyStop_phase h1 h2
        · revert ho; unfold handOverDue; rw [k.intake, hc]; exact id
      rw [finishEvent_of_once once qu, arbitrate_eq]
      exact ⟨⟨by simp [k.intake, m.running], fun i hi => by simp only [onPath_intake, k.intake]; exact m.result i hi,
          fun hi => by simp only [onPath_intake, k.intake]; exact m.suspended hi⟩,
        by simp only [onPath_sequencer, hq]; exact m.transport, by simp only [onPath_sequencer, hq]; exact m.trusted,
        by simp only [onPath_servos, k.servos]; exact m.drive, by simp only [onPath_servos, k.servos]; exact m.brake,
        by simp only [onPath_generator, hg]; exact m.v, by simp only [onPath_generator, hg]; exact m.mode,
        by simp only [onPath_generator, hg]; exact m.dir, by simp only [onPath_sensors, k.sensors]; exact m.window,
        by simp only [onPath_servos, k.servos]; exact m.tape, by simp only [onPath_reporter]; exact k.classes 0 m.notice,
        by simp only [onPath_intake, k.intake]; exact m.queue, by simp only [onPath_links, k.links]; exact m.links,
        by simp only [onPath_loader, k.loader]; exact m.loader⟩

end Sys2Proof.Machine
end

