-- ==== Sys2Proof/Laws/Commits.lean ====
section
/-! SUPPORT. What the action of a watched word does to the shadows, and what a commit comes to. -/

namespace Sys2Proof.Machine

/-! ### Words -/

theorem mergeWord_fullWord (old w : Word) : mergeWord old (fullWord w) = w := by
  unfold mergeWord fullWord
  have h : ((BitVec.ofNat 32 (255 * 2 ^ (8 * 0)) ||| BitVec.ofNat 32 (255 * 2 ^ (8 * 1)) ||| BitVec.ofNat 32 (255 * 2 ^ (8 * 2)) |||
      BitVec.ofNat 32 (255 * 2 ^ (8 * 3))) : Word) = BitVec.allOnes 32 := by decide
  have e : ∀ b < 4, (15#4).getLsbD b = true := by decide
  simp only [e 0 (by decide), e 1 (by decide), e 2 (by decide), e 3 (by decide), if_true, h]
  rw [BitVec.not_allOnes, BitVec.and_zero, BitVec.or_zero, BitVec.and_allOnes]

theorem commitWordOf_toNat (code q : Byte) : (commitWordOf code q).toNat = q.toNat * 256 + code.toNat := by
  unfold commitWordOf
  rw [BitVec.toNat_append, ← Nat.shiftLeft_add_eq_or_of_lt code.isLt, BitVec.toNat_append,
    ← Nat.shiftLeft_add_eq_or_of_lt q.isLt, Nat.shiftLeft_eq]
  simp

theorem commitCode_of (code q : Byte) : commitCode (commitWordOf code q) = code.toNat := by
  unfold commitCode
  rw [BitVec.extractLsb'_toNat, commitWordOf_toNat, Nat.shiftRight_zero]
  have := code.isLt
  omega

theorem commitSeq_of (code q : Byte) : commitSeq (commitWordOf code q) = q.toNat := by
  unfold commitSeq
  rw [BitVec.extractLsb'_toNat, commitWordOf_toNat, Nat.shiftRight_eq_div_pow]
  have := code.isLt
  have := q.isLt
  omega

theorem orderOfCode_code (o : OrderCode) : orderOfCode o.code.toNat = some o := by
  cases o <;> rfl

theorem orderOfCode_undefined {code : Nat} (h : definedOrderCode code = false) : orderOfCode code = none := by
  unfold definedOrderCode at h
  simp only [Bool.or_eq_false_iff, Bool.and_eq_false_iff, decide_eq_false_iff_not, Nat.not_le] at h
  unfold orderOfCode
  split <;> first | rfl | (exfalso; omega)

/-! ### Shadows -/

theorem mergeSlot_word (i j : Fin 8) (k k' : Fin 4) (w : BusWord) (s : State) :
    (mergeSlot (⟨4 * i.val + k.val, by omega⟩ : Fin 32) w s).slotWord j k' =
      if i = j ∧ k = k' then mergeWord (s.slotWord i k) w else s.slotWord j k' := by
  unfold mergeSlot State.slotWord State.onPath
  dsimp only
  rw [Fin.getElem_fin, Vector.getElem_set]
  by_cases h : i = j ∧ k = k'
  · obtain ⟨rfl, rfl⟩ := h
    simp
  · rw [if_neg h, if_neg]
    · rfl
    · intro e
      dsimp only at e
      apply h
      constructor <;> ext <;> omega

theorem mergeDescriptor_word (i j : Fin 16) (k k' : Fin 4) (w : BusWord) (s : State) :
    (mergeDescriptor (⟨4 * i.val + k.val, by omega⟩ : Fin 64) w s).descriptorWord j k' =
      if i = j ∧ k = k' then mergeWord (s.descriptorWord i k) w else s.descriptorWord j k' := by
  unfold mergeDescriptor State.descriptorWord State.onPath
  dsimp only
  rw [Fin.getElem_fin, Vector.getElem_set]
  by_cases h : i = j ∧ k = k'
  · obtain ⟨rfl, rfl⟩ := h
    simp
  · rw [if_neg h, if_neg]
    · rfl
    · intro e
      dsimp only at e
      apply h
      constructor <;> ext <;> omega

/-- A merge in the slot shadow changes the shadow alone. -/
theorem mergeSlot_eq (k : Fin 32) (w : BusWord) (s : State) :
    mergeSlot k w s = { s with path := { s.path with slots := s.path.slots.set k (mergeWord s.path.slots[k] w) } } := rfl

/-- A merge in the descriptor shadow changes the shadow alone. -/
theorem mergeDescriptor_eq (k : Fin 64) (w : BusWord) (s : State) :
    mergeDescriptor k w s =
      { s with path := { s.path with descriptors := s.path.descriptors.set k (mergeWord s.path.descriptors[k] w) } } := rfl

/-! ### Commits -/

/-- The state in which a commit of a code is judged: the slot's word 3 merged. -/
def committed (i : Fin 8) (code q : Byte) (s : State) : State :=
  mergeSlot (⟨4 * i.val + 3, by omega⟩ : Fin 32) (fullWord (commitWordOf code q)) s

theorem committed_word3 (i : Fin 8) (code q : Byte) (s : State) : (committed i code q s).slotWord i 3 = commitWordOf code q := by
  have := mergeSlot_word i i 3 3 (fullWord (commitWordOf code q)) s
  rw [if_pos ⟨rfl, rfl⟩, mergeWord_fullWord] at this
  exact this

theorem committed_word (i : Fin 8) (code q : Byte) (s : State) (k : Fin 4) (h : k ≠ 3) :
    (committed i code q s).slotWord i k = s.slotWord i k := by
  have := mergeSlot_word i i 3 k (fullWord (commitWordOf code q)) s
  rw [if_neg (fun e => h e.2.symm)] at this
  exact this

theorem slotWrite_eq (i : Fin 8) (code q : Byte) (s : State) :
    slotWrite i (fullWord (commitWordOf code q)) s = judgeCommit i (committed i code q s) := rfl

/-- The order that a commit in a slot takes (R144). -/
def takenOrder (o : OrderCode) (i : Fin 8) (q : Byte) (s : State) : TakenOrder :=
  let u := argumentOf o (s.slotWord i 0) (s.slotWord i 1) s.loader.groupA.storeSize
  { code := o.code.toNat, arg := u.used, clamped := u.clamped, tag := s.slotWord i 2, seq := q.toNat }

/-- A commit of an order in a slot that is not busy, with an argument that is taken (R144, R145). -/
theorem judgeCommit_accepts (o : OrderCode) (i : Fin 8) (q : Byte) (s : State) (free : (s.intake.results[i]).outcome.busy = false)
    (arg : (argumentOf o (s.slotWord i 0) (s.slotWord i 1) s.loader.groupA.storeSize).accepted = true) :
    judgeCommit i (committed i o.code q s) =
      let c := committed i o.code q s
      let p := if o.acceptedOutcome = .done then (s.servos.t, c) else takeFree c
      orderEffect o i (takenOrder o i q s).arg (recordCommit i (takenOrder o i q s) o.acceptedOutcome .none p.1 p.2) := by
  unfold judgeCommit
  have e1 : (committed i o.code q s).intake = s.intake := rfl
  have e2 : (committed i o.code q s).loader = s.loader := rfl
  have e3 : (committed i o.code q s).tapePos = s.servos.t := rfl
  simp only [e1, free, committed_word3, commitCode_of, orderOfCode_code, committed_word i o.code q s 0 (by decide),
    committed_word i o.code q s 1 (by decide), e2, arg, if_true]
  unfold acceptCommit takenFrom
  simp only [committed_word3, commitCode_of, commitSeq_of, committed_word i o.code q s 2 (by decide), e3]
  split <;> first | rfl | simp_all

/-- A commit in a busy slot (R145). -/
theorem judgeCommit_busy (i : Fin 8) (code q : Byte) (s : State) (busy : (s.intake.results[i]).outcome.busy = true) :
    judgeCommit i (committed i code q s) =
      raise { name := .slotBusy, slot := some i, d0 := packPair code.toNat q.toNat } (committed i code q s) := by
  unfold judgeCommit
  have e1 : (committed i code q s).intake = s.intake := rfl
  simp only [e1, busy, committed_word3, commitCode_of, commitSeq_of, if_true]

/-- A commit of a code that no order has (R145). -/
theorem judgeCommit_unknown (i : Fin 8) (code q : Byte) (s : State) (free : (s.intake.results[i]).outcome.busy = false)
    (h : definedOrderCode code.toNat = false) :
    judgeCommit i (committed i code q s) = refuseCommit i 0 .unknownOrder (committed i code q s) := by
  unfold judgeCommit
  have e1 : (committed i code q s).intake = s.intake := rfl
  simp only [e1, free, committed_word3, commitCode_of, orderOfCode_undefined h]
  simp

end Sys2Proof.Machine
end

