-- ==== Sys2Proof/Laws/PerInstr.lean ====
section
/-! SUPPORT. One lemma per command: the commands whose operands have a range that their types do not give are the seven of
`openOperands`, and every other command is well-formed. -/

namespace Sys2Proof.Laws.OpenOperands

/-- A command with an operand that `wellFormed` limits. -/
def openOperands : Instr → Bool
  | .deckBusRead _ _ | .deckBusWrite _ _ | .passThroughReadAnswer _ _ | .passThroughWriteAnswer _ _ | .invalidStateCode _ _
  | .unknownOrder _ _ _ | .setupCommitIgnored _ => true
  | _ => false

def Statement (i : Instr) : Prop := openOperands i = false → i.wellFormed = true

theorem coldReset : Statement .coldReset := fun _ => rfl
theorem servoSample (takeupFirst : Bool) : Statement (.servoSample takeupFirst) := fun _ => rfl
theorem encoderCount (dir : Direction) : Statement (.encoderCount dir) := fun _ => rfl
theorem indexPulse (reel : Reel) : Statement (.indexPulse reel) := fun _ => rfl
theorem switchRawChange (sw : Switch) (level : Bool) : Statement (.switchRawChange sw level) := fun _ => rfl
theorem stabilityTimerExpiry (sw : Switch) : Statement (.stabilityTimerExpiry sw) := fun _ => rfl
theorem markerSensorActive (m : Marker) : Statement (.markerSensorActive m) := fun _ => rfl
theorem markerSensorInactive (m : Marker) : Statement (.markerSensorInactive m) := fun _ => rfl
theorem markerQualifies (m : Marker) (dir : Direction) : Statement (.markerQualifies m dir) := fun _ => rfl
theorem trackingFault : Statement .trackingFault := fun _ => rfl
theorem columnFault (column : Reel) : Statement (.columnFault column) := fun _ => rfl
theorem settleCountComplete : Statement .settleCountComplete := fun _ => rfl
theorem seekLimitExceeded (dir : Direction) : Statement (.seekLimitExceeded dir) := fun _ => rfl
theorem segmentDurationExpiry : Statement .segmentDurationExpiry := fun _ => rfl
theorem lateCountLimit : Statement .lateCountLimit := fun _ => rfl
theorem checkTimerExpiry (index : Fin 16) : Statement (.checkTimerExpiry index) := fun _ => rfl
theorem holdTimerExpiry : Statement .holdTimerExpiry := fun _ => rfl
theorem vacuumTimeout : Statement .vacuumTimeout := fun _ => rfl
theorem loopTimeout : Statement .loopTimeout := fun _ => rfl
theorem unloadTimeout : Statement .unloadTimeout := fun _ => rfl
theorem refreshTimerExpiry : Statement .refreshTimerExpiry := fun _ => rfl
theorem deckBusRead (addr : BusAddr) (count : Nat) : Statement (.deckBusRead addr count) := fun h => nomatch h
theorem deckBusWrite (addr : BusAddr) (words : List BusWord) : Statement (.deckBusWrite addr words) := fun h => nomatch h
theorem passThroughReadAnswer (answer : PassAnswer) (next : Option BusTxn) : Statement (.passThroughReadAnswer answer next) := fun h => nomatch h
theorem passThroughWriteAnswer (done : Bool) (next : Option BusTxn) : Statement (.passThroughWriteAnswer done next) := fun h => nomatch h
theorem segmentFetchAnswer (answer : OwnAnswer) : Statement (.segmentFetchAnswer answer) := fun _ => rfl
theorem characterizationReadAnswer (answer : OwnAnswer) : Statement (.characterizationReadAnswer answer) := fun _ => rfl
theorem setupReadAnswer (answer : OwnAnswer) (setupFirst : Bool) : Statement (.setupReadAnswer answer setupFirst) := fun _ => rfl
theorem sweepReadAnswer (answer : OwnAnswer) : Statement (.sweepReadAnswer answer) := fun _ => rfl
theorem reportWriteAnswer (done : Bool) : Statement (.reportWriteAnswer done) := fun _ => rfl
theorem characterizationBegin : Statement .characterizationBegin := fun _ => rfl
theorem reportWriteBegin : Statement .reportWriteBegin := fun _ => rfl
theorem filled (index : Fin 16) : Statement (.filled index) := fun _ => rfl
theorem empty (index : Fin 16) : Statement (.empty index) := fun _ => rfl
theorem recordedOk (index : Fin 16) : Statement (.recordedOk index) := fun _ => rfl
theorem checkFailed (index : Fin 16) : Statement (.checkFailed index) := fun _ => rfl
theorem received (index : Fin 16) : Statement (.received index) := fun _ => rfl
theorem receivedMark (index : Fin 16) : Statement (.receivedMark index) := fun _ => rfl
theorem receivedError (index : Fin 16) : Statement (.receivedError index) := fun _ => rfl
theorem invalidStateCode (index : Fin 16) (code : Word) : Statement (.invalidStateCode index code) := fun h => nomatch h
theorem load (slot : Fin 8) (seq : Byte) : Statement (.load slot seq) := fun _ => rfl
theorem unload (slot : Fin 8) (seq : Byte) : Statement (.unload slot seq) := fun _ => rfl
theorem rewind (slot : Fin 8) (seq : Byte) : Statement (.rewind slot seq) := fun _ => rfl
theorem write (slot : Fin 8) (seq : Byte) : Statement (.write slot seq) := fun _ => rfl
theorem readFwd (slot : Fin 8) (seq : Byte) : Statement (.readFwd slot seq) := fun _ => rfl
theorem readBwd (slot : Fin 8) (seq : Byte) : Statement (.readBwd slot seq) := fun _ => rfl
theorem spaceFwd (slot : Fin 8) (seq : Byte) : Statement (.spaceFwd slot seq) := fun _ => rfl
theorem spaceBwd (slot : Fin 8) (seq : Byte) : Statement (.spaceBwd slot seq) := fun _ => rfl
theorem erase (slot : Fin 8) (seq : Byte) : Statement (.erase slot seq) := fun _ => rfl
theorem halt (slot : Fin 8) (seq : Byte) : Statement (.halt slot seq) := fun _ => rfl
theorem flush (slot : Fin 8) (seq : Byte) : Statement (.flush slot seq) := fun _ => rfl
theorem resume (slot : Fin 8) (seq : Byte) : Statement (.resume slot seq) := fun _ => rfl
theorem ack (slot : Fin 8) (seq : Byte) : Statement (.ack slot seq) := fun _ => rfl
theorem ceiling (slot : Fin 8) (seq : Byte) : Statement (.ceiling slot seq) := fun _ => rfl
theorem profileSelect (slot : Fin 8) (seq : Byte) : Statement (.profileSelect slot seq) := fun _ => rfl
theorem softReset (slot : Fin 8) (seq : Byte) : Statement (.softReset slot seq) := fun _ => rfl
theorem unknownOrder (slot : Fin 8) (code : Byte) (seq : Byte) : Statement (.unknownOrder slot code seq) := fun h => nomatch h
theorem setupCommitConfigure : Statement .setupCommitConfigure := fun _ => rfl
theorem setupCommitGroupC : Statement .setupCommitGroupC := fun _ => rfl
theorem setupCommitIgnored (value : Word) : Statement (.setupCommitIgnored value) := fun h => nomatch h
theorem columnSensorConversion (supplyLevel takeupLevel : Int) : Statement (.columnSensorConversion supplyLevel takeupLevel) := fun _ => rfl

end Sys2Proof.Laws.OpenOperands
end

