-- ==== Sys2Proof/Tests/Slice0.lean ====
section
/-! SUPPORT. Tests on small states: the ill-formed commands, the worked figures of the spec, one step of the commands, and a
state that meets the hypotheses of each obligation. -/

namespace Sys2Proof.Tests

set_option Elab.async false

open Sys2Proof Sys2Proof.Machine

/-! ### Small states -/

/-- The machine after a command. -/
def after (c : Instr) (s : State) : State :=
  match exec c s with
  | .next t => t
  | _ => s

/-- Reset, and configured. -/
def ready : State := State.reset.onPath fun p => { p with configured := true }

/-- Threaded and STOPPED at T, the position trusted. -/
def threaded (t : Int) : State :=
  ((ready.onSequencer fun q => { q with transport := .stopped, trusted := true }).onServos fun v =>
    { v with t := t, driveMode := .follow, brake := false }).onGenerator fun g => { g with p := 256 * t }

/-- The order of slot 0 runs. -/
def running (o : OrderCode) (s : State) : State :=
  s.onIntake fun k =>
    { k with running := some 0
             taken := k.taken.set 0 { TakenOrder.reset with code := o.code.toNat, arg := 2 }
             results := k.results.set 0 { OrderResult.reset with code := o.code.toNat, outcome := .running } }

/-- A motion of the sequencer's chapter. -/
def moving (x : Transport) (d : Direction) (p : Purpose) (v : Nat) (m : GenMode) (s : State) : State :=
  ((s.onSequencer fun q => { q with transport := x, dir := some d, purpose := some p }).onGenerator fun g =>
    { g with v := v, dir := some d, mode := m }).onReporter fun r => { r with refreshTimer := some 10 }

/-- One record put in place. -/
def withRecord (i : Fin 16) (r : BlockRecord) (s : State) : State := s.onTracker fun k => { k with records := k.records.set i r }

/-- A FILLED block of 360 bytes at an offset. -/
def filledBlock (offset : Nat) : BlockRecord := { BlockRecord.blank with state := .filled, length := 360, offset := offset, tapeLength := 400 }

/-- One word of a slot's shadow. -/
def withSlotWord (k : Fin 32) (w : Word) (s : State) : State := s.onPath fun p => { p with slots := p.slots.set k w }

/-- One word of the descriptor shadow. -/
def withDescriptorWord (k : Fin 64) (w : Word) (s : State) : State := s.onPath fun p => { p with descriptors := p.descriptors.set k w }

/-- Memory has an own access before it. -/
def atPort (a : OwnAccess) (d : Bool) (s : State) : State := s.onPath fun p => { p with port := some (.own a 0x100 d) }

/-- The LOAD of slot 0 in phase SEEK, in a leg. -/
def seekingIn (l : SeekLeg) (d : Direction) : State :=
  (running .load (threaded 40)).onSequencer (fun q =>
      { q with transport := .loading, phase := some .seek, seekOrigin := some .fresh, seekLeg := some l, trusted := false })
    |>.onGenerator (fun g => { g with v := 512, dir := some d, mode := .cruise })
    |>.onReporter fun r => { r with refreshTimer := some 10 }

/-- A marker record one step short of qualification. -/
def nearlyQualified : MarkerRecord := { level := true, state := .counting, steps := 7, dir := some .forward }

theorem quiet_of (s : State) (h : (reactOnce s).isNone = true) : Quiet s := Option.isNone_iff_eq_none.mp h

theorem calm_of (s : State) (h : (decide (s.servos.tracking < Config.trackingLimit) && !columnDue .supply s && !columnDue .takeup s &&
    !s.looping) = true) : Calm s := by
  simp only [Bool.and_eq_true, decide_eq_true_eq, Bool.not_eq_true'] at h
  exact ⟨h.1.1.1, h.1.1.2, h.1.2, h.2⟩

theorem within_of (c : Int) (h : decide (-Config.commandLimit ≤ c ∧ c ≤ Config.commandLimit) = true) : commandWithin c := by
  have h' := of_decide_eq_true h
  exact h'

theorem clear_of (s : State) (h : decide (clearOrderState s.sequencer = s.sequencer) = true) : NoOrderState s := by
  have h' := of_decide_eq_true h
  exact h'

/-! ### WellFormed refuses each ill-formed command -/

theorem test_misalignedReadRefused : (Instr.deckBusRead 2#24 1).wellFormed = false := by decide
theorem test_emptyReadRefused : (Instr.deckBusRead 0#24 0).wellFormed = false := by decide
theorem test_nineWordReadRefused : (Instr.deckBusRead 0#24 9).wellFormed = false := by decide
theorem test_eightWordReadTaken : (Instr.deckBusRead 0xFFFFFC#24 8).wellFormed = true := by decide
theorem test_misalignedWriteRefused : (Instr.deckBusWrite 1#24 [fullWord 0]).wellFormed = false := by decide
theorem test_emptyWriteRefused : (Instr.deckBusWrite 0#24 []).wellFormed = false := by decide
theorem test_nineWordWriteRefused : (Instr.deckBusWrite 0#24 (List.replicate 9 (fullWord 0))).wellFormed = false := by decide
theorem test_emptyAnswerRefused : (Instr.passThroughReadAnswer (.done []) none).wellFormed = false := by decide
theorem test_nineWordAnswerRefused : (Instr.passThroughReadAnswer (.done (List.replicate 9 0)) none).wellFormed = false := by decide
theorem test_nextOfReadAnswerRefused : (Instr.passThroughReadAnswer .fault (some (.read 1#24 1))).wellFormed = false := by decide
theorem test_nextOfWriteAnswerRefused : (Instr.passThroughWriteAnswer true (some (.write 0#24 []))).wellFormed = false := by decide
theorem test_validStateCodeRefused : (Instr.invalidStateCode 0 6#32).wellFormed = false := by decide
theorem test_invalidStateCodeTaken : (Instr.invalidStateCode 0 7#32).wellFormed = true := by decide
theorem test_definedOrderRefused : (Instr.unknownOrder 0 22#8 0).wellFormed = false := by decide
theorem test_undefinedOrderTaken : (Instr.unknownOrder 0 23#8 0).wellFormed = true := by decide
theorem test_commitOneRefused : (Instr.setupCommitIgnored 1#32).wellFormed = false := by decide
theorem test_commitTwoRefused : (Instr.setupCommitIgnored 2#32).wellFormed = false := by decide
theorem test_noWordSpellsACommand : decodeTableWord 32 0 = none := by decide

/-! ### Worked figures of the spec -/

/-- 04, the capstan law: 880, and −880 in the other direction; beyond the limit the command saturates. -/
theorem test_capstanLaw : capstanLaw 96 64 300 3072 = 880 ∧ capstanLaw 96 64 (-300) (-3072) = -880 ∧
    capstanLaw 96 64 100000 3072 = 2047 := by decide

/-- 04, the reel law: 494 and −734, and the roles change with the direction. -/
theorem test_reelLaw : reelLaw GroupB.default .supply (some .forward) 3072 560 20000 = 494 ∧
    reelLaw GroupB.default .takeup (some .forward) 3072 560 20000 = -734 ∧
    reelLaw GroupB.default .takeup (some .backward) 3072 560 20000 = 494 ∧
    reelLaw GroupB.default .supply (some .backward) 3072 560 20000 = -734 := by decide

/-- 04, the radius estimate. -/
theorem test_radiusEstimate : refineW 20000 20400 = 20100 ∧ refineW 20100 20600 = 20225 := by decide

/-- 03 R61: the distances of the built-in profile for the default targets. -/
theorem test_builtInDistances : builtInDistances GroupB.default = #v[102, 90, 17, 15, 20500, 20460] := by decide

/-- 05, averaging and saturation: 541, 560, 575, 586 give 565, and a burst at 1023 gives 703. -/
theorem test_averaging :
    (closeInterval (convert 586 598 (convert 575 602 (convert 560 4000 (convert 541 590 State.reset))))).sensors.supply.x = 565 ∧
    (closeInterval (convert 586 598 (convert 575 602 (convert 560 4000 (convert 541 590 State.reset))))).sensors.takeup.x = 703 := by
  decide

/-- 02, a backward read: RECEIVED at T = 3000 with tape length 400 gives 2760 and 3160. -/
theorem test_receivedCoords : receivedCoords .backward 400 (threaded 3000) = { start := 2760, stop := 3160 } := by decide

/-- R179: limits 500 and 540 lie too near each other, and both defaults are published. -/
theorem test_windowRelation :
    (groupCOf (checkGroupC [500, 540, 3, 4, 0, 511, 10])).xLo = 128 ∧ (groupCOf (checkGroupC [500, 540, 3, 4, 0, 511, 10])).xHi = 896 ∧
    checkedResult (checkGroupC [500, 540, 3, 4, 0, 511, 10]) = { status := .defaulted, count := 2, first := 48 } := by decide

/-- R194: the ceiling holds back the classes at and above it, and the mask those it does not enable. -/
theorem test_noticeLevel : noticeLevel 0x80#9 511#9 7 = false ∧ noticeLevel 0x80#9 511#9 8 = true ∧
    noticeLevel 0x80#9 0x7F#9 9 = false ∧ noticeLevel 0x81#9 511#9 1 = true ∧ noticeLevel 511#9 511#9 0 = false := by decide

/-- R165: only the enabled bytes are merged. -/
theorem test_mergeWord : mergeWord 0x11223344#32 { data := 0xAABBCCDD#32, enables := 5#4 } = 0x11BB33DD#32 := by decide

/-- R64: the walk of a start segment adds V after each step of slope. -/
theorem test_walk : walkSegment GroupB.default 12288 .start 1 { slope := 192, duration := 16, last := true, link := 0 } { v := 0, sum := 0 } =
    .ok { v := 3072, sum := 26112 } := by
  rfl

/-! ### One step of a command -/

/-- The machine after a step. -/
def stepped (s : State) : State :=
  match step s with
  | .next t => t
  | _ => s

theorem test_stepTakesTheFront :
    (stepped (ready.withQueue [.encoderCount .forward, .encoderCount .backward])).servos.t = 1 ∧
    (stepped (ready.withQueue [.encoderCount .forward, .encoderCount .backward])).pending = [.encoderCount .backward] := by
  decide +kernel

theorem test_coldReset : after .coldReset (threaded 77) = State.reset := by decide +kernel

/-- Cold reset marks the sixteen block reports (R25), and nothing is written before the configuration (R186). -/
theorem test_coldResetMarksTheBlockReports :
    (after .coldReset (threaded 77)).reporter.dirty.length = 16 ∧ RecordName.block 15 ∈ (after .coldReset (threaded 77)).reporter.dirty ∧
    (after .coldReset (threaded 77)).path.claims = [] := by decide +kernel

theorem test_sampleFollowsTape : (after (.servoSample false) (ready.onServos fun v => { v with t := 9 })).generator.p = 2304 := by
  decide +kernel

theorem test_switchTimer : (after (.stabilityTimerExpiry .door) (after (.switchRawChange .door true) ready)).sensors.door =
    { raw := true, debounced := true, settled := true, timer := none } := by decide +kernel

theorem test_markerCounts : (after (.encoderCount .forward) (after (.markerSensorActive .eot)
    (moving .running .forward .write 3072 .cruise (threaded 10)))).sensors.eot =
      { level := true, state := .counting, steps := 1, dir := some .forward } := by decide +kernel

theorem test_markerInactive : (after (.markerSensorInactive .eot) (after (.markerSensorActive .eot) ready)).sensors.eot.state = .idle := by
  decide +kernel

theorem test_firstIndexPulse : (after (.indexPulse .supply) (moving .running .forward .write 3072 .cruise (threaded 10))).servos.supply.capture =
    { ref := some { pos := 10, dir := .forward }, broken := false } := by decide +kernel

/-- FILLED of 360 bytes at offset 0. -/
theorem test_filled : (after (.filled 3) (withDescriptorWord 13 360#32 ready)).record 3 = filledBlock 0 := by decide +kernel

theorem test_empty : (after (.empty 3) (withRecord 3 (filledBlock 0) ready)).record 3 = BlockRecord.blank := by decide +kernel

theorem test_invalidCode : (after (.invalidStateCode 3 9#32) ready).reporter.pendingClasses = 0x10#9 := by decide +kernel

/-- 01, the worked sequence: WRITE at T = 4300 with A = 5000 arms record 0 with R = 5600 and starts forward. -/
theorem test_writeArms :
    (after (.write 2 1) (withSlotWord 8 2#32 (withRecord 0 (filledBlock 0) ((threaded 4300).onSequencer (fun q =>
      { q with anchor := 5000, gapKind := .nominal }) |>.onSensors fun n =>
      { n with ring := { n.ring with debounced := true } })))).sequencer.recordPoint = some 5600 := by decide +kernel

/-- The release of the armed block at T = 5604, as the same sequence has it. -/
theorem test_release :
    (after (.deckBusRead 0x004000#24 1) (running .write (moving .running .forward .write 3072 .cruise (withRecord 0
      { filledBlock 0 with state := .armed } ((threaded 5604).onSequencer fun q =>
        { q with recordPoint := some 5600, writeMode := true }))))).record 0 =
      { filledBlock 0 with state := .recording, coords := some { start := 5604, stop := 6004 } } := by decide +kernel

theorem test_writeReachesRing :
    (after (.passThroughWriteAnswer true none) (after (.deckBusWrite 0x000104#24 [fullWord 360#32]) ready)).descriptorWord 0 1 =
      360#32 := by decide +kernel

theorem test_configure : (after .setupCommitConfigure State.reset).path.port = some (.own (.setup 0 8) 0 false) := by decide +kernel

theorem test_commitIgnored : (after (.setupCommitIgnored 5#32) State.reset).reporter.pendingClasses = 0x20#9 := by decide +kernel

theorem test_load : (after (.load 1 9) (ready.onSensors fun n =>
    { n with door := { n.door with debounced := true }, tapeInPath := { n.tapeInPath with debounced := true } })).sequencer.phase =
      some .vacuum := by decide +kernel

theorem test_loadWithoutTape : ((after (.load 1 9) ready).intake.results[(1 : Fin 8)]).reason = .doorOpen := by decide +kernel

theorem test_rewindAtLoadPoint : ((after (.rewind 0 1) (threaded 0)).intake.results[(0 : Fin 8)]).outcome = .done := by decide +kernel

theorem test_ceiling : (after (.ceiling 0 1) (withSlotWord 0 12#32 ready)).reporter.ceiling = 9 := by decide +kernel

theorem test_unknownOrder : ((after (.unknownOrder 7 15 3) ready).intake.results[(7 : Fin 8)]).reason = .unknownOrder := by
  decide +kernel

theorem test_badArgument : ((after (.write 0 1) (threaded 0)).intake.results[(0 : Fin 8)]).reason = .badArgument := by decide +kernel

theorem test_reportWrite : (after .reportWriteBegin (ready.onReporter fun r =>
    { r with configured := true, dirty := [.identity] })).path.port =
      some (.own (.report 0 [1, identityWord1, identityWord2, 1, 0, 0, 0, 1]) 0x400 false) := by decide +kernel

/-! ### The hypotheses of the obligations can be met -/

/-- UNLOADING in phase RELEASE. -/
def releasing : State :=
  ((threaded 0).onSequencer fun q => { q with transport := .unloading, phase := some .release, phaseTimer := some 30000 })
    |>.onServos (fun v => { v with driveMode := .wind })
    |>.onSensors (fun n => { n with tapeInPath := { n.tapeInPath with debounced := true } })
    |>.onReporter fun r => { r with refreshTimer := some 10 }

/-- The lower port is BUSY. -/
def busyPort : State := atPort (.setup 0 8) false ready

/-- LOADING in phase LOOPS, both loops at the setpoint, one settled sample short of 1000. -/
def almostSettled (origin : SeekOrigin) : State :=
  ((threaded 40).onSequencer fun q =>
      { q with transport := .loading, phase := some .loops, seekOrigin := some origin, phaseTimer := some 10000, settleCount := 999 })
    |>.onServos (fun v => { v with driveMode := .loopHold })
    |>.onSensors (fun n => { n with supply := { n.supply with sum := 2048 }, takeup := { n.takeup with sum := 2048 }, taken := 4 })
    |>.onReporter fun r => { r with refreshTimer := some 10 }

/-- A chain runs from the store. -/
def chainRuns (x : Transport) (m : GenMode) (v : Nat) (r : RunningChain) (w : Option Segment) (q : Option Reload) : State :=
  (moving x .forward .write v m (threaded 100)).onGenerator fun g => { g with run := some r, working := w, reload := q }

/-- STOPPED, the tracking count at 7 and P beyond the limit of the tracking error. -/
def strayed : State := ((threaded 100).onServos fun v => { v with tracking := 7 }).onGenerator fun g => { g with p := g.p + 5121 }

/-- STOPPED with the window armed, one column's count at 2 and its loop lost, the other column at the setpoint. -/
def loopLost (c : Reel) : State :=
  (threaded 100).onSensors fun n =>
    match c with
    | .supply => { n with windowArmed := true, supply := { n.supply with outside := 2 }, takeup := { n.takeup with sum := 2048 }, taken := 4 }
    | .takeup => { n with windowArmed := true, takeup := { n.takeup with outside := 2 }, supply := { n.supply with sum := 2048 }, taken := 4 }

/-- STOPPED, the door about to be accepted OPEN. -/
def doorOpening : State := (threaded 100).onSensors fun n => { n with door := { raw := false, debounced := true, settled := true, timer := some 4 } }

theorem sound_queued :
    Sound (State.reset.withQueue [.servoSample true]) := by
  constructor <;> first
    | decide +kernel
    | exact within_of _ (by decide +kernel)
    | exact ⟨by decide +kernel, by decide +kernel⟩

theorem sound_strayed :
    Sound strayed := by
  constructor <;> first
    | decide +kernel
    | exact within_of _ (by decide +kernel)
    | exact ⟨by decide +kernel, by decide +kernel⟩

theorem sound_loopLost :
    Sound (loopLost .supply) := by
  constructor <;> first
    | decide +kernel
    | exact within_of _ (by decide +kernel)
    | exact ⟨by decide +kernel, by decide +kernel⟩

theorem sound_loopLostTakeup :
    Sound (loopLost .takeup) := by
  constructor <;> first
    | decide +kernel
    | exact within_of _ (by decide +kernel)
    | exact ⟨by decide +kernel, by decide +kernel⟩

theorem sound_doorOpening :
    Sound doorOpening := by
  constructor <;> first
    | decide +kernel
    | exact within_of _ (by decide +kernel)
    | exact ⟨by decide +kernel, by decide +kernel⟩

theorem meets_StepNeverStops :
    State.reset.pending = [] := by
  rfl

theorem meets_StepKeepsSound :
    ∃ s t : State, Sound s ∧ step s = .next t := by
  exact ⟨_, _, sound_queued, rfl⟩

/-- The drive modes FOLLOW, OFF and WIND, and a BUSY lower port. -/
theorem meets_ServoSampleInHold :
    ((threaded 100).generator.mode = .hold ∧ Quiet (threaded 100) ∧ Calm (sampleCounts (threaded 100))) ∧
    (ready.generator.mode = .hold ∧ Quiet ready ∧ Calm (sampleCounts ready)) ∧
    (releasing.generator.mode = .hold ∧ Quiet releasing ∧ Calm (sampleCounts releasing)) ∧
    (busyPort.path.port.isSome = true ∧ busyPort.generator.working = none ∧ Quiet busyPort ∧ Calm (sampleCounts busyPort)) := by
  and_intros <;> first
    | decide +kernel
    | exact quiet_of _ (by decide +kernel)
    | exact calm_of _ (by decide +kernel)
    | exact ⟨by decide +kernel, by decide +kernel⟩

theorem meets_ServoSamplesFollowTheSegments :
    Quiet (chainRuns .starting .accel 0 (newChain .start 3072 true false) (some (builtInSegment GroupB.default .start)) none) ∧
    Calm (sampleCounts (chainRuns .starting .accel 0 (newChain .start 3072 true false) (some (builtInSegment GroupB.default .start)) none)) ∧
    1 < (builtInSegment GroupB.default .start).duration ∧ (newChain .start 3072 true false).chain.isStart = true := by
  and_intros <;> first
    | decide +kernel
    | exact quiet_of _ (by decide +kernel)
    | exact calm_of _ (by decide +kernel)
    | exact ⟨by decide +kernel, by decide +kernel⟩

/-- The 31st segment of a start chain, at its last sample. -/
def lastSample : State :=
  chainRuns .starting .accel 1000 { newChain .start 3072 false false with segments := 31 }
    (some { slope := 100, duration := 1, last := false, link := 64 })
    (some { segment := { slope := 10, duration := 5, last := true, link := 0 }, head := none })

theorem meets_ServoSamplesFollowTheSegments_expiry :
    Quiet lastSample ∧ Calm (sampleCounts lastSample) ∧ durationDue lastSample = true := by
  and_intros <;> first
    | decide +kernel
    | exact quiet_of _ (by decide +kernel)
    | exact calm_of _ (by decide +kernel)
    | exact ⟨by decide +kernel, by decide +kernel⟩

/-- V at its lower and its upper bound. -/
theorem meets_LateCountLimitFallsBack :
    ∀ v ∈ [1, 12800], (reactOnce (chainRuns .stopping .decel v { newChain .stop 0 false false with late := 7 } none none)).isNone = true ∧
      lateDue (chainRuns .stopping .decel v { newChain .stop 0 false false with late := 7 } none none) = true ∧
      trackingDue (chainRuns .stopping .decel v { newChain .stop 0 false false with late := 7 } none none) = false ∧
      columnDueNext .supply (chainRuns .stopping .decel v { newChain .stop 0 false false with late := 7 } none none) = false ∧
      columnDueNext .takeup (chainRuns .stopping .decel v { newChain .stop 0 false false with late := 7 } none none) = false ∧
      (sampleCounts (chainRuns .stopping .decel v { newChain .stop 0 false false with late := 7 } none none)).looping = false := by
  decide +kernel

theorem meets_SampleFaultsStopTheDeck :
    (Sound strayed ∧ (sampleCounts strayed).sequencer.transport = .stopped ∧ handOverDue (sampleCounts strayed) = none ∧
      trackingDue strayed = true ∧ columnDueNext .supply strayed = false ∧ columnDueNext .takeup strayed = false) ∧
    (Sound (loopLost .supply) ∧ handOverDue (sampleCounts (loopLost .supply)) = none ∧
      (sampleCounts (loopLost .supply)).sequencer.transport = .stopped ∧
      trackingDue (loopLost .supply) = false ∧ columnDueNext .supply (loopLost .supply) = true) ∧
    (Sound (loopLost .takeup) ∧ handOverDue (sampleCounts (loopLost .takeup)) = none ∧
      (sampleCounts (loopLost .takeup)).sequencer.transport = .stopped ∧
      trackingDue (loopLost .takeup) = false ∧ columnDueNext .takeup (loopLost .takeup) = true) := by
  and_intros <;> first
    | decide +kernel
    | exact sound_strayed
    | exact sound_loopLost
    | exact sound_loopLostTakeup

theorem meets_SettleCountCompleteBeginsSeek :
    ∀ o ∈ [SeekOrigin.fresh, SeekOrigin.fromFault], trackingDue (almostSettled o) = false ∧
      columnDueNext .supply (almostSettled o) = false ∧ columnDueNext .takeup (almostSettled o) = false ∧
      (sampleCounts (almostSettled o)).looping = true ∧ loopsSettled (sampleCounts (almostSettled o)) = true ∧
      (sampleCounts (almostSettled o)).sequencer.settleCount = 999 ∧ (reactOnce (sampleCounts (almostSettled o))).isNone = true := by
  decide +kernel

/-- An order context of slot 0. -/
def withContext (write : Bool) (n span : Nat) (s : State) : State :=
  s.onTracker fun k =>
    { k with context := some { slot := 0, write := write, n := n, first := 0, span := span, placed := if write then span else 0, done := 0,
                               received := 0 } }

/-- A block placed at 10000, its check awaited, with two failures counted. -/
def awaiting : BlockRecord :=
  { filledBlock 0 with state := .awaitCheck, coords := some { start := 10000, stop := 10400 }, attempts := 2, checkTimer := some 2 }

/-- A WRITE stops with a check awaited. -/
def stoppingWrite : State :=
  withContext true 3 1 (withRecord 0 awaiting (running .write (moving .stopping .forward .write 1000 .decel (threaded 10700))))

/-- The last sample of a stop from V = 100. -/
def stopEnding (s : State) : State :=
  s.onGenerator fun g =>
    { g with v := 100, mode := .decel, run := some (newChain .stop 0 false false)
             working := some { slope := -100, duration := 1, last := true, link := 0 } }

/-- The last sample of a fallback stop. -/
def fallbackEnding (s : State) : State :=
  s.onGenerator fun g => { g with v := 100, mode := .fallback, fallSlope := 100, run := none, working := none }

/-- What EndingSample asks beside the samples' tests, of a stop that ends. -/
def endsBool (s : State) : Bool :=
  s.generator.waiting.isNone && s.signals.isEmpty && s.generator.loadSet.isNone &&
  decide (s.servos.driveMode = driveModeOf s.sequencer.transport s.sequencer.phase) &&
  decide (s.servos.tracking < Config.trackingLimit) && decide ((sampleCounts s).servos.tracking < Config.trackingLimit) &&
  !columnDue .supply (sampleCounts s) && !columnDue .takeup (sampleCounts s) && !(sampleCounts s).looping

theorem ending_of (s : State) (ends : StopEnds s) (h : endsBool s = true) : EndingSample s := by
  simp only [endsBool, Bool.and_eq_true, decide_eq_true_eq, Bool.not_eq_true', List.isEmpty_iff, Option.isNone_iff_eq_none] at h
  obtain ⟨⟨⟨⟨⟨⟨⟨⟨_, signals⟩, settled⟩, drive⟩, _⟩, tracking⟩, supply⟩, takeup⟩, looping⟩ := h
  exact ⟨ends, signals, settled, ⟨tracking, supply, takeup, looping⟩, drive⟩

theorem ending_stop (s : State) (none_waits : s.generator.waiting = none) (h : endsBool (stopEnding s) = true) : EndingSample (stopEnding s) :=
  ending_of _ ⟨none_waits, .inr ⟨_, _, rfl, rfl, rfl, rfl, rfl, rfl, Int.le_refl 0⟩⟩ h

theorem ending_fallback (s : State) (none_waits : s.generator.waiting = none) (h : endsBool (fallbackEnding s) = true) :
    EndingSample (fallbackEnding s) :=
  ending_of _ ⟨none_waits, .inl ⟨rfl, Nat.le_refl _⟩⟩ h

/-- A WRITE stops, its outcome FAILED fixed, with a check awaited. -/
def failedWrite : State := stoppingWrite.onSequencer fun q => { q with fixed := some { outcome := .failed, reason := .formatterSilent } }

/-- The tape stops with no order running. -/
def idleStop : State := moving .stopping .forward .write 1000 .decel (threaded 10700)

theorem meets_StopEndsTheTapeOrder :
    (EndingSample (stopEnding failedWrite) ∧ failedWrite.sequencer.transport = .stopping ∧ failedWrite.intake.running = some 0 ∧
      failedWrite.sequencer.fixed = some { outcome := .failed, reason := .formatterSilent } ∧ failedWrite.sequencer.held = false ∧
      failedWrite.intake.queue = [] ∧ failedWrite.tracker.context.isSome = true ∧ (failedWrite.record 0).state = .awaitCheck) ∧
    (EndingSample (fallbackEnding idleStop) ∧ idleStop.sequencer.transport = .stopping ∧ idleStop.intake.running = none ∧
      idleStop.intake.queue = []) := by
  and_intros <;> first
    | exact ending_stop _ rfl (by decide +kernel)
    | exact ending_fallback _ rfl (by decide +kernel)
    | decide +kernel

/-- The final creep after its marker. -/
def seekDone : State := (seekingIn .finalCreep .forward).onSequencer fun q => { q with legMarked := true }

/-- The order of slot 0 in a state of the transport, a phase and a rewind step, moving backward. -/
def threadingOrder (o : OrderCode) (x : Transport) (p : Phase) (r : Option RewindStep) (t : Int) : State :=
  ((running o (threaded t)).onSequencer fun q => { q with transport := x, phase := some p, rewindStep := r })
    |>.onGenerator (fun g => { g with v := 512, dir := some .backward, mode := .cruise })
    |>.onReporter fun r => { r with refreshTimer := some 10 }

/-- REWIND in a step. -/
def rewindIn (r : RewindStep) (t : Int) : State := threadingOrder .rewind .rewinding (.step r) none t

/-- UNLOAD in phase LEADER, the path as given. -/
def leaderIn (inPath : Bool) (t : Int) : State :=
  ((threadingOrder .unload .unloading .leader none t).onSequencer fun q => { q with leaderStart := some 0 }).onSensors fun n =>
    { n with tapeInPath := { n.tapeInPath with debounced := inPath } }

/-- An outcome is fixed. -/
def fixedFailed (s : State) : State := s.onSequencer fun q => { q with fixed := some { outcome := .failed, reason := .noLoadPoint } }

/-- The ends of LOAD, REWIND, and of UNLOAD in FINAL and in LEADER with the path occupied and CLEAR; then the three with an
outcome fixed. -/
theorem meets_StopEndsLoadRewindAndUnload :
    (EndingSample (stopEnding seekDone) ∧ EndingSample (stopEnding (rewindIn .final 3)) ∧
      EndingSample (stopEnding (threadingOrder .unload .unloading .rewind (some .final) 3)) ∧
      EndingSample (stopEnding (leaderIn true (-40000))) ∧ EndingSample (stopEnding (leaderIn false (-40000))) ∧
      EndingSample (stopEnding (fixedFailed seekDone)) ∧ EndingSample (stopEnding (fixedFailed (leaderIn true 0))) ∧
      EndingSample (stopEnding (fixedFailed (rewindIn .creep 3)))) ∧
    (∀ s ∈ [seekDone, rewindIn .final 3, threadingOrder .unload .unloading .rewind (some .final) 3, leaderIn true (-40000), leaderIn false (-40000)],
      s.intake.running = some 0 ∧ s.tracker.context = none ∧ s.intake.queue = [] ∧ s.sequencer.haltStop = false ∧
      s.sequencer.fixed = none ∧ s.generator.charact = none ∧ s.distance .creepStop < 40000) ∧
    (seekDone.seeking = true ∧ seekDone.sequencer.seekLeg = some .finalCreep ∧ seekDone.sequencer.legMarked = true ∧
      (rewindIn .final 3).sequencer.transport = .rewinding ∧ (leaderIn true 0).sequencer.transport = .unloading) := by
  and_intros <;> first
    | exact ending_stop _ rfl (by decide +kernel)
    | decide +kernel

theorem meets_ConversionAddsTheSaturatedCodes :
    ready.sensors.taken < ready.sensors.intervalN := by
  decide

/-- In SEEK with no BOT qualification; with one, outside SEEK and the rewinds. -/
theorem meets_EncoderCountMovesTheTape_everyState :
    ((seekingIn .outward .backward).seeking = true ∧
      qualifiesNow .backward 8 (seekingIn .outward .backward).sensors.bot = false) ∧
    (qualifiesNow .forward 8 nearlyQualified = true ∧ (threaded 5).seeking = false ∧ (threaded 5).rewindStep = none) := by
  decide +kernel

/-- Undriven, and driven with no marker qualifying. -/
theorem meets_EncoderCountMovesTheTape :
    (ready.seeking = false ∧ ready.generator.dir = none ∧ Quiet (countStep .backward ready)) ∧
    ((moving .running .forward .write 3072 .cruise (threaded 5)).seeking = false ∧
      qualifiesNow .forward 8 (moving .running .forward .write 3072 .cruise (threaded 5)).sensors.bot = false ∧
      qualifiesNow .forward 8 (moving .running .forward .write 3072 .cruise (threaded 5)).sensors.eot = false ∧
      Quiet (countStep .forward (moving .running .forward .write 3072 .cruise (threaded 5)))) := by
  and_intros <;> first
    | decide +kernel
    | exact quiet_of _ (by decide +kernel)
    | exact calm_of _ (by decide +kernel)
    | exact ⟨by decide +kernel, by decide +kernel⟩

/-- RUNNING with the EOT marker one step short of qualification. -/
def eotAhead : State := (moving .running .forward .write 3072 .cruise (threaded 5)).onSensors fun n => { n with eot := nearlyQualified }

/-- The final creep with the BOT marker one step short of qualification. -/
def botAhead : State := (seekingIn .finalCreep .forward).onSensors fun n => { n with bot := nearlyQualified }

/-- A seek leg with the travel count at its limit. -/
def atSeekLimit (l : SeekLeg) (d : Direction) : State :=
  (seekingIn l d).onSequencer fun q => { q with seekTravel := seekLimit q.seekOrigin }

theorem meets_MarkerQualificationsAct_eot :
    eotAhead.seeking = false ∧ eotAhead.generator.dir = some .forward ∧ qualifiesNow .forward 8 eotAhead.sensors.bot = false ∧
    qualifiesNow .forward 8 eotAhead.sensors.eot = true ∧ eotAhead.sequencer.eot = none ∧ Quiet (countStep .forward eotAhead) := by
  and_intros <;> first
    | decide +kernel
    | exact quiet_of _ (by decide +kernel)
    | exact calm_of _ (by decide +kernel)
    | exact ⟨by decide +kernel, by decide +kernel⟩

/-- The EOT marker one step short of qualification: backward, and forward with the coordinate present. -/
def eotAgain (d : Direction) (c : Option Int) : State :=
  ((moving .running d .write 3072 .cruise (threaded 5)).onSensors fun n => { n with eot := { nearlyQualified with dir := some d } }).onSequencer
    fun q => { q with eot := c }

theorem meets_MarkerQualificationsAct_eotAgain :
    ∀ x ∈ [(Direction.backward, none), (.backward, some 3), (.forward, some 3)], (eotAgain x.1 x.2).seeking = false ∧
      (eotAgain x.1 x.2).generator.dir.isSome = true ∧ qualifiesNow x.1 8 (eotAgain x.1 x.2).sensors.bot = false ∧
      qualifiesNow x.1 8 (eotAgain x.1 x.2).sensors.eot = true ∧
      (x.1 = .backward ∨ (eotAgain x.1 x.2).sequencer.eot.isSome = true) ∧
      (reactOnce (countStep x.1 (eotAgain x.1 x.2))).isNone = true := by
  decide +kernel

theorem meets_MarkerQualificationsAct_bot :
    botAhead.seeking = true ∧ botAhead.sequencer.seekLeg = some .finalCreep ∧ botAhead.sequencer.legMarked = false ∧
    botAhead.sequencer.fixed = none ∧ botAhead.generator.mode = .cruise ∧ qualifiesNow .forward 8 botAhead.sensors.bot = true ∧
    qualifiesNow .forward 8 botAhead.sensors.eot = false ∧ botAhead.signals = [] ∧ handOverDue botAhead = none ∧
    botAhead.sequencer.seekTravel < seekLimit botAhead.sequencer.seekOrigin := by
  and_intros <;> first
    | decide +kernel
    | exact quiet_of _ (by decide +kernel)
    | exact calm_of _ (by decide +kernel)
    | exact ⟨by decide +kernel, by decide +kernel⟩

theorem meets_SeekLimitEndsTheSearch :
    ∀ l ∈ [SeekLeg.finalCreep, .outward], ∀ d ∈ [Direction.forward, .backward], (atSeekLimit l d).seeking = true ∧
      (atSeekLimit l d).sequencer.seekTravel = seekLimit (atSeekLimit l d).sequencer.seekOrigin ∧ (atSeekLimit l d).intake.running = some 0 ∧
      qualifiesNow d 8 (atSeekLimit l d).sensors.bot = false ∧ qualifiesNow d 8 (atSeekLimit l d).sensors.eot = false ∧
      seekLimitDue d (atSeekLimit l d) = true := by
  decide +kernel

/-- What NoMarkerAt and CountInMotion ask. -/
def countBool (d : Direction) (s : State) : Bool :=
  s.signals.isEmpty && !qualifiesNow d s.loader.groupB.mq s.sensors.bot && !qualifiesNow d s.loader.groupB.mq s.sensors.eot &&
  s.generator.loadSet.isNone && s.intake.running.isSome

theorem noMarker_of (d : Direction) (s : State) (h : countBool d s = true) : NoMarkerAt d s := by
  simp only [countBool, Bool.and_eq_true, Bool.not_eq_true', List.isEmpty_iff, Option.isNone_iff_eq_none] at h
  obtain ⟨⟨⟨⟨signals, bot⟩, eot⟩, settled⟩, order⟩ := h
  exact ⟨signals, fun _ => bot, fun _ => eot, settled, order⟩

theorem inMotion_of (d : Direction) (p : Purpose) (s : State) (h : countBool d s = true)
    (h' : decide (s.sequencer.transport.underway = true ∧ s.sequencer.phase = none ∧ s.sequencer.dir = some d ∧
      s.sequencer.purpose = some p ∧ (s.generator.mode = .accel ∨ s.generator.mode = .cruise) ∧ s.servos.driveMode = .follow ∧
      s.sequencer.fixed = none) = true) : CountInMotion d p s := by
  obtain ⟨a, b, c, e, f, g, i⟩ := of_decide_eq_true h'
  exact ⟨noMarker_of d s h, a, b, c, e, f, g, i⟩

/-- A WRITE runs forward at T, toward a record point. -/
def writingAt (t : Int) (r : Option Int) : State :=
  (running .write (moving .running .forward .write 3072 .cruise (threaded t))).onSequencer fun q =>
    { q with writeMode := true, recordPoint := r }

/-- A read of the ARMED record 0 is held one step before the record point. -/
def heldAtPoint : State :=
  (withRecord 0 { filledBlock 0 with state := .armed } (writingAt 5599 (some 5600))).onPath fun p =>
    { p with upper := some { txn := .read 0x004000#24 1, stage := .held 8 } }

/-- Record 0 is RECORDING one step before its decision point, with the cursor at record 1, in the state given. -/
def decisionAhead (x : BlockState) (rest : List (Fin 16 × Int)) (r : Option Int) : State :=
  (withRecord 1 { filledBlock 0 with state := x } (withRecord 0 { filledBlock 0 with state := .recording } (writingAt 100 r))).onTracker
      (fun k => { k with recordCursor := 1 }) |>.onSequencer fun q => { q with decisions := (0, 101) :: rest }

/-- At the end of the release window, with no-shows counted. -/
def windowEnd (n : Nat) : State :=
  (withRecord 0 { filledBlock 0 with state := .armed } (writingAt 7400 (some 5600))).onSequencer fun q => { q with noShow := n }

/-- An ERASE one step before the stop for its end. -/
def eraseEnding : State :=
  (running .erase (moving .running .forward .erase 3072 .cruise (threaded 9909))).onSequencer fun q =>
    { q with writeMode := true, eraseEnd := some 10000 }

theorem meets_CountsReachTheWritingPoints :
    (CountInMotion .forward .write heldAtPoint ∧ heldAtPoint.path.upper = some { txn := .read 0x004000#24 1, stage := .held 8 } ∧
      releaseCondition (countStep .forward heldAtPoint) = true ∧ (heldAtPoint.record 0).state = .armed ∧
      heldAtPoint.sequencer.decisions = [] ∧ (countStep .forward heldAtPoint).beyondEot = false ∧ (heldAtPoint.record 1).state = .free) ∧
    (CountInMotion .forward .write (decisionAhead .free [(5, 102)] none) ∧
      CountInMotion .forward .write (decisionAhead .armed [] (some (-1699))) ∧ CountInMotion .forward .write (decisionAhead .free [] none)) ∧
    (decisionAhead .armed [] (some (-1699))).servos.t + 1 = -1699 + (decisionAhead .armed [] (some (-1699))).loader.groupB.xExt ∧
    (∀ n ∈ [2, 3], (windowEnd n).servos.t = 5600 + (windowEnd n).loader.groupB.xExt ∧ (windowEnd n).sequencer.decisions = [] ∧
      ((windowEnd n).record (windowEnd n).tracker.receiveCursor).state = .armed ∧ (windowEnd n).loader.groupB.noShowLimit = 3) ∧
    (CountInMotion .forward .write (windowEnd 2) ∧ CountInMotion .forward .write (windowEnd 3)) ∧
    (CountInMotion .forward .erase eraseEnding ∧ 10000 - eraseEnding.distance .stop = eraseEnding.servos.t + 1 ∧
      eraseEnding.sequencer.decisions = [] ∧ (eraseEnding.record 0).state = .free) := by
  and_intros <;> first
    | exact inMotion_of _ _ _ (by decide +kernel) (by decide +kernel)
    | decide +kernel

/-- A reading order runs at T, with the reference of the blank limit at 0. -/
def readingAt (o : OrderCode) (p : Purpose) (t : Int) : State :=
  (running o (moving .running o.dir p 3072 .cruise (threaded t))).onSequencer fun q => { q with blankRef := some 0 }

/-- READ_FWD at the EOT limit. -/
def eotLimit : State := (readingAt .readFwd .read 120007).onSequencer fun q => { q with eot := some 7 }

/-- The blank limit in both directions, T at 1 in backward motion for READ, SPACE and REPOSITION, and the EOT limit. -/
theorem meets_CountsReachTheLimits :
    (CountInMotion .forward .read (readingAt .readFwd .read 300000) ∧ CountInMotion .backward .space (readingAt .spaceBwd .space (-300000)) ∧
      (readingAt .readFwd .read 300000).loader.groupB.blankLimit = 300000 ∧
      (readingAt .readFwd .read 300000).sequencer.decisions = []) ∧
    (CountInMotion .backward .read (readingAt .readBwd .read 1) ∧ CountInMotion .backward .space (readingAt .spaceBwd .space 1) ∧
      CountInMotion .backward .reposition (readingAt .readBwd .reposition 1) ∧
      repositionDue (countStep .backward (readingAt .readBwd .reposition 1)) = none) ∧
    (CountInMotion .forward .read eotLimit ∧ eotLimit.runningOrder = some .readFwd ∧ eotLimit.sequencer.held = false ∧
      7 + (eotLimit.loader.groupB.eotOverrun : Int) = eotLimit.servos.t ∧ (120008 - 0 : Int).natAbs ≤ eotLimit.loader.groupB.blankLimit) := by
  and_intros <;> first
    | exact inMotion_of _ _ _ (by decide +kernel) (by decide +kernel)
    | decide +kernel

/-- A WRITE moves toward its approach point 5000, or in recovery to a backup target there. -/
def approaching (d : Direction) (t : Int) (q : Option Int) : State :=
  (running .write (moving .running d .reposition 512 .cruise (threaded t))).onSequencer fun x =>
    { x with approach := q
             recovery := if q.isSome then none else some { kind := .write, index := 0, phase := .backup, target := 5000 } }

theorem meets_CountsReachTheApproachPoints :
    (CountInMotion .backward .reposition (approaching .backward 5016 (some 5000)) ∧
      CountInMotion .forward .reposition (approaching .forward 4984 none) ∧
      (approaching .backward 5016 none).distance .creepStop = 15) ∧
    (NoMarkerAt .backward (rewindIn .ramp 60001) ∧ NoMarkerAt .backward (rewindIn .cruise 60001) ∧
      NoMarkerAt .backward (rewindIn .creep (-60000)) ∧ NoMarkerAt .backward (leaderIn true (-39984))) ∧
    (∀ s ∈ [rewindIn .ramp 60001, rewindIn .cruise 60001, rewindIn .creep (-60000), leaderIn true (-39984)],
      s.generator.mode = .cruise ∧ s.servos.driveMode = .follow ∧ s.sequencer.fixed = none ∧ s.sequencer.haltStop = false ∧
      s.loader.groupB.approachDistance = 60000 ∧ (s.record 0).state = .free) := by
  and_intros <;> first
    | exact inMotion_of _ _ _ (by decide +kernel) (by decide +kernel)
    | exact noMarker_of _ _ (by decide +kernel)
    | decide +kernel

theorem meets_MarkerLevelsSetTheRecord :
    (ready.sensors.marker .bot).level = false ∧ (eotAhead.sensors.marker .eot).level = true ∧
    eotAhead.sequencer.transport ≠ .loading ∧ Quiet eotAhead := by
  and_intros <;> first
    | decide +kernel
    | exact quiet_of _ (by decide +kernel)
    | exact calm_of _ (by decide +kernel)
    | exact ⟨by decide +kernel, by decide +kernel⟩

/-- RUNNING at T = 50000 with a reference of the supply reel. -/
def captured (pos : Int) : State :=
  (moving .running .forward .write 3072 .cruise (threaded 50000)).onServos fun v =>
    { v with supply := { v.supply with capture := { ref := some { pos := pos, dir := .forward }, broken := false } } }

/-- A measurement at each bound is accepted, one beyond is not. -/
theorem meets_IndexPulseMeasuresTheReel :
    ∀ p ∈ [40000, 10000], pulseAccepted (captured p).servos.t (captured p).generator.dir (captured p).loader.groupB.wMin
        (captured p).loader.groupB.wMax (captured p).servos.supply = true ∧
      pulseAccepted (captured 9999).servos.t (captured 9999).generator.dir (captured 9999).loader.groupB.wMin
        (captured 9999).loader.groupB.wMax (captured 9999).servos.supply = false := by
  decide +kernel

/-- STOPPED with a settled ring switch. -/
def ringSettled (raw : Bool) : State :=
  (threaded 100).onSensors fun n => { n with ring := { raw := raw, debounced := false, settled := true, timer := none } }

theorem meets_RawChangeMovesTheStabilityTimer :
    ((ringSettled false).sensors.ring.raw = !true ∧ (ringSettled false).sensors.ring.settled = true ∧
      true ≠ (ringSettled false).sensors.ring.debounced ∧ (ringSettled false).loader.groupC.debounce ≠ 0) ∧
    ((ringSettled true).sensors.ring.raw = !false ∧ (ringSettled true).sensors.ring.settled = true ∧
      false = (ringSettled true).sensors.ring.debounced) ∧
    (ready.sensors.ring.raw = !true ∧ ready.sensors.ring.settled = false) := by
  decide +kernel

/-- A settled switch with a debounce time of 0. -/
theorem meets_RawChangeMovesTheStabilityTimer_zero :
    ((ringSettled false).onLoader fun l => { l with groupC := { l.groupC with debounce := 0 } }).sensors.ring.settled = true ∧
    ((ringSettled false).onLoader fun l => { l with groupC := { l.groupC with debounce := 0 } }).loader.groupC.debounce = 0 := by
  decide +kernel

theorem meets_RingSwitchIsAccepted :
    ready.sensors.ring.timer = some 4 ∧ Quiet ready := by
  and_intros <;> first
    | decide +kernel
    | exact quiet_of _ (by decide +kernel)
    | exact calm_of _ (by decide +kernel)
    | exact ⟨by decide +kernel, by decide +kernel⟩

theorem meets_AcceptedLossesStopTheDeck_door :
    Sound doorOpening ∧ doorOpening.sensors.door.timer = some 4 ∧ doorOpening.sensors.door.settled = true ∧
    doorOpening.sensors.door.raw = false ∧ doorOpening.sensors.door.debounced = true ∧ doorOpening.sequencer.transport = .stopped ∧
    handOverDue doorOpening = none := by
  and_intros <;> first
    | decide +kernel
    | exact sound_doorOpening

/-- A switch about to be accepted OFF. -/
def losing (sw : Switch) (s : State) : State :=
  s.onSensors fun n => n.setSwitch sw { raw := false, debounced := true, settled := true, timer := some 4 }

/-- STOPPED with the window armed. -/
def watched : State := (threaded 100).onSensors fun n => { n with windowArmed := true }

/-- FAULTED after a stop made with the vacuum supervised. -/
def faultedWatching : State :=
  (State.reset.onSequencer fun q => { q with transport := .faulted }).onSensors fun n => { n with lossWatch := true }

theorem sound_losing : Sound (losing .supplyVacuum watched) ∧ Sound (losing .takeupVacuum watched) ∧ Sound (losing .tapeInPath watched) := by
  refine ⟨?_, ?_, ?_⟩ <;> constructor <;> first
    | decide +kernel
    | exact within_of _ (by decide +kernel)
    | exact ⟨by decide +kernel, by decide +kernel⟩

theorem meets_AcceptedLossesStopTheDeck_vacuumAndTape :
    ∀ sw ∈ [Switch.supplyVacuum, .takeupVacuum, .tapeInPath], ((losing sw watched).sensors.switch sw).timer = some 4 ∧
      (losing sw watched).supervised = true ∧ (losing sw watched).releasing = false ∧
      (losing sw watched).sequencer.transport = .stopped ∧ handOverDue (losing sw watched) = none := by
  decide +kernel

theorem meets_AcceptedLossesStopTheDeck_second :
    ∀ sw ∈ [Switch.supplyVacuum, .takeupVacuum], ((losing sw faultedWatching).sensors.switch sw).timer = some 4 ∧
      (losing sw faultedWatching).sequencer.transport = .faulted ∧ (losing sw faultedWatching).sensors.windowArmed = false ∧
      (losing sw faultedWatching).sensors.lossWatch = true ∧ (reactOnce (losing sw faultedWatching)).isNone = true := by
  decide +kernel

/-- VACUUM with the active set settled, one vacuum switch about to be accepted MADE, the other MADE. -/
def vacuumMaking (sw : Switch) (settled : Bool) : State :=
  ((running .load ready).onSequencer fun q =>
      { q with transport := .loading, phase := some .vacuum, phaseTimer := some 900, loadStage := .settled, seekOrigin := some .fresh })
    |>.onSensors fun n => ({ n with supplyVacuum := { n.supplyVacuum with debounced := true }
                                    takeupVacuum := { n.takeupVacuum with debounced := true } }).setSwitch sw
      { raw := true, debounced := false, settled := settled, timer := some 4 }

theorem meets_AcceptedSwitchesEndThePhases :
    (∀ sw ∈ [Switch.supplyVacuum, .takeupVacuum], ∀ settled ∈ [true, false],
      ((vacuumMaking sw settled).sensors.switch sw).timer = some 4 ∧ ((vacuumMaking sw settled).sensors.switch sw).debounced = false ∧
      (∀ other ∈ [Switch.supplyVacuum, .takeupVacuum], other ≠ sw → ((vacuumMaking sw settled).sensors.switch other).debounced = true) ∧
      (vacuumMaking sw settled).sequencer.phase = some .vacuum ∧ (vacuumMaking sw settled).sequencer.loadStage = .settled ∧
      (reactOnce (vacuumMaking sw settled)).isNone = true) ∧
    (losing .tapeInPath (running .unload releasing)).sensors.tapeInPath.timer = some 4 ∧
    (losing .tapeInPath (running .unload releasing)).releasing = true ∧
    (losing .tapeInPath (running .unload releasing)).intake.running = some 0 ∧
    (losing .tapeInPath (running .unload releasing)).intake.queue = [] ∧
    (losing .tapeInPath (running .unload releasing)).tracker.context = none ∧
    (reactOnce (losing .tapeInPath (running .unload releasing))).isNone = true := by
  decide +kernel

/-- A read is held at the upper port. -/
def heldRead : State := ready.onPath fun p => { p with upper := some { txn := .read 0x004000#24 1, stage := .held 8 } }

theorem meets_TimersExpire :
    heldRead.holding = true ∧ releasing.reporter.refreshTimer = some 10 := by
  decide +kernel

/-- The LOAD of slot 0 in a phase of LOADING. -/
def loadingIn (p : Phase) : State :=
  (running .load ready).onSequencer fun q => { q with transport := .loading, phase := some p, phaseTimer := some 2000 }

theorem meets_TimersExpire_phase :
    (phaseTimerIn .loading .vacuum (loadingIn .vacuum) = true ∧ (loadingIn .vacuum).vacuumMade = false ∧
      (loadingIn .vacuum).intake.running = some 0 ∧ (loadingIn .vacuum).signals = []) ∧
    (phaseTimerIn .loading .loops (loadingIn .loops) = true ∧ (loadingIn .loops).intake.running = some 0 ∧
      (loadingIn .loops).signals = []) ∧
    (phaseTimerIn .unloading .release (running .unload releasing) = true ∧ (running .unload releasing).intake.running = some 0 ∧
      (running .unload releasing).signals = []) := by
  decide +kernel

theorem meets_WriteFailureOpensRecovery :
    (stoppingWrite.record 0).state = .awaitCheck ∧ (stoppingWrite.record 0).attempts < stoppingWrite.loader.groupB.writeRetry ∧
    stoppingWrite.sequencer.fixed = none ∧ stoppingWrite.sequencer.recovery = none ∧ stoppingWrite.sequencer.transport = .stopping ∧
    stoppingWrite.tracker.context.isSome = true ∧ Quiet stoppingWrite ∧ RingWatched stoppingWrite ∧
    (stoppingWrite.record 0).checkTimer.isSome = true := by
  and_intros <;> first
    | decide +kernel
    | exact quiet_of _ (by decide +kernel)
    | exact calm_of _ (by decide +kernel)
    | exact ⟨by decide +kernel, by decide +kernel⟩

theorem meets_BusTransactionsArrive :
    busyPort.path.upper = none ∧ Quiet busyPort ∧ pastTop (.read 0xFFFFFC#24 2) = true ∧ pastTop (.write 0xFFFFFC#24 [fullWord 0]) = false ∧
    firstWordMatch 0x004000 busyPort = none := by
  and_intros <;> first
    | decide +kernel
    | exact quiet_of _ (by decide +kernel)
    | exact calm_of _ (by decide +kernel)
    | exact ⟨by decide +kernel, by decide +kernel⟩

theorem meets_FilledReadsAreRetried :
    (withRecord 3 (filledBlock 0) ready).path.upper = none ∧ Quiet (withRecord 3 (filledBlock 0) ready) ∧
    firstWordMatch 0x004000 (withRecord 3 (filledBlock 0) ready) = some 3 ∧
    3 ≠ (withRecord 3 (filledBlock 0) ready).tracker.recordCursor ∧ (withRecord 3 (filledBlock 0) ready).tracker.outOfTurn = false := by
  and_intros <;> first
    | decide +kernel
    | exact quiet_of _ (by decide +kernel)
    | exact calm_of _ (by decide +kernel)
    | exact ⟨by decide +kernel, by decide +kernel⟩

/-- Record 3 FILLED: with the flag set, and with the cursor at it. -/
theorem meets_FilledReadsAreRetried_again :
    ∀ x ∈ [(0, true), (3, false)], let s := (withRecord 3 (filledBlock 0) ready).onTracker fun k => { k with recordCursor := x.1, outOfTurn := x.2 }
      s.path.upper = none ∧ firstWordMatch 0x004000 s = some 3 ∧ (3 = s.tracker.recordCursor ∨ s.tracker.outOfTurn = true) ∧
      (reactOnce s).isNone = true := by
  decide +kernel

/-- Record 0 is ARMED at T, with a hold limit. -/
def armedAt (t : Int) (hold : Nat) : State :=
  (withRecord 0 { filledBlock 0 with state := .armed } (writingAt t (some 5600))).onLoader fun l =>
    { l with groupA := { l.groupA with holdLimit := hold } }

/-- T at the record point and at the end of the window release; one step before and after, the read is held, and without a
hold limit retried. -/
theorem meets_ArmedReadsAreGated :
    (∀ t ∈ [5600, 7400], releaseCondition (armedAt t 8) = true) ∧
    (∀ t ∈ [5599, 7401], releaseCondition (armedAt t 0) = false ∧ releaseCondition (armedAt t 1) = false) ∧
    (∀ x ∈ [(5600, 8), (5599, 1), (5599, 0)], (armedAt x.1 x.2).path.upper = none ∧ firstWordMatch 0x004000 (armedAt x.1 x.2) = some 0 ∧
      ((armedAt x.1 x.2).record 0).state = .armed ∧ (armedAt x.1 x.2).sequencer.recordPoint = some 5600 ∧
      0 < ((armedAt x.1 x.2).record 0).tapeLength ∧ (armedAt x.1 x.2).beyondEot = false ∧ ((armedAt x.1 x.2).record 1).state = .free ∧
      (reactOnce (armedAt x.1 x.2)).isNone = true) := by
  decide +kernel

/-- A pass-through transaction is at memory. -/
def passing (t : BusTxn) : State := ready.onPath fun p => { p with port := some .passThrough, upper := some { txn := t, stage := .atMemory } }

theorem meets_PassThroughReadIsAnswered :
    atMemory (passing (.read 0x004000#24 8)) = some (.read 0x004000#24 8) ∧ Quiet (passing (.read 0x004000#24 8)) := by
  and_intros <;> first
    | decide +kernel
    | exact quiet_of _ (by decide +kernel)
    | exact calm_of _ (by decide +kernel)
    | exact ⟨by decide +kernel, by decide +kernel⟩

/-- One own claim waits behind the transaction. -/
theorem meets_PassThroughReadIsAnswered_claim :
    let s := (passing (.read 0x004000#24 8)).onPath fun p => { p with claims := [{ access := .setup 48 7, urgent := false, passOver := 0 }] }
    atMemory s = some (.read 0x004000#24 8) ∧ s.path.claims.length = 1 ∧ (reactOnce s).isNone = true := by
  decide +kernel

/-- The first and the last ring word that is no state code; the setup commit word, watched. -/
theorem meets_PassThroughWriteIsAnswered :
    ∀ a ∈ [(0x000100#24, 0, true), (0x0001FC#24, 63, true), (0x0000FC#24, 0, false)],
      atMemory (passing (.write a.1 [fullWord 5])) = some (.write a.1 [fullWord 5]) ∧
      (reactOnce (passing (.write a.1 [fullWord 5]))).isNone = true ∧
      (a.2.2 = true → a.1.toNat = (passing (.write a.1 [fullWord 5])).loader.groupA.ringBase + 4 * a.2.1 ∧ a.2.1 % 4 ≠ 2) ∧
      (classify (passing (.write a.1 [fullWord 5])).loader.groupA true a.1.toNat).isSome = true := by
  decide +kernel

theorem meets_DiscardedAnswersChangeNothing :
    ∀ a ∈ [OwnAccess.fetch 0 none, .charact 0 8, .setup 0 8, .sweep 11, .report 0 []],
      (atPort a true ready).path.port = some (.own a 0x100 true) ∧ (reactOnce (atPort a true ready)).isNone = true := by
  decide +kernel

/-- CRUISE with the head of the stop chain at memory. -/
def fetching : State := atPort (.fetch 64 (some .stop)) false (moving .running .forward .write 3072 .cruise (threaded 5))

/-- The words of a segment of 16 samples with LAST. -/
def segmentWords : Vector Word 8 := #v[0x8010FF40#32, 0, 0, 0, 0, 0, 0, 0]

/-- A header whose heads stand from the set's end to the store's end. -/
def headerWords : Vector Word 8 := #v[0x00000601#32, 32#32, 40#32, 48#32, 56#32, 64#32, 12280#32, 7#32]

/-- A characterization awaits its header. -/
def headerAwaited : State := atPort (.charact 0 8) false ((threaded 5).onGenerator fun g => { g with charact := some (newCharact 0 (some 2)) })

theorem meets_GeneratorReadsAreAnswered :
    fetching.generator.mode ≠ .hold ∧ fetchedOk (segmentOf segmentWords[0] segmentWords[1]) fetching.loader.groupA.storeSize = true ∧
    Quiet fetching := by
  and_intros <;> first
    | decide +kernel
    | exact quiet_of _ (by decide +kernel)
    | exact calm_of _ (by decide +kernel)
    | exact ⟨by decide +kernel, by decide +kernel⟩

theorem meets_GeneratorReadsAreAnswered_header :
    headerAwaited.generator.charact = some (newCharact 0 (some 2)) ∧ formatOk headerWords[0] = true ∧
    (∀ j : Fin 6, placeOk (headerWords[j.val + 1]).toNat headerAwaited.loader.groupA.storeSize = true) ∧ Quiet headerAwaited := by
  and_intros <;> first
    | decide +kernel
    | exact quiet_of _ (by decide +kernel)
    | exact calm_of _ (by decide +kernel)
    | exact ⟨by decide +kernel, by decide +kernel⟩

/-- The group C read of a commit of 2 is at memory. -/
def groupCAwaited : State :=
  atPort (.setup 48 7) false (ready.onLoader fun l =>
    { l with activity := .readingC, commit := some { configure := false, awaitingSweep := false, groupCDue := false } })

/-- A sweep read is at memory. -/
def sweeping (k : Nat) : State := atPort (.sweep k) false (ready.onPath fun p => { p with sweep := some k })

/-- A sweep read is at memory under a map that puts the ring above the slots. -/
def sweepingHigh (k : Nat) : State :=
  (sweeping k).onLoader fun l => { l with groupA := { l.groupA with ringBase := 0x300 } }

/-- The twelve reads in address order, the ring below the slots and above them (R172). -/
theorem test_sweepReadsInAddressOrder :
    (List.range 12).map (fun k => accessAddr GroupA.default (.sweep k)) =
      [0x100, 0x120, 0x140, 0x160, 0x180, 0x1A0, 0x1C0, 0x1E0, 0x200, 0x220, 0x240, 0x260] ∧
    (List.range 12).map (fun k => accessAddr (sweepingHigh 0).loader.groupA (.sweep k)) =
      [0x200, 0x220, 0x240, 0x260, 0x300, 0x320, 0x340, 0x360, 0x380, 0x3A0, 0x3C0, 0x3E0] := by
  decide +kernel

/-- With the slots below the ring the first read fills slot words 0 to 7, the fifth ring words 0 to 7 (R172). -/
theorem test_sweepFillsTheLowerWindowFirst :
    (∀ s : State, (setSwept (sweepPiece (sweepingHigh 0).loader.groupA 0) (Vector.replicate 8 7#32) s).path.slots =
      setEight s.path.slots 0 (Vector.replicate 8 7#32)) ∧
    (∀ s : State, (setSwept (sweepPiece (sweepingHigh 4).loader.groupA 4) (Vector.replicate 8 7#32) s).path.descriptors =
      setEight s.path.descriptors 0 (Vector.replicate 8 7#32)) :=
  ⟨fun _ => rfl, fun _ => rfl⟩

/-- A report access is at memory. -/
def reporting (n : RecordName) (second : Bool) : State :=
  atPort (.report 0 []) false (ready.onReporter fun r => { r with writing := some { name := n, second := second } })

theorem meets_GroupCReadPublishes :
    groupCAwaited.loader.activity = .readingC ∧ groupCAwaited.loader.words = [] ∧ groupCAwaited.loader.waitingB = false ∧
    groupCAwaited.loader.waitingCommit = none ∧ groupCAwaited.loader.commit.isSome = true ∧ Quiet groupCAwaited := by
  and_intros <;> first
    | decide +kernel
    | exact quiet_of _ (by decide +kernel)
    | exact calm_of _ (by decide +kernel)
    | exact ⟨by decide +kernel, by decide +kernel⟩

/-- The second read of group A is at memory, the first eight words being the defaults with one window moved. -/
def groupAAwaited (ringBase : Word) (s : State) : State :=
  atPort (.setup 8 1) false (s.onLoader fun l =>
    { l with activity := .readingA, commit := some { configure := true, awaitingSweep := false, groupCDue := true }
             words := [ringBase, 0x200#32, 0x400#32, 0x1000#32, 12288#32, 0x4000#32, 245760#32, 8#32] })

theorem valid_default : GroupAValid GroupA.default := by
  constructor <;> decide +kernel

/-- UNTHREADED and threaded; a ring at 0x000140 overlaps nothing, at 0x000200 the slots. -/
theorem meets_GroupAReadPublishes :
    (∀ s ∈ [groupAAwaited 0x100#32 State.reset, groupAAwaited 0x100#32 (threaded 5)], s.loader.words.length = 8 ∧
      s.path.port = some (.own (.setup 8 1) 0x100 false) ∧ s.loader.waitingB = false ∧ s.loader.waitingCommit = none ∧
      (reactOnce s).isNone = true) ∧
    (groupAAwaited 0x100#32 State.reset).sequencer.transport = .unthreaded ∧ (groupAAwaited 0x100#32 (threaded 5)).sequencer.transport ≠ .unthreaded ∧
    ¬(windowsOf { GroupA.default with ringBase := 0x200 }).Pairwise fun a b => a.2.1 + a.2.2 ≤ b.2.1 ∨ b.2.1 + b.2.2 ≤ a.2.1 := by
  decide +kernel

/-- The last read of group B is at memory in VACUUM; 24 words of the defaults' group are read. -/
def groupBAwaited : State :=
  atPort (.setup 40 6) false ((loadingIn .vacuum).onSequencer (fun q => { q with loadStage := .reading }) |>.onLoader fun l =>
    { l with activity := .readingB, words := List.replicate 24 0 })

/-- The built-in profile named, and a set at 64. -/
theorem meets_GroupBReadPublishes :
    (groupBAwaited.path.port = some (.own (.setup 40 6) 0x100 false) ∧ groupBAwaited.loader.words.length = 24 ∧
      groupBAwaited.sequencer.loadStage = .reading ∧ groupBAwaited.generator.charact = none ∧ groupBAwaited.generator.loadSet = none ∧
      groupBAwaited.vacuumMade = false ∧ Sys2Proof.Machine.fetching groupBAwaited = false ∧ (reactOnce groupBAwaited).isNone = true) ∧
    (groupBOf (checkGroupB (List.replicate 29 0 ++ [0xFFFFFFFF#32]))).profileSet = 4294967295 ∧
    (groupBOf (checkGroupB (List.replicate 29 0 ++ [64#32]))).profileSet = 64 := by
  decide +kernel

theorem meets_SweepReadsReplaceShadows :
    ∀ k ∈ [0, 7, 8, 10], (sweeping k).path.sweep = some k ∧ (sweeping k).path.port = some (.own (.sweep k) 0x100 false) ∧
      (reactOnce (sweeping k)).isNone = true := by
  decide +kernel

/-- The slots below the ring: the last slot read, the first and last ring reads before the twelfth. -/
theorem meets_SweepReadsReplaceShadows_slotsLower :
    (sweepingHigh 0).loader.groupA.slotBase + 128 ≤ (sweepingHigh 0).loader.groupA.ringBase ∧
    ∀ k ∈ [0, 3, 4, 10], (sweepingHigh k).path.sweep = some k ∧
      (sweepingHigh k).path.port = some (.own (.sweep k) 0x100 false) ∧ (reactOnce (sweepingHigh k)).isNone = true := by
  decide +kernel

/-- The twelfth read is at memory; an entry of 360 bytes is valid, one of length 0 is not. -/
theorem meets_SweepEndRebuildsTheTable :
    (sweeping 11).path.sweep = some 11 ∧ (sweeping 11).sequencer.transport = .unthreaded ∧ (sweeping 11).sequencer.phase = none ∧
    (sweeping 11).signals = [] ∧ (sweeping 11).generator.loadSet = none ∧ (sweeping 11).intake.queue = [] ∧
    entryValid 0 360#32 (sweeping 11).loader.groupA.bufferSize = true ∧ entryValid 0 0 (sweeping 11).loader.groupA.bufferSize = false := by
  decide +kernel

theorem meets_ReportRecordsAreWritten_answer :
    Quiet (reporting .identity false) ∧ Quiet (reporting .status true) ∧ Quiet (reporting .status false) ∧
    (reporting .status true).path.port = some (.own (.report 0 []) 0x100 false) := by
  and_intros <;> first
    | decide +kernel
    | exact quiet_of _ (by decide +kernel)
    | exact calm_of _ (by decide +kernel)
    | exact ⟨by decide +kernel, by decide +kernel⟩

theorem meets_ReportRecordsAreWritten :
    (recordWriteDue (ready.onReporter fun r => { r with configured := true, dirty := [.logHeader, .log 7] })).isSome = true := by
  decide +kernel

/-- A built-in selection is pending in STOPPED. -/
def selected : State := (threaded 5).onGenerator fun g => { g with pendingSet := some { source := none, slot := 2 } }

theorem meets_ProfileSelectionsAreTakenAndApplied_builtIn :
    selected.generator.pendingSet = some { source := none, slot := 2 } ∧ charactOccasion selected = true ∧
    selected.sequencer.phase = none ∧ Quiet selected := by
  and_intros <;> first
    | decide +kernel
    | exact quiet_of _ (by decide +kernel)
    | exact calm_of _ (by decide +kernel)
    | exact ⟨by decide +kernel, by decide +kernel⟩

/-- The record at the cursor, filled to the end of the buffer. -/
theorem meets_FilledWritesAreTakenOrIgnored :
    RingWatched ready ∧ (ready.record 0).state = .free ∧
    entryValid (wordOfNat (245760 - 360)) 360#32 ready.loader.groupA.bufferSize = true ∧ ready.sequencer.fillWait = false ∧
    (withDescriptorWord 0 (wordOfNat (245760 - 360)) (withDescriptorWord 1 360#32 ready)).descriptorWord 0 1 = 360#32 ∧
    Quiet (withDescriptorWord 0 (wordOfNat (245760 - 360)) (withDescriptorWord 1 360#32 ready)) := by
  and_intros <;> first
    | decide +kernel
    | exact quiet_of _ (by decide +kernel)
    | exact calm_of _ (by decide +kernel)
    | exact ⟨by decide +kernel, by decide +kernel⟩

/-- A DATA entry of length 0; the smallest code that is none. -/
theorem meets_FilledWritesAreTakenOrIgnored_invalid :
    RingWatched ready ∧ Quiet ready ∧ (ready.record 0).state = .free ∧
    entryValid (ready.descriptorWord 0 0) (ready.descriptorWord 0 1) ready.loader.groupA.bufferSize = false ∧ 6 < (7#32).toNat := by
  and_intros <;> first
    | decide +kernel
    | exact quiet_of _ (by decide +kernel)
    | exact calm_of _ (by decide +kernel)
    | exact ⟨by decide +kernel, by decide +kernel⟩

theorem meets_EmptyFreesTheRecord :
    ∀ x ∈ [BlockState.filled, .verified, .failed, .received, .unreadable],
      ((withRecord 0 { filledBlock 0 with state := x } ready).record 0).state = x ∧
      (withRecord 0 { filledBlock 0 with state := x } ready).sequencer.freeWait = false ∧
      (withRecord 0 { filledBlock 0 with state := x } ready).path.sweep = none ∧
      (reactOnce (withRecord 0 { filledBlock 0 with state := x } ready)).isNone = true := by
  decide +kernel

/-- A WRITE with record 0 ARMED: STARTING with nothing listed, RUNNING with a block listed, and STARTING with the start held
back. -/
def armedOrder (x : Transport) (m : GenMode) (decisions : List (Fin 16 × Int)) : State :=
  withContext true 2 1 (withRecord 0 { filledBlock 0 with state := .armed } (running .write
    ((moving x .forward .write 1000 m (threaded 5000)).onSequencer fun q =>
      { q with writeMode := true, recordPoint := some 5600, decisions := decisions })))

theorem sound_armed :
    Sound (armedOrder .starting .accel []) ∧ Sound (armedOrder .running .cruise [(9, 5300)]) ∧ Sound (armedOrder .starting .hold []) := by
  refine ⟨?_, ?_, ?_⟩ <;> constructor <;> first
    | decide +kernel
    | exact within_of _ (by decide +kernel)
    | exact ⟨by decide +kernel, by decide +kernel⟩

theorem meets_EmptyRetractsTheArmedRecord :
    ∀ x ∈ [(Transport.starting, GenMode.accel, []), (.running, .cruise, [((9 : Fin 16), (5300 : Int))]),
        (.starting, .hold, [])],
      ((armedOrder x.1 x.2.1 x.2.2).record 0).state = .armed ∧ (armedOrder x.1 x.2.1 x.2.2).tracker.context.isSome = true ∧
      (armedOrder x.1 x.2.1 x.2.2).path.sweep = none ∧ (armedOrder x.1 x.2.1 x.2.2).path.configured = true ∧
      (armedOrder x.1 x.2.1 x.2.2).runningOrder = some .write ∧ (armedOrder x.1 x.2.1 x.2.2).sequencer.fixed = none ∧
      (armedOrder x.1 x.2.1 x.2.2).sequencer.recovery = none ∧ (armedOrder x.1 x.2.1 x.2.2).sequencer.fillHeld = false ∧
      (armedOrder x.1 x.2.1 x.2.2).sequencer.phase = none ∧ (armedOrder x.1 x.2.1 x.2.2).sequencer.purpose.isSome = true ∧
      (reactOnce (armedOrder x.1 x.2.1 x.2.2)).isNone = true := by
  decide +kernel

theorem meets_RecordedOkVerifiesTheBlock :
    RingWatched stoppingWrite ∧ (stoppingWrite.record 0).state = .awaitCheck ∧ stoppingWrite.intake.running.isSome = true ∧
    stoppingWrite.sequencer.fixed = none ∧ stoppingWrite.sequencer.transport ≠ .stopped ∧ Quiet stoppingWrite := by
  and_intros <;> first
    | decide +kernel
    | exact quiet_of _ (by decide +kernel)
    | exact calm_of _ (by decide +kernel)
    | exact ⟨by decide +kernel, by decide +kernel⟩

/-- A reading order runs with record 0 EXPECTING, its attempts one below the limit. -/
def readingOrder (o : OrderCode) : State :=
  withContext false 2 0 (withRecord 0 { BlockRecord.blank with state := .expecting, slot := some 0, attempts := 4 }
    (running o (moving .running o.dir .read 3072 .cruise (threaded 3000))))

theorem sound_readFwd : Sound (readingOrder .readFwd) := by
  constructor <;> first
    | decide +kernel
    | exact within_of _ (by decide +kernel)
    | exact ⟨by decide +kernel, by decide +kernel⟩

theorem sound_readBwd : Sound (readingOrder .readBwd) := by
  constructor <;> first
    | decide +kernel
    | exact within_of _ (by decide +kernel)
    | exact ⟨by decide +kernel, by decide +kernel⟩

/-- The hypotheses of RECEIVED, RECEIVED_MARK and RECEIVED_ERROR; the state is sound, as the two theorems before say. -/
theorem meets_ReceiptsAreTaken :
    ∀ o ∈ [OrderCode.readFwd, .readBwd], (readingOrder o).runningOrder = some o ∧
      ((readingOrder o).record (readingOrder o).tracker.receiveCursor).state = .expecting ∧ (readingOrder o).sequencer.fixed = none ∧
      (readingOrder o).sequencer.recovery = none ∧ (readingOrder o).path.sweep = none ∧ (readingOrder o).path.configured = true ∧
      ((readingOrder o).record ((readingOrder o).tracker.receiveCursor + 1)).state = .free ∧
      (readingOrder o).sequencer.transport = .running ∧ (readingOrder o).sequencer.purpose = some .read ∧
      (readingOrder o).generator.mode = .cruise ∧
      ((readingOrder o).record 0).attempts < (readingOrder o).loader.groupB.readRetry ∧
      (reactOnce (readingOrder o)).isNone = true := by
  decide +kernel

/-- An order of n blocks runs with record 0 EXPECTING and the next record in a state. -/
def receiving (o : OrderCode) (n : Nat) (next : BlockState) : State :=
  withContext false n 0 (withRecord 1 { BlockRecord.blank with state := next } (readingOrder o))

theorem sound_receiving : Sound (receiving .readFwd 1 .free) ∧ Sound (receiving .readBwd 2 .received) ∧ Sound (receiving .spaceBwd 1 .free) := by
  refine ⟨?_, ?_, ?_⟩ <;> constructor <;> first
    | decide +kernel
    | exact within_of _ (by decide +kernel)
    | exact ⟨by decide +kernel, by decide +kernel⟩

/-- A READ at its n-th block and before a record that is not FREE; a SPACE to the next mark, before and at its n-th block. -/
theorem meets_ReceiptsAreTaken_ends :
    ∀ s ∈ [receiving .readFwd 1 .free, receiving .readBwd 2 .received, receiving .spaceFwd 0 .free, receiving .spaceFwd 2 .free,
        receiving .spaceBwd 1 .free],
      s.path.configured = true ∧ s.path.sweep = none ∧ (s.record s.tracker.receiveCursor).state = .expecting ∧ s.sequencer.fixed = none ∧
      s.sequencer.recovery = none ∧ s.sequencer.transport = .running ∧ s.sequencer.purpose = some .read ∧ s.generator.mode = .cruise ∧
      (s.runningOrder.any fun o => o.isRead || o.isSpace) = true ∧ (s.tracker.context.any fun c => !c.write) = true ∧
      (reactOnce s).isNone = true := by
  decide +kernel

/-- An order runs in slot 0, and slot 1 has the argument 16. -/
def slotOneAsks : State := withSlotWord 4 16#32 (running .rewind (threaded 100) |>.onSequencer fun q => { q with held := true })

/-- A suspended queue. -/
def suspended : State := withSlotWord 0 1#32 ((threaded 100).onIntake fun k => { k with suspended := true })

theorem meets_QueuedCommitWaits :
    SlotFree 1 slotOneAsks ∧ slotOneAsks.intake.running = some 0 ∧
    (argumentOf .write (slotOneAsks.slotWord 1 0) (slotOneAsks.slotWord 1 1) slotOneAsks.loader.groupA.storeSize).accepted = true ∧
    SlotFree 0 suspended ∧ suspended.intake.suspended = true ∧
    (argumentOf .erase (suspended.slotWord 0 0) (suspended.slotWord 0 1) suspended.loader.groupA.storeSize).accepted = true ∧ Quiet suspended := by
  and_intros <;> first
    | decide +kernel
    | exact quiet_of _ (by decide +kernel)
    | exact calm_of _ (by decide +kernel)
    | exact ⟨by decide +kernel, by decide +kernel⟩

theorem meets_CommitsThatAreNotTaken_busy :
    stoppingWrite.path.configured = true ∧ (stoppingWrite.intake.results[(0 : Fin 8)]).outcome.busy = true ∧ Quiet stoppingWrite := by
  and_intros <;> first
    | decide +kernel
    | exact quiet_of _ (by decide +kernel)
    | exact calm_of _ (by decide +kernel)
    | exact ⟨by decide +kernel, by decide +kernel⟩

/-- UNTHREADED with the door CLOSED and tape in the path. -/
def loadable : State :=
  ready.onSensors fun n => { n with door := { n.door with debounced := true }, tapeInPath := { n.tapeInPath with debounced := true } }

theorem meets_LoadRewindAndUnloadBegin_load :
    SlotFree 0 loadable ∧ loadable.intake.queue = [] ∧ loadable.intake.running = none ∧ loadable.intake.suspended = false ∧
    loadable.path.sweep = none ∧ Quiet loadable ∧ loadable.sequencer.transport = .unthreaded ∧
    loadable.sensors.door.debounced = true ∧ loadable.sensors.tapeInPath.debounced = true ∧ loadable.loader.activity = .idle := by
  and_intros <;> first
    | decide +kernel
    | exact quiet_of _ (by decide +kernel)
    | exact calm_of _ (by decide +kernel)
    | exact ⟨by decide +kernel, by decide +kernel⟩

/-- STOPPED at T with the ring in place, A at 5000, argument 2 in slot 0 and record 0 FILLED. -/
def writable (t : Int) : State :=
  withSlotWord 0 2#32 (withRecord 0 (filledBlock 0) ((threaded t).onSequencer (fun q => { q with anchor := 5000, gapKind := .nominal })
    |>.onSensors fun n => { n with ring := { n.ring with debounced := true } }))

theorem readyToMove_far :
    ReadyToMove (threaded 60001) := by
  constructor <;> first
    | decide +kernel
    | exact quiet_of _ (by decide +kernel)
    | exact clear_of _ (by decide +kernel)
    | (constructor <;> decide +kernel)

theorem readyToMove_write :
    ReadyToMove (writable 5398) := by
  constructor <;> first
    | decide +kernel
    | exact quiet_of _ (by decide +kernel)
    | exact clear_of _ (by decide +kernel)
    | (constructor <;> decide +kernel)

theorem readyToMove_erase :
    ReadyToMove (writable 4798) := by
  constructor <;> first
    | decide +kernel
    | exact quiet_of _ (by decide +kernel)
    | exact clear_of _ (by decide +kernel)
    | (constructor <;> decide +kernel)

theorem readyToMove_read :
    ReadyToMove (withSlotWord 0 1#32 (threaded 1)) := by
  constructor <;> first
    | decide +kernel
    | exact quiet_of _ (by decide +kernel)
    | exact clear_of _ (by decide +kernel)
    | (constructor <;> decide +kernel)

theorem meets_LoadRewindAndUnloadBegin_rewind :
    ReadyToMove (threaded 60001) ∧ SlotFree 0 (threaded 60001) ∧
    ((threaded 60001).loader.groupB.approachDistance : Int) < (threaded 60001).servos.t ∧ (threaded 60001).generator.mode = .hold ∧
    (threaded 60001).generator.charact = none := by
  and_intros <;> first
    | exact readyToMove_far
    | decide +kernel
    | exact ⟨by decide +kernel, by decide +kernel⟩

/-- T at the approach point 5600 − 202. -/
theorem meets_WriteAndEraseBegin_write :
    ReadyToMove (writable 5398) ∧ SlotFree 0 (writable 5398) ∧ (writable 5398).sensors.ring.debounced = true ∧
    (writable 5398).beyondEot = false ∧ 1 ≤ ((writable 5398).slotWord 0 0).toNat ∧ ((writable 5398).record 0).state = .filled ∧
    (writable 5398).servos.t = (writable 5398).sequencer.anchor + (writable 5398).gapAfterAnchor -
      ((writable 5398).distance .start + (writable 5398).loader.groupB.margin) := by
  and_intros <;> first
    | exact readyToMove_write
    | decide +kernel
    | exact ⟨by decide +kernel, by decide +kernel⟩

/-- T at the approach point 5000 − 202. -/
theorem meets_WriteAndEraseBegin_erase :
    ReadyToMove (writable 4798) ∧ SlotFree 0 (writable 4798) ∧ (writable 4798).sensors.ring.debounced = true ∧
    (writable 4798).beyondEot = false ∧ 1 ≤ ((writable 4798).slotWord 0 0).toNat ∧
    (writable 4798).servos.t = (writable 4798).sequencer.anchor - ((writable 4798).distance .start + (writable 4798).loader.groupB.margin) ∧
    (writable 4798).servos.t < (writable 4798).sequencer.anchor + (2 : Nat) - (writable 4798).distance .stop := by
  and_intros <;> first
    | exact readyToMove_erase
    | decide +kernel
    | exact ⟨by decide +kernel, by decide +kernel⟩

theorem meets_ReadsAndSpacesBegin :
    ReadyToMove (withSlotWord 0 1#32 (threaded 1)) ∧ SlotFree 0 (withSlotWord 0 1#32 (threaded 1)) ∧
    (withSlotWord 0 1#32 (threaded 1)).beyondEot = false ∧ 0 < (withSlotWord 0 1#32 (threaded 1)).servos.t ∧
    1 ≤ ((withSlotWord 0 1#32 (threaded 1)).slotWord 0 0).toNat ∧ ((withSlotWord 0 1#32 (threaded 1)).record 0).state = .free := by
  and_intros <;> first
    | exact readyToMove_read
    | decide +kernel
    | exact ⟨by decide +kernel, by decide +kernel⟩

theorem meets_HaltAbortsTheOrder :
    SlotFree 1 (readingOrder .readFwd) ∧ (readingOrder .readFwd).intake.running = some 0 ∧
    (readingOrder .readFwd).sequencer.transport = .running ∧ (readingOrder .readFwd).sequencer.purpose = some .read ∧
    (readingOrder .readFwd).generator.mode = .cruise ∧ (readingOrder .readFwd).signals = [] := by
  and_intros <;> first
    | decide +kernel
    | exact quiet_of _ (by decide +kernel)
    | exact calm_of _ (by decide +kernel)
    | exact ⟨by decide +kernel, by decide +kernel⟩

theorem meets_FlushAndResume :
    SlotFree 1 suspended ∧ suspended.intake.queue = [] ∧ suspended.intake.running = none ∧ Quiet suspended := by
  and_intros <;> first
    | decide +kernel
    | exact quiet_of _ (by decide +kernel)
    | exact calm_of _ (by decide +kernel)
    | exact ⟨by decide +kernel, by decide +kernel⟩

/-- A suspended queue with a WRITE of slot 3 in it. -/
def queued (s : State) : State :=
  s.onIntake fun k =>
    { k with queue := [3], suspended := true, taken := k.taken.set 3 { TakenOrder.reset with code := OrderCode.write.code.toNat }
             results := k.results.set 3 { OrderResult.reset with code := OrderCode.write.code.toNat, outcome := .queued } }

/-- FLUSH and RESUME with an order queued, in a motion and UNTHREADED. -/
theorem meets_FlushAndResume_queued :
    ∀ s ∈ [queued idleStop, queued ready], s.path.configured = true ∧ (s.intake.results[(1 : Fin 8)]).outcome.busy = false ∧
      s.intake.queue = [3] ∧ s.intake.suspended = true ∧ s.intake.running = none ∧ s.path.sweep = none ∧
      orderOfCode (s.intake.taken[(3 : Fin 8)]).code = some .write ∧ (reactOnce s).isNone = true := by
  decide +kernel

theorem meets_FlushAndResume_states :
    (queued idleStop).sequencer.transport.moves = true ∧ (queued ready).sequencer.transport = .unthreaded ∧
    (queued ready).sequencer.phase = none ∧ OrderCode.write.ofSequencer = true ∧ (queued ready).tracker.context = none ∧
    NoOrderState (queued idleStop) ∧ NoOrderState (queued ready) := by
  and_intros <;> first
    | exact clear_of _ (by decide +kernel)
    | decide +kernel

/-- A READ_FWD handed over while the tape still stops beyond the EOT limit waits for STOPPED with its outcome open. -/
theorem test_heldReadKeepsItsOutcomeOpen :
    (after (.resume 1 9) ((running .readFwd (moving .stopping .forward .read 1000 .decel (threaded 120008))).onIntake (fun k =>
      { k with queue := [0], suspended := true, running := none }) |>.onSequencer fun q => { q with eot := some 7 })).sequencer.fixed = none := by
  decide +kernel

/-- The hypotheses of ACK with an empty set and of CEILING at 0 and at 9. -/
theorem meets_AckAndCeiling :
    SlotFree 3 ready ∧ (ready.slotWord 3 0).toNat % 512 = 0 ∧
    ready.reporter.notice = noticeLevel ready.reporter.pendingClasses ready.loader.groupC.mask ready.reporter.ceiling ∧
    min ((withSlotWord 12 9#32 ready).slotWord 3 0).toNat 9 = 9 ∧ min (ready.slotWord 3 0).toNat 9 = 0 := by
  and_intros <;> first
    | decide +kernel
    | exact quiet_of _ (by decide +kernel)
    | exact calm_of _ (by decide +kernel)
    | exact ⟨by decide +kernel, by decide +kernel⟩

theorem meets_ProfileSelectionsAreTakenAndApplied :
    SlotFree 3 (withSlotWord 13 12256#32 selected) ∧ (withSlotWord 13 12256#32 selected).intake.running ≠ some 3 ∧
    (argumentOf .profileSelect 0 12256#32 (withSlotWord 13 12256#32 selected).loader.groupA.storeSize).accepted = true ∧
    (withSlotWord 13 12256#32 selected).slotWord 3 1 = 12256#32 ∧ Quiet (withSlotWord 13 12256#32 selected) := by
  and_intros <;> first
    | decide +kernel
    | exact quiet_of _ (by decide +kernel)
    | exact calm_of _ (by decide +kernel)
    | exact ⟨by decide +kernel, by decide +kernel⟩

theorem meets_SoftResetClearsTheOrders :
    SlotFree 0 (threaded 5) ∧ (threaded 5).sequencer.transport = .stopped ∧ (threaded 5).sequencer.phase = none ∧ (threaded 5).signals = [] ∧
    (threaded 5).intake.running = none ∧ (threaded 5).generator.pendingSet = none ∧ (threaded 5).generator.charact = none := by
  and_intros <;> first
    | decide +kernel
    | exact quiet_of _ (by decide +kernel)
    | exact calm_of _ (by decide +kernel)
    | exact ⟨by decide +kernel, by decide +kernel⟩

/-- SOFT_RESET with an order queued; a setup commit of UNTHREADED with an order queued. -/
theorem meets_SoftResetAndSetupCommits_queued :
    (SlotFree 0 (queued (threaded 5)) ∧ (queued (threaded 5)).sequencer.transport = .stopped ∧ (queued (threaded 5)).intake.queue = [3] ∧
      (queued (threaded 5)).generator.loadSet = none ∧ (queued (threaded 5)).intake.running = none) ∧
    (Quiet (queued ready) ∧ (queued ready).sequencer.transport = .unthreaded ∧ (queued ready).intake.queue ≠ [] ∧
      (queued ready).loader.activity = .idle) := by
  and_intros <;> first
    | decide +kernel
    | exact quiet_of _ (by decide +kernel)
    | exact calm_of _ (by decide +kernel)
    | exact ⟨by decide +kernel, by decide +kernel⟩

theorem meets_CommitsThatAreNotTaken_unknown :
    SlotFree 0 ready ∧ definedOrderCode 0 = false ∧ definedOrderCode 10 = false ∧ definedOrderCode 15 = false ∧ definedOrderCode 23 = false := by
  and_intros <;> first
    | decide +kernel
    | exact quiet_of _ (by decide +kernel)
    | exact calm_of _ (by decide +kernel)
    | exact ⟨by decide +kernel, by decide +kernel⟩

theorem meets_SetupCommits :
    Quiet State.reset ∧ State.reset.loader.activity = .idle ∧ State.reset.sequencer.transport = .unthreaded ∧ State.reset.intake.queue = [] ∧
    Quiet (threaded 5) ∧ (threaded 5).loader.activity = .idle ∧ (threaded 5).sequencer.transport ≠ .unthreaded ∧
    (0#32 ≠ 1#32 ∧ 0#32 ≠ 2#32) ∧ 3#32 ≠ 2#32 := by
  and_intros <;> first
    | decide +kernel
    | exact quiet_of _ (by decide +kernel)
    | exact calm_of _ (by decide +kernel)
    | exact ⟨by decide +kernel, by decide +kernel⟩


end Sys2Proof.Tests
end

section
/-! Every command keeps the machine sound, the queue of waiting commands as it was; so every step does. From this the tape
length of R4 is read off. -/

namespace Sys2Proof.Machine

variable {pq : List Instr} {s : State}

/-! ### Cold reset -/

theorem commandWithin_zero : commandWithin 0 := ⟨by decide, by decide⟩

theorem sound_reset : Sound State.reset where
  v := by decide
  capstan := commandWithin_zero
  supply := commandWithin_zero
  takeup := commandWithin_zero
  notice := by decide
  dirty := by decide
  stored := by decide
  columnS := ⟨by decide, by decide⟩
  columnT := ⟨by decide, by decide⟩
  taken := by decide
  interval := by decide
  conversions := by decide
  tape := tape_reset
  drive := by decide
  brake := by decide
  refresh := by decide
  still := by decide

/-- What COLD_RESET leaves of the state before it: the input levels, the free count and the queue. -/
def coldState (s : State) : State :=
  { State.reset with sensors := coldSensors s.sensors, freeCount := s.freeCount, pending := s.pending }

theorem exec_coldReset (s : State) : exec .coldReset s = .next (coldState s) := rfl

theorem kept_coldState (h : Kept pq s) : Kept pq (coldState s) :=
  { sound_reset with queue := h.queue }

/-! ### Commands -/

/-- A command answers a next state that is sound, the same commands waiting. -/
def CommandKeeps (pq : List Instr) (c : Instr) (s : State) : Prop := ∃ t, exec c s = .next t ∧ Kept pq t

theorem kept_exec (c : Instr) (h : Kept pq s) : CommandKeeps pq c s := by
  cases c with
  | coldReset => exact ⟨_, exec_coldReset s, kept_coldState h⟩
  | servoSample takeupFirst => exact ⟨_, rfl, sound_servoSample takeupFirst h⟩
  | columnSensorConversion supplyLevel takeupLevel => exact ⟨_, rfl, sound_convert supplyLevel takeupLevel h⟩
  | trackingFault => exact ⟨_, rfl, sound_doIf _ (fun _ => sound_servoSample _) h⟩
  | columnFault column => exact ⟨_, rfl, sound_doIf _ (fun _ => sound_servoSample _) h⟩
  | settleCountComplete => exact ⟨_, rfl, sound_doIf _ (fun _ => sound_servoSample _) h⟩
  | segmentDurationExpiry => exact ⟨_, rfl, sound_doIf _ (fun _ => sound_servoSample _) h⟩
  | lateCountLimit => exact ⟨_, rfl, sound_doIf _ (fun _ => sound_servoSample _) h⟩
  | encoderCount dir => exact ⟨_, rfl, sound_encoderCount dir h⟩
  | markerQualifies m dir => exact ⟨_, rfl, sound_doIf _ (fun _ => sound_encoderCount dir) h⟩
  | seekLimitExceeded dir => exact ⟨_, rfl, sound_doIf _ (fun _ => sound_encoderCount dir) h⟩
  | markerSensorActive m => exact ⟨_, rfl, sound_markerActive m h⟩
  | markerSensorInactive m => exact ⟨_, rfl, sound_markerInactive m h⟩
  | indexPulse reel => exact ⟨_, rfl, sound_indexPulse reel h⟩
  | switchRawChange sw level => exact ⟨_, rfl, sound_rawChange sw level h⟩
  | stabilityTimerExpiry sw => exact ⟨_, rfl, sound_stabilityExpiry sw h⟩
  | checkTimerExpiry index => exact ⟨_, rfl, sound_checkExpiry index h⟩
  | holdTimerExpiry => exact ⟨_, rfl, sound_retryHeld h⟩
  | vacuumTimeout => exact ⟨_, rfl, sound_doIf _ (fun _ => sound_vacuumExpiry) h⟩
  | loopTimeout => exact ⟨_, rfl, sound_doIf _ (fun _ k => sound_finishEvent (sound_failLoad _ k)) h⟩
  | unloadTimeout => exact ⟨_, rfl, sound_doIf _ (fun _ k => sound_finishEvent (sound_failOrder _ (sound_setTransport _ _ k))) h⟩
  | refreshTimerExpiry => exact ⟨_, rfl, sound_refreshExpiry h⟩
  | deckBusRead addr count => exact ⟨_, rfl, sound_busTransaction (.read addr count) h⟩
  | deckBusWrite addr words => exact ⟨_, rfl, sound_busTransaction (.write addr words) h⟩
  | passThroughReadAnswer answer next => exact ⟨_, rfl, sound_passReadAnswered answer next h⟩
  | passThroughWriteAnswer done next => exact ⟨_, rfl, sound_passWriteAnswered done next h⟩
  | segmentFetchAnswer answer => exact ⟨_, rfl, sound_ownAnswered _ _ (fun a addr _ => sound_fetchAct answer a addr) h⟩
  | characterizationReadAnswer answer => exact ⟨_, rfl, sound_ownAnswered _ _ (fun _ _ _ => sound_charactAnswered answer) h⟩
  | setupReadAnswer answer setupFirst =>
    exact ⟨_, rfl, sound_ownAnswered _ _ (fun a addr _ => sound_setupAct answer setupFirst a addr) h⟩
  | sweepReadAnswer answer => exact ⟨_, rfl, sound_ownAnswered _ _ (fun a addr _ => sound_sweepAct answer a addr) h⟩
  | reportWriteAnswer done => exact ⟨_, rfl, sound_ownAnswered _ _ (fun _ _ _ => sound_reportAnswered done) h⟩
  | characterizationBegin => exact ⟨_, rfl, sound_characterizationBegin h⟩
  | reportWriteBegin => exact ⟨_, rfl, sound_reportWriteBegin h⟩
  | setupCommitConfigure => exact ⟨_, rfl, sound_commitCommand 1 h⟩
  | setupCommitGroupC => exact ⟨_, rfl, sound_commitCommand 2 h⟩
  | setupCommitIgnored value => exact ⟨_, rfl, sound_commitCommand value h⟩
  | filled index => exact ⟨_, rfl, sound_descriptorCommand index _ h⟩
  | empty index => exact ⟨_, rfl, sound_descriptorCommand index _ h⟩
  | recordedOk index => exact ⟨_, rfl, sound_descriptorCommand index _ h⟩
  | checkFailed index => exact ⟨_, rfl, sound_descriptorCommand index _ h⟩
  | received index => exact ⟨_, rfl, sound_descriptorCommand index _ h⟩
  | receivedMark index => exact ⟨_, rfl, sound_descriptorCommand index _ h⟩
  | receivedError index => exact ⟨_, rfl, sound_descriptorCommand index _ h⟩
  | invalidStateCode index code => exact ⟨_, rfl, sound_descriptorCommand index code h⟩
  | load slot seq => exact ⟨_, rfl, sound_slotCommand slot _ seq h⟩
  | unload slot seq => exact ⟨_, rfl, sound_slotCommand slot _ seq h⟩
  | rewind slot seq => exact ⟨_, rfl, sound_slotCommand slot _ seq h⟩
  | write slot seq => exact ⟨_, rfl, sound_slotCommand slot _ seq h⟩
  | readFwd slot seq => exact ⟨_, rfl, sound_slotCommand slot _ seq h⟩
  | readBwd slot seq => exact ⟨_, rfl, sound_slotCommand slot _ seq h⟩
  | spaceFwd slot seq => exact ⟨_, rfl, sound_slotCommand slot _ seq h⟩
  | spaceBwd slot seq => exact ⟨_, rfl, sound_slotCommand slot _ seq h⟩
  | erase slot seq => exact ⟨_, rfl, sound_slotCommand slot _ seq h⟩
  | halt slot seq => exact ⟨_, rfl, sound_slotCommand slot _ seq h⟩
  | resume slot seq => exact ⟨_, rfl, sound_slotCommand slot _ seq h⟩
  | profileSelect slot seq => exact ⟨_, rfl, sound_slotCommand slot _ seq h⟩
  | softReset slot seq => exact ⟨_, rfl, sound_slotCommand slot _ seq h⟩
  | flush slot seq => exact ⟨_, rfl, sound_quietSlotCommand slot _ seq h⟩
  | ack slot seq => exact ⟨_, rfl, sound_quietSlotCommand slot _ seq h⟩
  | ceiling slot seq => exact ⟨_, rfl, sound_quietSlotCommand slot _ seq h⟩
  | unknownOrder slot code seq => exact ⟨_, rfl, sound_quietSlotCommand slot code seq h⟩

/-! ### One step -/

/-- Waiting commands are no part of what `Sound` speaks of. -/
theorem kept_withQueue (rest : List Instr) (h : Sound s) : Kept rest (s.withQueue rest) := { h with queue := rfl }

theorem kept_step {t : State} (h : Sound s) (e : step s = .next t) : Kept s.pending.tail t := by
  unfold step at e
  split at e
  case h_1 idle =>
    cases e
    exact { h with queue := by rw [idle, List.tail_nil] }
  case h_2 c rest front =>
    obtain ⟨u, hu, ku⟩ := kept_exec c (kept_withQueue rest h)
    obtain rfl : u = t := Host.Outcome.next.inj (hu.symm.trans e)
    rw [front, List.tail_cons]
    exact ku

/-! ### Tape lengths (R4) -/

@[simp] theorem tapeLengthOf_data (length : Nat) : tapeLengthOf .data length = length + 40 := rfl
@[simp] theorem tapeLengthOf_mark (length : Nat) : tapeLengthOf .mark length = 80 := rfl

/-- Settles O43: every step keeps the machine sound, and in a sound state each record's tape length is that of its kind and
length. -/
theorem tapeLengthFollowsKindAndLength : Obligations.TapeLengthFollowsKindAndLength := by
  intro s t i h e
  have tape := kept_tape i (kept_step h e)
  constructor
  · intro data
    rw [tape, data, tapeLengthOf_data]
  · intro mark
    rw [tape, mark, tapeLengthOf_mark]

end Sys2Proof.Machine
end

section
/-! ACK and CEILING (R155, R156): the commit of an immediate order whose result is DONE at once, and then what a new pending
set or a new ceiling comes to in the Report Writer. -/

namespace Sys2Proof.Machine

/-! ### The pending set, the ceiling and NOTICE (R193, R194) -/

theorem markStatusIf_reporter (c : Bool) (s : State) :
    (markStatusIf c s).reporter =
      { s.reporter with dirty := if c = true then marked .status s.reporter.dirty else s.reporter.dirty } := by
  unfold markStatusIf markStatus
  split
  · exact mark_reporter _ _
  · rfl

/-- Only the Report Writer changes with the pending set. -/
theorem setPendingClasses_eq (p : BitVec 9) (s : State) :
    setPendingClasses p s = { s with reporter := (setPendingClasses p s).reporter } := by
  unfold setPendingClasses followNotice markStatusIf
  split <;> rfl

/-- Only the Report Writer changes with the ceiling. -/
theorem setCeiling_eq (c : Nat) (s : State) : setCeiling c s = { s with reporter := (setCeiling c s).reporter } := by
  unfold setCeiling followNotice markStatusIf
  split <;> rfl

theorem setPendingClasses_reporter (p : BitVec 9) (s : State) :
    (setPendingClasses p s).reporter =
      { s.reporter with
        pendingClasses := p
        notice := noticeLevel p s.loader.groupC.mask s.reporter.ceiling
        dirty := if p ≠ s.reporter.pendingClasses then marked .status s.reporter.dirty else s.reporter.dirty } := by
  unfold setPendingClasses followNotice State.onReporter
  simp [markStatusIf_reporter]

theorem setCeiling_reporter (c : Nat) (s : State) :
    (setCeiling c s).reporter =
      { s.reporter with
        ceiling := c
        notice := noticeLevel s.reporter.pendingClasses s.loader.groupC.mask c
        dirty := if c ≠ s.reporter.ceiling then marked .status s.reporter.dirty else s.reporter.dirty } := by
  unfold setCeiling followNotice State.onReporter
  simp [markStatusIf_reporter]

theorem noticeLevel_ceiling_zero (p mask : BitVec 9) : noticeLevel p mask 0 = false := by
  simp [noticeLevel]

/-- At ceiling 9 every class counts: NOTICE is asserted exactly when an enabled class is pending. -/
theorem noticeLevel_ceiling_nine (p mask : BitVec 9) : noticeLevel p mask 9 = decide (p &&& mask ≠ 0#9) := by
  rw [Bool.eq_iff_iff, decide_eq_true_iff]
  constructor
  · intro asserted nothing
    obtain ⟨c, -, both⟩ := List.any_eq_true.mp asserted
    have bit : (p &&& mask).getLsbD c = true := by
      rw [BitVec.getLsbD_and]
      exact (Bool.and_eq_true_iff.mp both).1
    simp [nothing] at bit
  · intro common
    apply eq_true_of_ne_false
    intro silent
    apply common
    apply BitVec.eq_of_getLsbD_eq
    intro c below
    have off := List.any_eq_false.mp silent c (List.mem_range.mpr below)
    simpa [below] using off

/-! ### The classes that an ACK names (R146, R193) -/

/-- The nine low bits of an argument, as a set of classes. -/
theorem ofNat_mod_getLsbD (w : Word) (c : Fin 9) : (BitVec.ofNat 9 (w.toNat % 512)).getLsbD c = w.getLsbD c := by
  have low : BitVec.ofNat 9 (w.toNat % 512) = w.setWidth 9 := by
    apply BitVec.eq_of_toNat_eq
    simp
  rw [low, BitVec.getLsbD_setWidth]
  simp

theorem removed_getLsbD (p : BitVec 9) (w : Word) (c : Fin 9) :
    (p &&& ~~~ BitVec.ofNat 9 (w.toNat % 512)).getLsbD c = (p.getLsbD c && !w.getLsbD c) := by
  rw [BitVec.getLsbD_and, BitVec.getLsbD_not, ofNat_mod_getLsbD]
  simp

/-- Naming no class removes none. -/
theorem removed_none (p : BitVec 9) : p &&& ~~~ BitVec.ofNat 9 0 = p := by
  rw [BitVec.not_zero, BitVec.and_allOnes]

/-! ### A commit that is DONE at once (R144, R145, R148) -/

theorem recordCommit_reporter (i : Fin 8) (o : TakenOrder) (out : Outcome) (r : Reason) (x : Int) (s : State) :
    (recordCommit i o out r x s).reporter = { s.reporter with dirty := marked (.result i) s.reporter.dirty } :=
  mark_reporter _ _

theorem recordCommit_results (i j : Fin 8) (o : TakenOrder) (out : Outcome) (r : Reason) (x : Int) (s : State) :
    (recordCommit i o out r x s).intake.results[j] =
      if i = j then { code := o.code, tag := o.tag, seq := o.seq, outcome := out, reason := r, arg := o.arg, clamped := o.clamped,
                      blocks := 0, finalT := x }
      else s.intake.results[j] :=
  setResult_results i j _ _

theorem recordCommit_intake (i : Fin 8) (o : TakenOrder) (out : Outcome) (r : Reason) (x : Int) (s : State) :
    (recordCommit i o out r x s).intake.queue = s.intake.queue ∧
    (recordCommit i o out r x s).intake.suspended = s.intake.suspended ∧
    (recordCommit i o out r x s).intake.running = s.intake.running ∧
    (recordCommit i o out r x s).intake.taken = s.intake.taken.set i o :=
  setResult_intake i _ _

/-- The slots' shadow once word 3 of slot i has been written. -/
theorem committed_path (i : Fin 8) (code q : Byte) (s : State) :
    (committed i code q s).path =
      { s.path with slots := s.path.slots.set (4 * i.val + 3) (commitWordOf code q) (by omega) } := by
  unfold committed
  rw [mergeSlot_eq, mergeWord_fullWord]

/-- The state after an order is taken with the result DONE, before its effect. -/
def takenDone (o : OrderCode) (i : Fin 8) (q : Byte) (s : State) : State :=
  recordCommit i (takenOrder o i q s) .done .none s.servos.t (committed i o.code q s)

/-- A quiet command with such an order takes it and gives it its effect. -/
theorem quietSlotCommand_done (o : OrderCode) {i : Fin 8} (q : Byte) {s : State} (slot : SlotFree i s)
    (done : o.acceptedOutcome = .done)
    (arg : (argumentOf o (s.slotWord i 0) (s.slotWord i 1) s.loader.groupA.storeSize).accepted = true) :
    quietSlotCommand i o.code q s = orderEffect o i (takenOrder o i q s).arg (takenDone o i q s) := by
  unfold quietSlotCommand takenDone
  rw [if_pos slot.configured, slotWrite_eq, judgeCommit_accepts o i q s slot.free arg]
  simp only [done, if_true]

/-- What a state `t` after such an order keeps of the state `s` before, the Report Writer aside: the slot's commit word,
result and taken order are new. -/
structure DoneInSlot (o : OrderCode) (i : Fin 8) (q : Byte) (s t : State) : Prop where
  outcome : (t.intake.results[i]).outcome = .done
  arg : (t.intake.results[i]).arg = (takenOrder o i q s).arg
  results : ∀ j : Fin 8, j ≠ i → t.intake.results[j] = s.intake.results[j]
  taken : ∀ j : Fin 8, j ≠ i → t.intake.taken[j] = s.intake.taken[j]
  queue : t.intake.queue = s.intake.queue
  running : t.intake.running = s.intake.running
  suspended : t.intake.suspended = s.intake.suspended
  path : t.path = { s.path with slots := s.path.slots.set (4 * i.val + 3) (commitWordOf o.code q) (by omega) }
  tracker : t.tracker = s.tracker
  sequencer : t.sequencer = s.sequencer
  generator : t.generator = s.generator
  servos : t.servos = s.servos
  links : t.links = s.links
  sensors : t.sensors = s.sensors
  loader : t.loader = s.loader
  signals : t.signals = s.signals
  freeCount : t.freeCount = s.freeCount
  pending : t.pending = s.pending

namespace DoneInSlot

variable {o : OrderCode} {i : Fin 8} {q : Byte} {s t : State}

theorem slots (d : DoneInSlot o i q s t) (k : Fin 32) :
    t.path.slots[k] = if k.val = 4 * i.val + 3 then commitWordOf o.code q else s.path.slots[k] := by
  rw [d.path]
  simp only [Fin.getElem_fin, Vector.getElem_set, eq_comm]

theorem path_but_slots (d : DoneInSlot o i q s t) : t.path = { s.path with slots := t.path.slots } := by
  rw [d.path]

/-- The Report Writer of the state after may be any. -/
theorem withReporter (d : DoneInSlot o i q s t) (r : Reporter) : DoneInSlot o i q s { t with reporter := r } := { d with }

end DoneInSlot

theorem takenDone_doneInSlot (o : OrderCode) (i : Fin 8) (q : Byte) (s : State) : DoneInSlot o i q s (takenDone o i q s) := by
  obtain ⟨queue, suspended, running, taken⟩ :=
    recordCommit_intake i (takenOrder o i q s) .done .none s.servos.t (committed i o.code q s)
  have results (j : Fin 8) := recordCommit_results i j (takenOrder o i q s) .done .none s.servos.t (committed i o.code q s)
  have others (j : Fin 8) (other : j ≠ i) : (takenDone o i q s).intake.taken[j] = s.intake.taken[j] := by
    unfold takenDone
    rw [taken, Fin.getElem_fin, Fin.getElem_fin, Vector.getElem_set_ne _ _ (fun e => other (Fin.ext e.symm))]
    rfl
  exact {
    outcome := by unfold takenDone; rw [results i, if_pos rfl]
    arg := by unfold takenDone; rw [results i, if_pos rfl]
    results := fun j other => (results j).trans (if_neg other.symm)
    taken := others
    queue := queue
    running := running
    suspended := suspended
    path := by rw [← committed_path]; simp [takenDone]
    tracker := by simp [takenDone, committed]
    sequencer := by simp [takenDone, committed]
    generator := by simp [takenDone, committed]
    servos := by simp [takenDone, committed]
    links := by simp [takenDone, committed]
    sensors := by simp [takenDone, committed]
    loader := by simp [takenDone, committed]
    signals := by simp [takenDone, committed]
    freeCount := by simp [takenDone, committed]
    pending := by simp [takenDone, committed] }

theorem takenDone_reporter (o : OrderCode) (i : Fin 8) (q : Byte) (s : State) :
    (takenDone o i q s).reporter = { s.reporter with dirty := marked (.result i) s.reporter.dirty } :=
  recordCommit_reporter _ _ _ _ _ _

/-! ### ACK (R155) -/

/-- The state after an ACK. -/
def afterAck (i : Fin 8) (q : Byte) (s : State) : State :=
  ackClasses ((s.slotWord i 0).toNat % 512) (takenDone .ack i q s)

theorem exec_ack {i : Fin 8} (q : Byte) {s : State} (slot : SlotFree i s) : exec (.ack i q) s = .next (afterAck i q s) :=
  congrArg Host.Outcome.next (quietSlotCommand_done .ack q slot rfl rfl)

theorem afterAck_doneInSlot (i : Fin 8) (q : Byte) (s : State) : DoneInSlot .ack i q s (afterAck i q s) := by
  unfold afterAck ackClasses
  rw [setPendingClasses_eq]
  exact (takenDone_doneInSlot .ack i q s).withReporter _

theorem afterAck_reporter (i : Fin 8) (q : Byte) (s : State) :
    let left := s.reporter.pendingClasses &&& ~~~ BitVec.ofNat 9 ((s.slotWord i 0).toNat % 512)
    let dirty := marked (.result i) s.reporter.dirty
    (afterAck i q s).reporter =
      { s.reporter with
        pendingClasses := left
        notice := noticeLevel left s.loader.groupC.mask s.reporter.ceiling
        dirty := if left ≠ s.reporter.pendingClasses then marked .status dirty else dirty } := by
  unfold afterAck ackClasses
  rw [setPendingClasses_reporter, takenDone_reporter, (takenDone_doneInSlot .ack i q s).loader]

/-- An ACK that names no class leaves the Report Writer as it was, the mark of the slot's RESULT aside. -/
theorem afterAck_reporter_of_empty (i : Fin 8) (q : Byte) (s : State) (empty : (s.slotWord i 0).toNat % 512 = 0)
    (followed : s.reporter.notice = noticeLevel s.reporter.pendingClasses s.loader.groupC.mask s.reporter.ceiling) :
    (afterAck i q s).reporter = { s.reporter with dirty := marked (.result i) s.reporter.dirty } := by
  rw [afterAck_reporter, empty, removed_none, ← followed, if_neg (fun changed => changed rfl)]

theorem raise_makes_pending (e : Event) (s : State) : (raise e s).reporter.pendingClasses.getLsbD e.name.noticeClass = true := by
  rw [(raise_pending e s).1, BitVec.getLsbD_or, classBit_self, Bool.or_true]

/-- Settles O57: ACK is taken DONE at once, and its effect replaces the pending set by what its argument leaves of it. -/
theorem ackClearsTheNamedClasses : Obligations.AckClearsTheNamedClasses := by
  intro s i q slot
  have d := afterAck_doneInSlot i q s
  have reporter := afterAck_reporter i q s
  have classes (c : Fin 9) : (afterAck i q s).reporter.pendingClasses.getLsbD c =
      (s.reporter.pendingClasses.getLsbD c && !(s.slotWord i 0).getLsbD c) := by
    rw [reporter]
    exact removed_getLsbD _ _ c
  refine ⟨afterAck i q s, exec_ack q slot, classes, ?notice, ?log, ?nextSeq, ?stored, ?writeIndex, ?dropped, ?ceiling, d.outcome,
    d.results, d.queue, d.tracker, d.sequencer, d.generator, d.servos, d.links, d.sensors, d.loader, d.running, d.suspended, d.taken,
    d.slots, d.path_but_slots, d.signals, d.freeCount, d.pending, ?onlyThese, afterAck_reporter_of_empty i q s,
    fun e => raise_makes_pending e _⟩
  all_goals rw [reporter]

/-! ### CEILING (R156) -/

/-- The state after a CEILING. -/
def afterCeiling (i : Fin 8) (q : Byte) (s : State) : State :=
  setCeiling (min (s.slotWord i 0).toNat 9) (takenDone .ceiling i q s)

theorem exec_ceiling {i : Fin 8} (q : Byte) {s : State} (slot : SlotFree i s) :
    exec (.ceiling i q) s = .next (afterCeiling i q s) :=
  congrArg Host.Outcome.next (quietSlotCommand_done .ceiling q slot rfl rfl)

theorem afterCeiling_doneInSlot (i : Fin 8) (q : Byte) (s : State) : DoneInSlot .ceiling i q s (afterCeiling i q s) := by
  unfold afterCeiling
  rw [setCeiling_eq]
  exact (takenDone_doneInSlot .ceiling i q s).withReporter _

theorem afterCeiling_reporter (i : Fin 8) (q : Byte) (s : State) :
    let limit := min (s.slotWord i 0).toNat 9
    let dirty := marked (.result i) s.reporter.dirty
    (afterCeiling i q s).reporter =
      { s.reporter with
        ceiling := limit
        notice := noticeLevel s.reporter.pendingClasses s.loader.groupC.mask limit
        dirty := if limit ≠ s.reporter.ceiling then marked .status dirty else dirty } := by
  unfold afterCeiling
  rw [setCeiling_reporter, takenDone_reporter, (takenDone_doneInSlot .ceiling i q s).loader]

/-- Settles O58: CEILING is taken DONE at once, and its effect replaces the ceiling, with NOTICE at the level that follows. -/
theorem ceilingSetsTheCeiling : Obligations.CeilingSetsTheCeiling := by
  intro s i q slot
  have d := afterCeiling_doneInSlot i q s
  have reporter := afterCeiling_reporter i q s
  have notice : (afterCeiling i q s).reporter.notice =
      noticeLevel s.reporter.pendingClasses s.loader.groupC.mask (afterCeiling i q s).reporter.ceiling := by
    rw [reporter]
  have atZero (zero : (afterCeiling i q s).reporter.ceiling = 0) : (afterCeiling i q s).reporter.notice = false := by
    rw [notice, zero, noticeLevel_ceiling_zero]
  have atNine (nine : (afterCeiling i q s).reporter.ceiling = 9) :
      (afterCeiling i q s).reporter.notice = decide (s.reporter.pendingClasses &&& s.loader.groupC.mask ≠ 0#9) := by
    rw [notice, nine, noticeLevel_ceiling_nine]
  refine ⟨afterCeiling i q s, exec_ceiling q slot, ?ceiling, notice, atZero, atNine, ?classes, d.outcome, d.arg, d.results, d.queue,
    d.tracker, d.sequencer, d.generator, d.servos, d.links, d.sensors, d.loader, d.running, d.suspended, d.taken, d.slots,
    d.path_but_slots, d.signals, d.freeCount, d.pending, ?onlyThese⟩
  all_goals rw [reporter]

end Sys2Proof.Machine
end

section
/-! The step, soundness along every step, and the state after cold reset (log 1, 00_scope.md 2.1). -/

namespace Sys2Proof.Machine

/-! ### One step -/

/-- Settles O4: a step is a command of `kept_exec`, or the idling of an empty queue. -/
theorem stepKeepsSound : Obligations.StepKeepsSound := by
  intro s t sound stepped
  have kept := kept_step sound stepped
  exact ⟨kept.toSound, kept.queue⟩

/-- Settles O1. -/
theorem stepRunsFrontCommand : Obligations.StepRunsFrontCommand :=
  fun _ _ _ => rfl

/-- Every command has a meaning that answers a next state. -/
theorem exec_answers (c : Instr) (s : State) : ∃ t, exec c s = .next t := by
  cases c <;> exact ⟨_, rfl⟩

theorem step_idles {s : State} (idle : s.pending = []) : step s = .next s := by
  unfold step
  rw [idle]

/-- Settles O2. -/
theorem stepNeverStops : Obligations.StepNeverStops := by
  constructor
  · intro s
    cases front : s.pending with
    | nil => exact ⟨s, step_idles front⟩
    | cons c rest =>
      obtain ⟨t, answer⟩ := exec_answers c (s.withQueue rest)
      exact ⟨t, by unfold step; rw [front]; exact answer⟩
  · intro s idle
    exact step_idles idle

/-- Settles O3. -/
theorem resetIsSound : Obligations.ResetIsSound :=
  sound_reset

/-! ### Cold reset -/

theorem reset_record (i : Fin 16) : State.reset.record i = BlockRecord.blank := by
  revert i
  decide

theorem coldSensors_column (c : Reel) (n : Sensors) : (coldSensors n).column c = { sum := 0, x := 0, outside := 0, cut := none } := by
  cases c <;> rfl

theorem coldSensors_switch (sw : Switch) (n : Sensors) :
    (coldSensors n).switch sw = { raw := (n.switch sw).raw, debounced := false, settled := false, timer := some 4 } := by
  cases sw <;> rfl

theorem coldSensors_marker (m : Marker) (n : Sensors) :
    (coldSensors n).marker m =
      { level := (n.marker m).level, steps := 0, dir := none, state := if (n.marker m).level then .counting else .idle } := by
  cases m <;> rfl

theorem reset_result (i : Fin 8) : State.reset.intake.results[i] = OrderResult.reset := by
  revert i
  decide

theorem reset_image (n : RecordName) : State.reset.reporter.images[n.index] = match n with
    | .identity => [0, 0x061007A1#32, 0x00000101#32, 0, 0, 0, 0, 0]
    | .status => List.replicate 16 0
    | _ => List.replicate 8 0 := by
  cases n with
  | identity => decide
  | status => decide
  | result i => revert i; decide
  | block i => revert i; decide
  | logHeader => decide
  | log p => revert p; decide

theorem reset_update (n : RecordName) : State.reset.reporter.updates[n.index] = 0#16 := by
  have all : ∀ i : Fin 35, State.reset.reporter.updates[i] = 0#16 := by decide
  exact all n.index

theorem reset_log (p : Fin 8) : State.reset.reporter.log[p] = none := by
  revert p
  decide

/-- Settles O5: the inputs' levels, the free count and the queue aside, cold reset leaves `State.reset`. -/
theorem coldResetSetsTheResetValues : Obligations.ColdResetSetsTheResetValues := by
  intro s
  exact ⟨coldState s, exec_coldReset s, reset_record, rfl, rfl, rfl, rfl, rfl, rfl, rfl, rfl,
    fun c => coldSensors_column c s.sensors, rfl, rfl, rfl, rfl, fun sw => coldSensors_switch sw s.sensors,
    fun m => coldSensors_marker m s.sensors, reset_result, rfl, rfl, rfl, rfl, rfl, reset_image, reset_update, rfl, rfl, rfl, rfl,
    reset_log, rfl, rfl, rfl, rfl, rfl, rfl, rfl, rfl, rfl⟩

end Sys2Proof.Machine
end

section
/-! The deck's inputs: conversions, marker levels, index pulses and raw switch levels (R87, R95, R100, R105), and the quiet end of
an event that has touched nothing the sequencer looks at. -/

namespace Sys2Proof.Machine

/-! ### Quiet ends -/

/-- An event that leaves what the sequencer looks at as it was brings nothing more about, as long as it lets no settlement
begin. -/
theorem quiet_of_kept {a b : State} (quiet : Quiet a) (sequencer : b.sequencer = a.sequencer) (generator : b.generator = a.generator)
    (servos : b.servos = a.servos) (intake : b.intake = a.intake) (loader : b.loader = a.loader) (signals : b.signals = a.signals)
    (holding : b.holding = a.holding) (sweep : b.path.sweep = a.path.sweep)
    (settles : ∀ p, canSettle p b = true → canSettle p a = true) : Quiet b := by
  refine quiet_of_sameView ?_ quiet
  constructor
  case order => exact order_congr intake
  case settlement => exact fun none => settlementDue_none_of none (by rw [generator]) settles
  all_goals simp [sequencer, generator, servos, intake, loader, signals, holding, sweep]

/-- The same where the ports are untouched. -/
theorem quiet_of_path {a b : State} (quiet : Quiet a) (sequencer : b.sequencer = a.sequencer) (generator : b.generator = a.generator)
    (servos : b.servos = a.servos) (intake : b.intake = a.intake) (loader : b.loader = a.loader) (signals : b.signals = a.signals)
    (path : b.path = a.path) : Quiet b :=
  quiet_of_kept quiet sequencer generator servos intake loader signals (holding_congr (by rw [path])) (by rw [path])
    fun p => by rw [canSettle_congr p generator (by rw [path]) (by rw [path])]; exact id

theorem mem_markStatus (s : State) : .status ∈ (markStatus s).reporter.dirty := by
  unfold markStatus
  rw [mark_reporter]
  exact mem_marked _ _

/-! ### Conversions (R95) -/

/-- Settles O13. -/
theorem conversionAddsTheSaturatedCodes : Obligations.ConversionAddsTheSaturatedCodes := by
  intro a b s room
  exact congrArg Host.Outcome.next (if_pos room)

/-! ### Marker sensors (R105) -/

theorem markerActive_of_off {m : Marker} {s : State} (off : (s.sensors.marker m).level = false) :
    markerActive m s =
      s.onSensors fun n => n.setMarker m { level := true, state := .counting, steps := 0, dir := none } := by
  unfold markerActive
  dsimp only
  rw [off]
  rfl

/-- Outside a seek the BOT sensor's going inactive is no marker event. -/
theorem botLeft_of_not_seeking {s : State} (away : s.seeking = false) : botLeft s = s := by
  unfold botLeft seekWaits
  rw [away]
  rfl

theorem seeking_of_not_loading {s : State} (other : s.sequencer.transport ≠ .loading) : s.seeking = false := by
  unfold State.seeking
  simp [other]

/-- A marker record with its sensor just gone inactive. -/
def markerLowered (m : Marker) (s : State) : State :=
  s.onSensors fun n => n.setMarker m { level := false, state := .idle, steps := 0, dir := none }

theorem quiet_markerLowered {m : Marker} {s : State} (quiet : Quiet s) : Quiet (markerLowered m s) :=
  quiet_of_path quiet rfl rfl rfl rfl rfl rfl rfl

theorem markerInactive_of_on {m : Marker} {s : State} (on : (s.sensors.marker m).level = true)
    (other : s.sequencer.transport ≠ .loading) (quiet : Quiet s) :
    markerInactive m s = markerLowered m s ∨ markerInactive m s = arbitrate (markerLowered m s) := by
  have lowered : markerInactive m s = match m with
      | .bot => finishEvent (botLeft (markerLowered m s))
      | .eot => markerLowered m s := by
    unfold markerInactive
    dsimp only
    rw [on]
    cases m <;> rfl
  rw [lowered]
  cases m with
  | bot =>
    have away : (markerLowered .bot s).seeking = false := seeking_of_not_loading other
    exact .inr ((congrArg finishEvent (botLeft_of_not_seeking away)).trans (finishEvent_of_quiet (quiet_markerLowered quiet)))
  | eot => exact .inl rfl

/-- Settles O20. -/
theorem markerLevelsSetTheRecord : Obligations.MarkerLevelsSetTheRecord := by
  intro m s
  constructor
  · intro off
    exact congrArg Host.Outcome.next (markerActive_of_off off)
  · intro on other quiet
    refine ⟨_, rfl, ?_⟩
    obtain e | e := markerInactive_of_on on other quiet <;> rw [e] <;> simp [markerLowered]

/-! ### Index pulses (R87) -/

theorem setReel_reel (r : Reel) (x : ReelServo) (v : Servos) : (v.setReel r x).reel r = x := by
  cases r <;> rfl

theorem setReel_others (r : Reel) (x : ReelServo) (v : Servos) :
    (v.setReel r x).t = v.t ∧ (v.setReel r x).driveMode = v.driveMode ∧ (v.setReel r x).brake = v.brake ∧
    (v.setReel r x).tracking = v.tracking := by
  cases r <;> exact ⟨rfl, rfl, rfl, rfl⟩

/-- A pulse with a reference is measured and becomes the reference. -/
theorem pulseTaken_of_ref {t : Int} {d : Direction} {lo hi : Nat} {r : ReelServo} {ref : CaptureRef} (known : r.capture.ref = some ref) :
    pulseTaken t (some d) lo hi r =
      { measurePulse t d ref lo hi r with capture := { ref := some { pos := t, dir := d }, broken := false } } := by
  unfold pulseTaken
  rw [known]

theorem measurePulse_good {t : Int} {d : Direction} {lo hi : Nat} {r : ReelServo} {ref : CaptureRef}
    (good : ref.dir = d ∧ r.capture.broken = false ∧ lo ≤ (t - ref.pos).natAbs ∧ (t - ref.pos).natAbs ≤ hi) :
    measurePulse t d ref lo hi r = { r with w := (3 * r.w + (t - ref.pos).natAbs) / 4 } :=
  if_pos good

theorem measurePulse_bad {t : Int} {d : Direction} {lo hi : Nat} {r : ReelServo} {ref : CaptureRef}
    (bad : ¬(ref.dir = d ∧ r.capture.broken = false ∧ lo ≤ (t - ref.pos).natAbs ∧ (t - ref.pos).natAbs ≤ hi)) :
    measurePulse t d ref lo hi r = { r with rejected := min (r.rejected + 1) 65535 } :=
  if_neg bad

theorem indexPulse_servos (reel : Reel) (s : State) :
    (indexPulse reel s).servos =
      s.servos.setReel reel
        (pulseTaken s.servos.t s.generator.dir s.loader.groupB.wMin s.loader.groupB.wMax (s.servos.reel reel)) := by
  unfold indexPulse
  simp [State.tapePos, State.groupB]

/-- Settles O21. -/
theorem indexPulseMeasuresTheReel : Obligations.IndexPulseMeasuresTheReel := by
  intro reel s d ref driven known
  have servos := indexPulse_servos reel s
  rw [driven, pulseTaken_of_ref known] at servos
  have others := setReel_others reel
  refine ⟨indexPulse reel s, rfl, ?_⟩
  rw [servos, setReel_reel]
  refine ⟨rfl, ?good, ?bad, (others _ _).1, (others _ _).2.1, (others _ _).2.2.1, (others _ _).2.2.2, ?_⟩
  case good =>
    intro good
    rw [measurePulse_good good]
    exact ⟨rfl, rfl⟩
  case bad =>
    intro bad
    rw [measurePulse_bad bad]
    exact ⟨rfl, rfl⟩
  simp [indexPulse]

/-! ### Raw switch levels (R100) -/

theorem setSwitch_switch (sw : Switch) (r : SwitchRecord) (n : Sensors) : (n.setSwitch sw r).switch sw = r := by
  cases sw <;> rfl

theorem setSwitch_setSwitch (sw : Switch) (r r' : SwitchRecord) (n : Sensors) :
    (n.setSwitch sw r).setSwitch sw r' = n.setSwitch sw r' := by
  cases sw <;> rfl

/-- A switch record whose raw level is accepted. -/
def SwitchRecord.accepted (r : SwitchRecord) : SwitchRecord := { r with debounced := r.raw, settled := true, timer := none }

/-- What is accepted does not depend on the stability timer. -/
theorem acceptSwitch_timer (sw : Switch) (r : SwitchRecord) (timer : Option Nat) (s : State) :
    acceptSwitch sw (setSwitchRecord sw { r with timer := timer } s) = acceptSwitch sw (setSwitchRecord sw r s) := by
  have overwritten (r' : SwitchRecord) (same : r'.accepted = r.accepted) :
      setSwitchRecord sw r'.accepted (setSwitchRecord sw r' s) = setSwitchRecord sw r.accepted (setSwitchRecord sw r s) := by
    unfold setSwitchRecord State.onSensors
    simp only [setSwitch_setSwitch, same]
  have held (r' : SwitchRecord) : (setSwitchRecord sw r' s).sensors.switch sw = r' := setSwitch_switch sw r' _
  unfold acceptSwitch
  simp only [held]
  exact congrArg (fun x => if (!r.settled) = true then firstSettled sw (markStatus x)
    else if r.raw ≠ r.debounced then switchAccepted sw r.raw (markStatus x) else markStatus x)
    (overwritten { r with timer := timer } rfl)

theorem rawChange_cases {sw : Switch} {level : Bool} {s : State} (changed : (s.sensors.switch sw).raw = !level) :
    rawChange sw level s =
      if !(s.sensors.switch sw).settled then
        setSwitchRecord sw { s.sensors.switch sw with raw := level, timer := some s.loader.groupC.debounce } s
      else if level = (s.sensors.switch sw).debounced then
        setSwitchRecord sw { s.sensors.switch sw with raw := level, timer := none } s
      else if s.loader.groupC.debounce = 0 then
        finishEvent (acceptSwitch sw (setSwitchRecord sw { s.sensors.switch sw with raw := level } s))
      else setSwitchRecord sw { s.sensors.switch sw with raw := level, timer := some s.loader.groupC.debounce } s := by
  unfold rawChange
  dsimp only
  rw [if_neg (by rw [changed]; cases level <;> decide)]

/-- Settles O22: with a debounce time of 0 the acceptance is that of the timer's expiry, since it ends the timer. -/
theorem rawChangeMovesTheStabilityTimer : Obligations.RawChangeMovesTheStabilityTimer := by
  intro sw level s changed r ms
  have cases := rawChange_cases changed
  refine ⟨?starts, ?stops, ?accepts, ?restarts⟩
  case starts =>
    intro settled away running
    refine congrArg Host.Outcome.next (cases.trans ?_)
    rw [if_neg (by rw [settled]; decide), if_neg away, if_neg running]
    rfl
  case stops =>
    intro settled back
    refine congrArg Host.Outcome.next (cases.trans ?_)
    rw [if_neg (by rw [settled]; decide), if_pos back]
    rfl
  case accepts =>
    intro settled away zero
    refine congrArg Host.Outcome.next (cases.trans ?_)
    rw [if_neg (by rw [settled]; decide), if_neg away, if_pos zero,
      ← acceptSwitch_timer sw { s.sensors.switch sw with raw := level } (some 0)]
    unfold stabilityExpiry
    rw [if_pos]
    · rfl
    · simp only [onSensors_sensors, setSwitch_switch, Option.isSome_some]
  case restarts =>
    intro unsettled _
    refine congrArg Host.Outcome.next (cases.trans ?_)
    rw [if_pos (by rw [unsettled]; decide)]
    rfl

/-! ### The write-ring switch (R100, R104) -/

/-- The write-ring switch hands nothing on: its record and STATUS's mark are all that an acceptance changes. -/
theorem acceptSwitch_ring (s : State) :
    acceptSwitch .ring s = markStatus (setSwitchRecord .ring s.sensors.ring.accepted s) := by
  unfold acceptSwitch
  dsimp only
  split
  · rfl
  · split <;> rfl

/-- Settles O23. -/
theorem ringSwitchIsAccepted : Obligations.RingSwitchIsAccepted := by
  intro s ms runs quiet
  have quietAfter : Quiet (acceptSwitch .ring s) := by
    rw [acceptSwitch_ring]
    exact quiet_of_path quiet (by simp) (by simp) (by simp) (by simp) (by simp) (by simp) (by simp)
  have expired : exec (.stabilityTimerExpiry .ring) s = .next (arbitrate (acceptSwitch .ring s)) := by
    refine congrArg Host.Outcome.next ?_
    unfold stabilityExpiry
    rw [if_pos (by show s.sensors.ring.timer.isSome = true; rw [runs]; rfl), finishEvent_of_quiet quietAfter]
  refine ⟨_, expired, ?_⟩
  simp only [arbitrate_keeps, acceptSwitch_ring, markStatus_keeps, setSwitchRecord_keeps, mem_markStatus, and_self, and_true]
  rfl

end Sys2Proof.Machine
end

section
/-! The two ports (chapter 9): arrivals at the upper port, memory's answers to pass-through transactions, discarded answers. -/

namespace Sys2Proof.Machine

/-! ### The arbiter's turn (R170) -/

/-- A turn leaves the upper port's transaction, or takes it from its claim to memory. -/
theorem arbitrate_upper (s : State) :
    (arbitrate s).path.upper = s.path.upper ∨
      ∃ t, s.path.upper = some { txn := t, stage := .claimed } ∧
        (arbitrate s).path.upper = some { txn := t, stage := .atMemory } := by
  have pass (limit : Nat) (turn : nextTurn s.path limit = some .pass) : s.path.passWaits = true := by
    unfold nextTurn at turn
    split at turn
    · cases turn
    · split at turn
      · cases turn
      · split at turn
        · assumption
        · simp at turn
  unfold arbitrate
  split
  · exact .inl rfl
  · split
    · next t turn =>
      cases t with
      | own c => exact .inl rfl
      | pass =>
        have waits := pass _ turn
        unfold Path.passWaits at waits
        split at waits
        · next t claimed => exact .inr ⟨t, claimed, by simp [grant, claimed]⟩
        · cases waits
    · exact .inl rfl

theorem arbitrate_upper_none {s : State} (free : s.path.upper = none) : (arbitrate s).path.upper = none := by
  obtain same | ⟨t, claimed, -⟩ := arbitrate_upper s
  · rw [same, free]
  · rw [free] at claimed
    cases claimed

theorem arbitrate_upper_held {s : State} {t : BusTxn} {ms : Nat} (held : s.path.upper = some { txn := t, stage := .held ms }) :
    (arbitrate s).path.upper = some { txn := t, stage := .held ms } := by
  obtain same | ⟨t', claimed, -⟩ := arbitrate_upper s
  · rw [same, held]
  · rw [held] at claimed
    cases claimed

theorem arbitrate_upper_claimed {s : State} {t : BusTxn} (claimed : s.path.upper = some { txn := t, stage := .claimed }) :
    ∃ stage, (arbitrate s).path.upper = some { txn := t, stage := stage } ∧ (stage = .claimed ∨ stage = .atMemory) := by
  obtain same | ⟨t', claimed', memory⟩ := arbitrate_upper s
  · exact ⟨.claimed, by rw [same, claimed], .inl rfl⟩
  · rw [claimed] at claimed'
    cases claimed'
    exact ⟨.atMemory, memory, .inr rfl⟩

/-- With no claim at either side the lower port stays FREE. -/
theorem arbitrate_idle {s : State} (free : s.path.port = none) (upper : s.path.upper = none) (claims : s.path.claims = []) :
    arbitrate s = s := by
  unfold arbitrate
  rw [free]
  simp [nextTurn, firstByRow, Path.passWaits, upper, claims]

/-- Every own access has its row in R170. -/
theorem firstByRow_singleton (c : OwnClaim) : firstByRow [c] = some c := by
  unfold firstByRow
  cases access : c.access <;>
    simp [access, OwnAccess.isFetch, OwnAccess.isClassRead, OwnAccess.isCharact, OwnAccess.isSetup, OwnAccess.isSweep,
      OwnAccess.isReport]

/-- A single own claim has the next turn where no transaction waits at the upper port. -/
theorem nextTurn_singleton {p : Path} {c : OwnClaim} (limit : Nat) (upper : p.upper = none) (claims : p.claims = [c]) :
    nextTurn p limit = some (.own c) := by
  have waits : p.passWaits = false := by
    unfold Path.passWaits
    rw [upper]
  unfold nextTurn
  rw [claims, waits]
  by_cases urgent : c.access.isFetch = true ∧ c.urgent = true
  · simp [urgent]
  · have nothing : firstByRow [] = none := rfl
    by_cases old : limit ≤ c.passOver <;> simp [urgent, old, nothing, firstByRow_singleton]

theorem arbitrate_single {s : State} {c : OwnClaim} (free : s.path.port = none) (upper : s.path.upper = none)
    (claims : s.path.claims = [c]) :
    (arbitrate s).path.port = some (.own c.access (accessAddr s.loader.groupA c.access) false) ∧ (arbitrate s).path.claims = [] := by
  unfold arbitrate
  rw [free]
  dsimp only
  rw [nextTurn_singleton _ upper claims]
  simp [grant, claims]

end Sys2Proof.Machine
end

section
/-! Transactions on the deck bus, and memory's answers to pass-through transactions and to withdrawn own accesses (chapter 9). -/

namespace Sys2Proof.Machine

/-! ### Bits of the pending set (R193) -/

theorem classBit_four : classBit 4 = 0x10#9 := rfl

theorem classBit_five : classBit 5 = 0x20#9 := rfl

/-! ### Quiet ends at the ports -/

/-- What the ports may change without letting the sequencer's event go on: no read is held, and the segment fetches wanted are the same. -/
structure PortsOnly (s u : State) : Prop where
  sequencer : u.sequencer = s.sequencer
  generator : u.generator = s.generator
  servos : u.servos = s.servos
  intake : u.intake = s.intake
  loader : u.loader = s.loader
  signals : u.signals = s.signals
  holding : u.holding = s.holding
  sweep : u.path.sweep = s.path.sweep
  wanted : outstanding OwnAccess.isFetch u = outstanding OwnAccess.isFetch s

theorem canSettle_of_wanted {a b : State} (p : Nat) (generator : b.generator = a.generator)
    (wanted : outstanding OwnAccess.isFetch b = outstanding OwnAccess.isFetch a) : canSettle p b = canSettle p a := by
  unfold canSettle fetching
  rw [generator, wanted]

theorem PortsOnly.quiet {s u : State} (k : PortsOnly s u) (quiet : Quiet s) : Quiet u :=
  quiet_of_kept quiet k.sequencer k.generator k.servos k.intake k.loader k.signals k.holding k.sweep
    fun p => by rw [canSettle_of_wanted p k.generator k.wanted]; exact id

theorem holding_of_upper_none {s : State} (free : s.path.upper = none) : s.holding = false := by
  unfold State.holding
  rw [free]

theorem holding_of_claimed {s : State} {t : BusTxn} (claimed : s.path.upper = some { txn := t, stage := .claimed }) :
    s.holding = false := by
  unfold State.holding
  rw [claimed]

theorem holding_of_atMemory {s : State} {t : BusTxn} (there : s.path.upper = some { txn := t, stage := .atMemory }) :
    s.holding = false := by
  unfold State.holding
  rw [there]

theorem outstanding_congr {a b : State} (f : OwnAccess → Bool) (claims : b.path.claims = a.path.claims)
    (port : b.path.port = a.path.port) : outstanding f b = outstanding f a := by
  unfold outstanding
  rw [claims, port]

/-- An answer at a port that holds no read, the answers shown begun anew. -/
theorem portsOnly_answerUpper {s : State} (free : s.path.upper = none) (a : BusAnswer) :
    PortsOnly s (answerUpper a (clearAnswers s)) where
  sequencer := rfl
  generator := rfl
  servos := rfl
  intake := rfl
  loader := rfl
  signals := rfl
  holding := (holding_of_upper_none rfl).trans (holding_of_upper_none free).symm
  sweep := rfl
  wanted := rfl

theorem portsOnly_passClaim {s : State} (free : s.path.upper = none) (t : BusTxn) : PortsOnly s (passClaim t (clearAnswers s)) where
  sequencer := rfl
  generator := rfl
  servos := rfl
  intake := rfl
  loader := rfl
  signals := rfl
  holding := (holding_of_claimed rfl).trans (holding_of_upper_none free).symm
  sweep := rfl
  wanted := rfl

/-! ### Arrivals (R161, R162, R167) -/

/-- The command by which a transaction arrives. -/
theorem exec_busTransaction (t : BusTxn) (s : State) :
    exec (match t with | .read a n => .deckBusRead a n | .write a ws => .deckBusWrite a ws) s = .next (busTransaction t s) := by
  cases t <;> rfl

theorem busTransaction_of_free {s : State} (t : BusTxn) (free : s.path.upper = none) :
    busTransaction t s = finishEvent (txnArrives t (clearAnswers s)) := by
  unfold busTransaction
  rw [free]

theorem txnArrives_pastTop {t : BusTxn} {s : State} (past : 0xFFFFFC < txnAddr t + 4 * (txnCount t - 1)) :
    txnArrives t s = answerUpper .fault s :=
  if_pos (decide_eq_true past)

theorem pastTop_of_within {t : BusTxn} (within : txnAddr t + 4 * (txnCount t - 1) ≤ 0xFFFFFC) : pastTop t = false :=
  decide_eq_false (Nat.not_lt.mpr within)

theorem txnArrives_write {a : BusAddr} {ws : List BusWord} {s : State} (within : a.toNat + 4 * (ws.length - 1) ≤ 0xFFFFFC) :
    txnArrives (.write a ws) s = passClaim (.write a ws) s := by
  unfold txnArrives
  rw [pastTop_of_within (t := .write a ws) within]
  rfl

theorem txnArrives_read {a : BusAddr} {n : Nat} {s : State} (within : a.toNat + 4 * (n - 1) ≤ 0xFFFFFC) :
    txnArrives (.read a n) s = readArrives (.read a n) s := by
  unfold txnArrives
  rw [pastTop_of_within (t := .read a n) within]
  rfl

/-- A read whose first word is no ARMED or FILLED record's is subject to no answer of the tracker (R19). -/
theorem firstWordMatch_none {addr : Nat} {s : State} (nobody : ∀ i : Fin 16, (s.record i).state = .armed ∨ (s.record i).state = .filled →
    s.loader.groupA.bufferBase + (s.record i).offset ≠ addr) : firstWordMatch addr s = none := by
  unfold firstWordMatch
  rw [List.find?_eq_none]
  intro i _ found
  simp only [Bool.and_eq_true, Bool.or_eq_true, decide_eq_true_eq] at found
  exact nobody i found.1.1 found.1.2

theorem readArrives_unmatched {t : BusTxn} {s : State} (nobody : firstWordMatch (txnAddr t) s = none) :
    readArrives t s = passClaim t s := by
  unfold readArrives
  rw [nobody]

theorem passClaim_busy {s : State} {x : PortTxn} (t : BusTxn) (free : s.path.upper = none) (busy : s.path.port = some x)
    (quiet : Quiet s) : finishEvent (passClaim t (clearAnswers s)) =
      s.onPath fun p => { p with upper := some { txn := t, stage := .claimed }, answers := [] } :=
  (finishEvent_of_quiet ((portsOnly_passClaim free t).quiet quiet)).trans (arbitrate_of_busy (x := x) busy)

/-- Settles O28. -/
theorem busTransactionsArrive : Obligations.BusTransactionsArrive := by
  intro s free quiet
  refine ⟨?past, ?write, ?read⟩
  case past =>
    intro txn past
    have ended : busTransaction txn s = arbitrate (answerUpper .fault (clearAnswers s)) := by
      rw [busTransaction_of_free _ free, txnArrives_pastTop past,
        finishEvent_of_quiet ((portsOnly_answerUpper free .fault).quiet quiet)]
    refine ⟨_, (exec_busTransaction txn s).trans (congrArg Host.Outcome.next ended), ?_⟩
    simp only [arbitrate_path, arbitrate_upper_none (s := answerUpper .fault (clearAnswers s)) rfl, arbitrate_keeps,
      answerUpper_keeps, clearAnswers_keeps, and_self, and_true]
    exact ⟨rfl, trivial, rfl, rfl⟩
  case write =>
    intro x a ws busy within
    refine congrArg Host.Outcome.next ?_
    rw [busTransaction_of_free _ free, txnArrives_write within, passClaim_busy _ free busy quiet]
  case read =>
    intro x a n busy within nobody
    refine congrArg Host.Outcome.next ?_
    rw [busTransaction_of_free _ free, txnArrives_read within,
      readArrives_unmatched (t := .read a n) (firstWordMatch_none (addr := a.toNat) (s := clearAnswers s) nobody), passClaim_busy _ free busy quiet]

/-! ### First-word reads of FILLED records (R22) -/

/-- What a first-word read comes to is its record's matter (R19). -/
theorem readArrives_matched {a : BusAddr} {n : Nat} {i : Fin 16} {s : State} (found : firstWordMatch a.toNat s = some i) :
    readArrives (.read a n) (clearAnswers s) =
      if (s.record i).state = .armed then armedRead i (.read a n) (clearAnswers s) else filledRead i (clearAnswers s) := by
  have same : firstWordMatch (txnAddr (.read a n)) (clearAnswers s) = some i := found
  unfold readArrives
  rw [same]
  rfl

theorem exec_firstWordRead {a : BusAddr} {n : Nat} {i : Fin 16} {s : State} (free : s.path.upper = none)
    (within : a.toNat + 4 * (n - 1) ≤ 0xFFFFFC) (found : firstWordMatch a.toNat s = some i) :
    exec (.deckBusRead a n) s = .next (finishEvent
      (if (s.record i).state = .armed then armedRead i (.read a n) (clearAnswers s) else filledRead i (clearAnswers s))) := by
  rw [← readArrives_matched found, ← txnArrives_read within, ← busTransaction_of_free _ free]
  rfl

/-- The state after an out-of-turn read: the flag set and its event raised, before the RETRY. -/
def outOfTurnRaised (i : Fin 16) (s : State) : State :=
  raiseBlock .outOfTurnRead i 0 0 ((clearAnswers s).onTracker fun k => { k with outOfTurn := true })

theorem portsOnly_outOfTurn {i : Fin 16} {s : State} (free : s.path.upper = none) :
    PortsOnly s (answerUpper .retry (outOfTurnRaised i s)) := by
  constructor
  case holding => exact (holding_of_upper_none rfl).trans (holding_of_upper_none free).symm
  case wanted => exact outstanding_congr _ (by simp [outOfTurnRaised, answerUpper]; rfl) (by simp [outOfTurnRaised, answerUpper]; rfl)
  case sweep => simp [outOfTurnRaised, answerUpper]; rfl
  all_goals simp [outOfTurnRaised]

/-- Settles O30. -/
theorem filledReadsAreRetried : Obligations.FilledReadsAreRetried := by
  intro s a n i free quiet within found filled
  have read := exec_firstWordRead free within found
  rw [if_neg (by rw [filled]; decide)] at read
  constructor
  · intro away clear
    have out : filledRead i (clearAnswers s) = answerUpper .retry (outOfTurnRaised i s) :=
      if_neg (by rintro (atCursor | set); exact away atCursor; exact absurd (clear.symm.trans set) (by decide))
    rw [out, finishEvent_of_quiet ((portsOnly_outOfTurn free).quiet quiet)] at read
    refine ⟨_, read, arbitrate_upper_none rfl, ?_⟩
    simp only [arbitrate_path, arbitrate_keeps, answerUpper_keeps]
    refine ⟨?_, ?_⟩
    · simp [answerUpper, outOfTurnRaised, clearAnswers]
    · simp [outOfTurnRaised, classBit_four, EventName.noticeClass]
  · intro again
    have same : filledRead i (clearAnswers s) = answerUpper .retry (clearAnswers s) := if_pos again
    rw [same, finishEvent_of_quiet ((portsOnly_answerUpper free .retry).quiet quiet)] at read
    refine ⟨_, read, arbitrate_upper_none rfl, ?_⟩
    simp only [arbitrate_path, arbitrate_keeps, answerUpper_keeps, clearAnswers_keeps, and_self, and_true]
    rfl

/-! ### Pass-through answers (R161, R165, R166) -/

theorem atMemory_some {s : State} {t : BusTxn} (there : atMemory s = some t) :
    s.path.port = some .passThrough ∧ s.path.upper = some { txn := t, stage := .atMemory } := by
  unfold atMemory at there
  split at there
  · next port upper => cases there; exact ⟨port, upper⟩
  · cases there

/-- A pass-through answer frees both ports. -/
theorem portsOnly_answered {s : State} {t : BusTxn} (there : atMemory s = some t) (a : BusAnswer) :
    PortsOnly s (answerUpper a (freePort (clearAnswers s))) := by
  obtain ⟨port, upper⟩ := atMemory_some there
  constructor
  case holding => exact (holding_of_upper_none rfl).trans (holding_of_atMemory upper).symm
  case wanted =>
    unfold outstanding
    rw [port]
    rfl
  all_goals rfl

/-- The answer as the upper port shows it. -/
def shownAnswer : PassAnswer → BusAnswer
  | .done ws => .done ws
  | .fault => .fault

theorem exec_passReadAnswer {s : State} {a : BusAddr} {n : Nat} (answer : PassAnswer) (there : atMemory s = some (.read a n))
    (quiet : Quiet s) : exec (.passThroughReadAnswer answer none) s =
      .next (arbitrate (answerUpper (shownAnswer answer) (freePort (clearAnswers s)))) := by
  refine congrArg Host.Outcome.next ?_
  rw [← finishEvent_of_quiet ((portsOnly_answered there (shownAnswer answer)).quiet quiet)]
  unfold passReadAnswered
  rw [there]
  cases answer <;> rfl

/-- Settles O31. -/
theorem passThroughReadIsAnswered : Obligations.PassThroughReadIsAnswered := by
  intro s a n answer there quiet
  refine ⟨_, exec_passReadAnswer answer there quiet, arbitrate_upper_none rfl, ?answers, ?descriptors, ?slots, ?idle, ?single, ?_⟩
  case answers =>
    rw [(arbitrate_path _).2.2.2.2.2]
    cases answer <;> rfl
  case descriptors => exact (arbitrate_path _).2.1
  case slots => exact (arbitrate_path _).2.2.1
  case idle =>
    intro nobody
    rw [arbitrate_idle (s := answerUpper (shownAnswer answer) (freePort (clearAnswers s))) rfl rfl nobody]
    exact ⟨rfl, nobody⟩
  case single =>
    intro c only
    exact arbitrate_single rfl rfl only
  simp only [arbitrate_keeps]
  exact ⟨rfl, rfl, rfl, rfl, rfl, rfl, rfl, rfl, rfl⟩

/-! ### Watched words (R163, R165) -/

/-- The mask of four byte enables. -/
theorem byteMask_getLsbD : ∀ (e : BitVec 4) (b : Fin 32),
    ((if e.getLsbD 0 then BitVec.ofNat 32 (255 * 2 ^ (8 * 0)) else 0#32) ||| (if e.getLsbD 1 then BitVec.ofNat 32 (255 * 2 ^ (8 * 1)) else 0#32) |||
      (if e.getLsbD 2 then BitVec.ofNat 32 (255 * 2 ^ (8 * 2)) else 0#32) |||
      (if e.getLsbD 3 then BitVec.ofNat 32 (255 * 2 ^ (8 * 3)) else 0#32)).getLsbD b = e.getLsbD (b / 8) := by
  decide

/-- A merge takes each bit of the word written where its byte is enabled. -/
theorem mergeWord_getLsbD (old : Word) (w : BusWord) (b : Fin 32) :
    (mergeWord old w).getLsbD b = if w.enables.getLsbD (b / 8) then w.data.getLsbD b else old.getLsbD b := by
  unfold mergeWord
  dsimp only
  rw [BitVec.getLsbD_or, BitVec.getLsbD_and, BitVec.getLsbD_and, BitVec.getLsbD_not, byteMask_getLsbD]
  cases w.enables.getLsbD (b / 8) <;> simp

theorem wordIn_of_eq {base words addr : Nat} (k : Fin words) (place : addr = base + 4 * k.val) : wordIn base words addr = some k := by
  have index : (addr - base) / 4 = k.val := by omega
  unfold wordIn
  rw [dif_pos ⟨by omega, by rw [index]; exact k.isLt⟩]
  exact congrArg some (Fin.ext index)

theorem classify_ring {g : GroupA} {addr : Nat} (k : Fin 64) (place : addr = g.ringBase + 4 * k.val) (other : addr ≠ 252) :
    classify g true addr = some (.descriptor k) := by
  unfold classify
  rw [if_neg other, if_pos rfl, wordIn_of_eq k place]

theorem exec_passWriteAnswer {s : State} {a : BusAddr} {ws : List BusWord} (done : Bool) (there : atMemory s = some (.write a ws)) :
    exec (.passThroughWriteAnswer done none) s = .next (finishEvent
      (let s1 := answerUpper (if done then .done [] else .fault) (freePort (clearAnswers s))
       if done then wordsAct ws a.toNat s1 else writeFaulted ws a.toNat s1)) := by
  refine congrArg Host.Outcome.next ?_
  unfold passWriteAnswered
  rw [there]
  rfl

/-- A merge into the descriptor shadow that is no state code brings nothing about. -/
theorem wordsAct_descriptor {s : State} {addr : Nat} {w : BusWord} (k : Fin 64)
    (place : classify s.loader.groupA s.path.configured addr = some (.descriptor k)) (plain : k.val % 4 ≠ 2) (quiet : Quiet s) :
    wordsAct [w] addr s = mergeDescriptor k w s ∧ Quiet (mergeDescriptor k w s) := by
  have quietAfter : Quiet (mergeDescriptor k w s) :=
    quiet_of_kept quiet rfl rfl rfl rfl rfl rfl rfl rfl fun _ => id
  refine ⟨?_, quietAfter⟩
  show (match classify s.loader.groupA s.path.configured addr with
    | some x => wordsAct [] (addr + 4) (react reactFuel (watchedWrite x w s))
    | none => wordsAct [] (addr + 4) s) = _
  rw [place]
  have merged : watchedWrite (.descriptor k) w s = mergeDescriptor k w s := if_neg plain
  show react reactFuel (watchedWrite (.descriptor k) w s) = _
  rw [merged, react_of_quiet _ quietAfter]

theorem writeFaulted_single {s : State} {addr : Nat} {w : BusWord}
    (watched : (classify s.loader.groupA s.path.configured addr).isSome = true) :
    writeFaulted [w] addr s = raise { name := .busFault, d0 := wordOfNat addr, d1 := wordOfNat 1 } s := by
  have only : watchedAddrs [w] addr s = [addr] := by
    simp [watchedAddrs, watched]
  unfold writeFaulted
  rw [only]
  rfl

/-- Settles O32. -/
theorem passThroughWriteIsAnswered : Obligations.PassThroughWriteIsAnswered := by
  intro s a w there quiet
  have quietAnswered (x : BusAnswer) := (portsOnly_answered there x).quiet quiet
  constructor
  · intro k configured place other plain
    obtain ⟨acted, quietAfter⟩ := wordsAct_descriptor (w := w) (s := answerUpper (.done []) (freePort (clearAnswers s))) k
      ((congrArg (classify _ · _) configured).trans (classify_ring k place other)) plain (quietAnswered _)
    have write := exec_passWriteAnswer true there
    dsimp only at write
    rw [if_pos rfl, if_pos rfl, acted, finishEvent_of_quiet quietAfter] at write
    refine ⟨_, write, arbitrate_upper_none rfl, ?_⟩
    simp only [arbitrate_path, arbitrate_keeps]
    have merged : (mergeDescriptor k w s).path.descriptors[k] = mergeWord s.path.descriptors[k] w := by simp [mergeDescriptor]
    exact ⟨rfl, rfl, rfl, fun b => (congrArg (BitVec.getLsbD · b) merged).trans (mergeWord_getLsbD _ w b), rfl, rfl, rfl, rfl, rfl, rfl, rfl, rfl, rfl⟩
  · intro watched
    have write := exec_passWriteAnswer false there
    dsimp only at write
    rw [if_neg (by decide), if_neg (by decide),
      writeFaulted_single (s := answerUpper .fault (freePort (clearAnswers s))) watched] at write
    have quietAfter := quiet_of_path (quietAnswered .fault)
      (b := raise { name := .busFault, d0 := wordOfNat a.toNat, d1 := wordOfNat 1 } (answerUpper .fault (freePort (clearAnswers s))))
      (by simp) (by simp) (by simp) (by simp) (by simp) (by simp) (by simp)
    rw [finishEvent_of_quiet quietAfter] at write
    refine ⟨_, write, arbitrate_upper_none (by simp [answerUpper]), ?_⟩
    simp only [arbitrate_path, arbitrate_keeps]
    simp [answerUpper, freePort, clearAnswers, classBit_four, EventName.noticeClass]

/-! ### Discarded answers (R162, R169) -/

theorem portsOnly_freePort {s : State} {a : OwnAccess} {addr : Nat} (withdrawn : s.path.port = some (.own a addr true)) :
    PortsOnly s (freePort s) := by
  constructor
  case wanted =>
    unfold outstanding
    rw [withdrawn]
    rfl
  all_goals rfl

theorem ownAnswered_discarded {f : OwnAccess → Bool} {act : OwnAccess → Nat → State → State} {s : State} {a : OwnAccess} {addr : Nat}
    (withdrawn : s.path.port = some (.own a addr true)) (kind : f a = true) (quiet : Quiet s) :
    ownAnswered f act s = arbitrate (freePort s) := by
  have there : ownAtMemory f s = some (a, addr, true) := by
    unfold ownAtMemory
    rw [withdrawn]
    exact if_pos kind
  unfold ownAnswered
  rw [there]
  exact finishEvent_of_quiet ((portsOnly_freePort withdrawn).quiet quiet)

/-- Settles O33. -/
theorem discardedAnswersChangeNothing : Obligations.DiscardedAnswersChangeNothing := by
  intro s a addr answer b withdrawn quiet
  refine ⟨arbitrate (freePort s), ?answered, ?_⟩
  case answered =>
    cases a <;> exact congrArg Host.Outcome.next (ownAnswered_discarded withdrawn rfl quiet)
  simp only [arbitrate_path, arbitrate_keeps]
  exact ⟨rfl, rfl, rfl, rfl, rfl, rfl, rfl, rfl, rfl, rfl, rfl, rfl⟩

end Sys2Proof.Machine
end

section
/-! The position conditions, each as what it asks of the deck (chapter 2, R136, R137, R139): none is due exactly when each one's
question has the answer no. -/

namespace Sys2Proof.Machine

/-- T lies within a creep stop of a target, in the direction of a REPOSITION move (R33, R113, R122). -/
def RepositionNear (x : Int) (s : State) : Prop :=
  (s.movingAs .backward .reposition = true ∧ s.servos.t ≤ x + s.distance .creepStop) ∨
  (s.movingAs .forward .reposition = true ∧ x - s.distance .creepStop ≤ s.servos.t)

/-- No position condition holds. -/
structure NothingDue (s : State) : Prop where
  /-- no held read is to be released (R21) -/
  held : ∀ r, s.sequencer.recordPoint = some r → s.holding = true → releaseCondition s = false
  /-- the next decision point lies ahead (R38, R53) -/
  decision : ∀ i d rest, s.sequencer.decisions = (i, d) :: rest → s.sequencer.transport.moves = true →
    s.sequencer.dir = some .forward → s.sequencer.startFallback = false → s.servos.t < d
  /-- the release window is not passed (R40) -/
  noShow : ∀ r, s.sequencer.recordPoint = some r → s.movingAs .forward .write = true → s.sequencer.fixed = none →
    s.servos.t ≤ r + s.loader.groupB.xExt
  /-- the erase end lies more than a stop distance away (R43) -/
  erase : ∀ e, s.sequencer.eraseEnd = some e → s.movingAs .forward .erase = true → s.sequencer.fixed = none →
    s.servos.t < e - s.distance .stop
  /-- the backup target is not near (R113, R122) -/
  backup : ∀ r, s.sequencer.recovery = some r → r.phase = .backup → ¬RepositionNear r.target s
  /-- the approach point is not near (R33) -/
  approach : ∀ q, s.sequencer.approach = some q → ¬RepositionNear q s
  /-- the blank limit is not exceeded (R47) -/
  blank : ∀ b, s.sequencer.blankRef = some b → s.readingUnderway = true → s.sequencer.fixed = none →
    (s.servos.t - b).natAbs ≤ s.loader.groupB.blankLimit
  /-- backward motion is not at the load point (R49) -/
  bot : s.sequencer.transport.underway = true → s.sequencer.dir = some .backward → 0 < s.servos.t
  /-- a forward read or space is not beyond the EOT limit (R50) -/
  eot : s.runningOrder = some .readFwd ∨ s.runningOrder = some .spaceFwd → s.sequencer.held = false →
    s.sequencer.transport.moves = true → s.sequencer.dir = some .forward →
    s.sequencer.purpose = some .read ∨ s.sequencer.purpose = some .space → s.sequencer.fixed = none → s.beyondEot = false
  /-- a fast rewind is not within the approach distance (R136) -/
  near : s.rewindStep = some .ramp ∨ s.rewindStep = some .cruise → s.sequencer.haltStop = false → s.sequencer.fixed = none →
    s.farFromLoadPoint = true
  /-- a rewind's creep is not past its limit (R137) -/
  limit : s.rewindStep = some .creep → s.sequencer.haltStop = false → s.sequencer.fixed = none →
    -(s.loader.groupB.approachDistance : Int) ≤ s.servos.t
  /-- the leader is not wound (R139) -/
  leader : ∀ l, s.sequencer.leaderStart = some l → s.sequencer.phase = some .leader → s.generator.mode ≠ .decel →
    s.generator.mode ≠ .fallback → s.sequencer.fixed = none → l - 40000 + s.distance .creepStop < s.servos.t

section
variable {s : State}

theorem heldRelease_none_iff : heldRelease s = none ↔
    ∀ r, s.sequencer.recordPoint = some r → s.holding = true → releaseCondition s = false := by
  unfold heldRelease
  split <;> simp_all

theorem decisionDue_none_iff : decisionDue s = none ↔ ∀ i d rest, s.sequencer.decisions = (i, d) :: rest →
    s.sequencer.transport.moves = true → s.sequencer.dir = some .forward → s.sequencer.startFallback = false → s.servos.t < d := by
  unfold decisionDue State.tapePos
  split
  · next i d rest e =>
    simp only [e, ite_eq_right_iff, reduceCtorEq, imp_false, Bool.and_eq_true, decide_eq_true_eq, Bool.not_eq_true',
      List.cons.injEq, Prod.mk.injEq, and_imp]
    constructor
    · rintro due i' d' rest' rfl rfl rfl moves dir fallback
      exact Int.not_le.mp fun past => due ⟨⟨⟨moves, dir⟩, past⟩, fallback⟩
    · rintro ahead ⟨⟨⟨moves, dir⟩, past⟩, fallback⟩
      exact Int.not_le.mpr (ahead i d rest rfl rfl rfl moves dir fallback) past
  · next e => simp [e]

theorem noShowDue_none_iff : noShowDue s = none ↔ ∀ r, s.sequencer.recordPoint = some r → s.movingAs .forward .write = true →
    s.sequencer.fixed = none → s.servos.t ≤ r + s.loader.groupB.xExt := by
  unfold noShowDue State.tapePos State.groupB
  split <;> simp_all
  grind

theorem eraseDue_none_iff : eraseDue s = none ↔ ∀ e, s.sequencer.eraseEnd = some e → s.movingAs .forward .erase = true →
    s.sequencer.fixed = none → s.servos.t < e - s.distance .stop := by
  unfold eraseDue State.tapePos
  split <;> simp_all
  grind

theorem repositionDue_none_iff : repositionDue s = none ↔
    (∀ r, s.sequencer.recovery = some r → r.phase = .backup → ¬RepositionNear r.target s) ∧
    ∀ q, s.sequencer.approach = some q → ¬RepositionNear q s := by
  unfold repositionDue RepositionNear State.tapePos
  cases s.sequencer.recovery <;> cases s.sequencer.approach <;> simp

theorem blankDue_none_iff : blankDue s = none ↔ ∀ b, s.sequencer.blankRef = some b → s.readingUnderway = true →
    s.sequencer.fixed = none → (s.servos.t - b).natAbs ≤ s.loader.groupB.blankLimit := by
  unfold blankDue State.tapePos State.groupB
  split <;> simp_all
  grind

theorem botDue_none_iff : botDue s = none ↔
    (s.sequencer.transport.underway = true → s.sequencer.dir = some .backward → 0 < s.servos.t) := by
  unfold botDue State.tapePos
  simp

theorem eotDue_none_iff : eotDue s = none ↔ (s.runningOrder = some .readFwd ∨ s.runningOrder = some .spaceFwd →
    s.sequencer.held = false → s.sequencer.transport.moves = true → s.sequencer.dir = some .forward →
    s.sequencer.purpose = some .read ∨ s.sequencer.purpose = some .space → s.sequencer.fixed = none → s.beyondEot = false) := by
  unfold eotDue
  simp
  grind

theorem rewindNear_none_iff : rewindNear s = none ↔ (s.rewindStep = some .ramp ∨ s.rewindStep = some .cruise →
    s.sequencer.haltStop = false → s.sequencer.fixed = none → s.farFromLoadPoint = true) := by
  unfold rewindNear
  simp
  grind

theorem rewindLimit_none_iff : rewindLimit s = none ↔ (s.rewindStep = some .creep → s.sequencer.haltStop = false →
    s.sequencer.fixed = none → -(s.loader.groupB.approachDistance : Int) ≤ s.servos.t) := by
  unfold rewindLimit State.tapePos State.groupB
  simp
  grind

theorem leaderDue_none_iff : leaderDue s = none ↔ ∀ l, s.sequencer.leaderStart = some l → s.sequencer.phase = some .leader →
    s.generator.mode ≠ .decel → s.generator.mode ≠ .fallback → s.sequencer.fixed = none →
    l - 40000 + s.distance .creepStop < s.servos.t := by
  unfold leaderDue State.tapePos Config.leaderSteps
  split <;> simp_all
  grind

end

theorem positionEvent_none_iff_nothingDue {s : State} : positionEvent s = none ↔ NothingDue s := by
  rw [positionEvent_none_iff]
  constructor
  · intro n
    obtain ⟨backup, approach⟩ := repositionDue_none_iff.mp n.reposition
    exact ⟨heldRelease_none_iff.mp n.held, decisionDue_none_iff.mp n.decision, noShowDue_none_iff.mp n.noShow,
      eraseDue_none_iff.mp n.erase, backup, approach, blankDue_none_iff.mp n.blank, botDue_none_iff.mp n.bot,
      eotDue_none_iff.mp n.eot, rewindNear_none_iff.mp n.near, rewindLimit_none_iff.mp n.limit, leaderDue_none_iff.mp n.leader⟩
  · intro n
    exact ⟨heldRelease_none_iff.mpr n.held, decisionDue_none_iff.mpr n.decision, noShowDue_none_iff.mpr n.noShow,
      eraseDue_none_iff.mpr n.erase, repositionDue_none_iff.mpr ⟨n.backup, n.approach⟩, blankDue_none_iff.mpr n.blank,
      botDue_none_iff.mpr n.bot, eotDue_none_iff.mpr n.eot, rewindNear_none_iff.mpr n.near, rewindLimit_none_iff.mpr n.limit,
      leaderDue_none_iff.mpr n.leader⟩

theorem quiet_iff_nothingDue {s : State} :
    Quiet s ↔ s.signals = [] ∧ NothingDue s ∧ settlementDue s = none ∧ handOverDue s = none := by
  rw [quiet_iff, positionEvent_none_iff_nothingDue]

/-- What the position conditions look at, alike in two states. -/
structure SamePlace (a b : State) : Prop where
  sequencer : b.sequencer = a.sequencer
  slowing : a.generator.mode = .decel ∨ a.generator.mode = .fallback → b.generator.mode = .decel ∨ b.generator.mode = .fallback
  active : b.generator.active = a.generator.active
  tape : b.servos.t = a.servos.t
  groupB : b.loader.groupB = a.loader.groupB
  order : b.runningOrder = a.runningOrder
  holding : b.holding = a.holding

theorem NothingDue.of_samePlace {a b : State} (n : NothingDue a) (p : SamePlace a b) : NothingDue b := by
  obtain ⟨sequencer, slowing, active, tape, groupB, order, holding⟩ := p
  have near (x : Int) : RepositionNear x b ↔ RepositionNear x a := by
    unfold RepositionNear State.movingAs State.distance
    rw [sequencer, active, tape]
  constructor
  case held =>
    have same : releaseCondition b = releaseCondition a := by
      unfold releaseCondition State.tapePos State.groupB
      rw [sequencer, tape, groupB, order]
    rw [sequencer, holding, same]
    exact n.held
  case decision => rw [sequencer, tape]; exact n.decision
  case noShow => unfold State.movingAs; rw [sequencer, tape, groupB]; exact n.noShow
  case erase => unfold State.movingAs State.distance; rw [sequencer, tape, active]; exact n.erase
  case backup => intro r; rw [sequencer, near]; exact n.backup r
  case approach => intro q; rw [sequencer, near]; exact n.approach q
  case blank => unfold State.readingUnderway; rw [sequencer, tape, groupB]; exact n.blank
  case bot => rw [sequencer, tape]; exact n.bot
  case eot => unfold State.beyondEot State.tapePos State.groupB; rw [sequencer, tape, groupB, order]; exact n.eot
  case near =>
    unfold State.rewindStep State.farFromLoadPoint State.tapePos State.groupB
    rw [sequencer, tape, groupB]
    exact n.near
  case limit => unfold State.rewindStep; rw [sequencer, tape, groupB]; exact n.limit
  case leader =>
    unfold State.distance
    rw [sequencer, tape, active]
    intro l started leader notDecel notFallback
    exact n.leader l started leader (fun slows => (slowing (.inl slows)).elim notDecel notFallback)
      fun slows => (slowing (.inr slows)).elim notDecel notFallback

/-- In STOPPING a decision point and the EOT limit alone can still be met (R28). -/
theorem nothingDue_of_stopping {s : State} (stopping : s.sequencer.transport = .stopping)
    (decision : ∀ i d rest, s.sequencer.decisions = (i, d) :: rest → s.sequencer.dir = some .forward →
      s.sequencer.startFallback = false → s.servos.t < d)
    (eot : s.runningOrder = some .readFwd ∨ s.runningOrder = some .spaceFwd → s.sequencer.held = false →
      s.sequencer.dir = some .forward → s.sequencer.purpose = some .read ∨ s.sequencer.purpose = some .space →
      s.sequencer.fixed = none → s.beyondEot = false)
    (leader : s.sequencer.phase ≠ some .leader ∨ s.generator.mode = .fallback) : NothingDue s := by
  have still (d : Direction) (p : Purpose) : s.movingAs d p = false := by simp [State.movingAs, stopping, Transport.underway]
  have reading : s.readingUnderway = false := by simp [State.readingUnderway, stopping, Transport.underway]
  have noStep : s.rewindStep = none := by simp [State.rewindStep, stopping]
  have away (x : Int) : ¬RepositionNear x s := by simp [RepositionNear, still]
  exact {
    held := fun r _ _ => by simp [releaseCondition, stopping]
    decision := fun i d rest e _ => decision i d rest e
    noShow := fun r _ moving => by simp [still] at moving
    erase := fun e _ moving => by simp [still] at moving
    backup := fun r _ _ => away _
    approach := fun q _ => away _
    blank := fun b _ moving => by simp [reading] at moving
    bot := fun underway => by simp [stopping, Transport.underway] at underway
    eot := fun order held _ => eot order held
    near := fun step => by simp [noStep] at step
    limit := fun step => by simp [noStep] at step
    leader := fun l _ phase _ notFallback => leader.elim (fun away => absurd phase away) fun falls => absurd falls notFallback }

end Sys2Proof.Machine
end

section
/-! Memory's answers to the device's own reads and writes: segment fetches and characterization headers (R63, R70), sweep reads
(R172), report accesses (R187, R188). -/

namespace Sys2Proof.Machine

/-! ### Quiet ends after an answer -/

theorem handOverDue_none_of {a b : State} (none : handOverDue a = none) (intake : b.intake = a.intake)
    (sweep : b.path.sweep.isSome = a.path.sweep.isSome) : handOverDue b = Option.none := by
  unfold handOverDue at none ⊢
  rw [intake, sweep]
  revert none
  split
  · exact id
  · split <;> simp

/-- An event that stays at its place brings nothing more about, as long as it lets no settlement and no hand-over begin. -/
theorem quiet_of_samePlace {a b : State} (quiet : Quiet a) (place : SamePlace a b) (signals : b.signals = a.signals)
    (settlement : settlementDue a = none → settlementDue b = none) (handOver : handOverDue a = none → handOverDue b = none) :
    Quiet b := by
  obtain ⟨noSignal, nothing, noSettlement, noHandOver⟩ := quiet_iff_nothingDue.mp quiet
  exact quiet_iff_nothingDue.mpr ⟨signals.trans noSignal, nothing.of_samePlace place, settlement noSettlement, handOver noHandOver⟩

/-- The claimant acts on the answer to its access when its claim still stands. -/
theorem ownAnswered_wanted {f : OwnAccess → Bool} {s : State} {a : OwnAccess} {addr : Nat} (act : OwnAccess → Nat → State → State)
    (there : s.path.port = some (.own a addr false)) (kind : f a = true) :
    ownAnswered f act s = finishEvent (act a addr (freePort s)) := by
  have own : ownAtMemory f s = some (a, addr, false) := by
    unfold ownAtMemory
    rw [there]
    exact if_pos kind
  unfold ownAnswered
  rw [own]
  rfl

/-- A free lower port can only let a settlement begin that was waiting for the access just answered. -/
theorem outstanding_freePort {f : OwnAccess → Bool} {s : State} {a : OwnAccess} {addr : Nat} {d : Bool}
    (there : s.path.port = some (.own a addr d)) (kind : f a = false) : outstanding f (freePort s) = outstanding f s := by
  unfold outstanding
  rw [there]
  cases d
  · simp [freePort, kind]
  · rfl

/-! ### The generator's reads (R63, R70) -/

theorem fetchAct_arrives {ws : Vector Word 8} {o addr : Nat} {head : Option Chain} {s : State} (moving : s.generator.mode ≠ .hold)
    (usable : fetchedOk (segmentOf ws[0] ws[1]) s.loader.groupA.storeSize = true) :
    fetchAct (.done ws) (.fetch o head) addr s =
      s.onGenerator fun g => { g with reload := some { segment := segmentOf ws[0] ws[1], head := head } } := by
  unfold fetchAct fetchAnswered segmentArrives
  dsimp only
  rw [if_pos usable]
  split
  · next hold => exact absurd hold moving
  all_goals rfl

/-- While a chain of the store is under way a settlement that reads stays waiting. -/
theorem canSettle_moving {p : Nat} {s : State} (moving : s.generator.mode ≠ .hold) (store : s.generator.active.source.isSome = true) :
    canSettle p s = (s.generator.charact.isNone && decide (p = Config.allOnes)) := by
  unfold canSettle fetching
  simp [moving, store]

theorem settlementDue_fetched {a b : State} (waits : a.generator.loadSet = none ∨ a.generator.active.source.isSome = true)
    (moving : a.generator.mode ≠ .hold) (load : b.generator.loadSet = a.generator.loadSet) (mode : b.generator.mode = a.generator.mode)
    (active : b.generator.active = a.generator.active) (charact : b.generator.charact = a.generator.charact)
    (none : settlementDue a = none) : settlementDue b = Option.none := by
  obtain nobody | store := waits
  · exact settlementDue_of_none (load.trans nobody)
  · refine settlementDue_none_of none load fun p => ?_
    rw [canSettle_moving moving store, canSettle_moving (mode ▸ moving) (active ▸ store), charact]
    exact id

theorem charactAnswered_header {c : Characterization} {ws : Vector Word 8} {s : State} (walking : s.generator.charact = some c)
    (fresh : c.headerRead = false) (format : formatOk ws[0] = true)
    (places : ∀ j : Fin 6, placeOk (ws[j.val + 1]).toNat s.loader.groupA.storeSize = true) :
    charactAnswered (.done ws) s =
      beginWalk 0 { c with label := ws[7], heads := #v[ws[1].toNat, ws[2].toNat, ws[3].toNat, ws[4].toNat, ws[5].toNat, ws[6].toNat] } s := by
  have heads : (#v[ws[1].toNat, ws[2].toNat, ws[3].toNat, ws[4].toNat, ws[5].toNat, ws[6].toNat] : Vector Nat 6).toList.all
      (fun h => placeOk h s.loader.groupA.storeSize) = true := by
    simp
    exact ⟨places 0, places 1, places 2, places 3, places 4, places 5⟩
  have arrives : headerArrives c ws s =
      beginWalk 0 { c with label := ws[7], heads := #v[ws[1].toNat, ws[2].toNat, ws[3].toNat, ws[4].toNat, ws[5].toNat, ws[6].toNat] } s := by
    unfold headerArrives
    dsimp only
    rw [format, heads]
    rfl
  unfold charactAnswered
  rw [walking]
  dsimp only
  simp only [fresh, Bool.false_eq_true, if_false, arrives]
  rfl

/-- Settles O34. -/
theorem generatorReadsAreAnswered : Obligations.GeneratorReadsAreAnswered := by
  constructor
  · intro s o addr head ws there moving waits usable quiet
    have answered := ownAnswered_wanted (f := OwnAccess.isFetch) (fetchAct (.done ws)) there rfl
    rw [fetchAct_arrives (s := freePort s) moving usable, finishEvent_of_quiet] at answered
    · refine ⟨_, congrArg Host.Outcome.next answered, ?_⟩
      simp only [arbitrate_keeps, onGenerator_generator]
      simp
    · exact quiet_of_samePlace quiet ⟨rfl, id, rfl, rfl, rfl, rfl, rfl⟩ rfl (settlementDue_fetched waits moving rfl rfl rfl rfl) id
  · intro s o n addr c ws there walking fresh format places quiet
    have answered := ownAnswered_wanted (f := OwnAccess.isCharact) (fun _ _ => charactAnswered (.done ws)) there rfl
    rw [charactAnswered_header (s := freePort s) walking fresh format places, finishEvent_of_quiet] at answered
    · refine ⟨_, congrArg Host.Outcome.next answered, ?_⟩
      simp only [arbitrate_keeps]
      exact ⟨rfl, rfl, rfl, rfl, rfl, rfl, rfl, rfl, rfl⟩
    · refine quiet_of_samePlace quiet ⟨rfl, id, rfl, rfl, rfl, rfl, rfl⟩ rfl (fun none => settlementDue_none_of none rfl ?_) id
      intro p settles
      simp [canSettle, beginWalk, makeClaim] at settles

/-! ### Report accesses (R187, R188) -/

theorem mark_onReporter (n : RecordName) (s : State) :
    mark n s = s.onReporter fun r => { r with dirty := marked n r.dirty } := by
  unfold mark marked State.onReporter
  dsimp only
  split <;> rfl

theorem imageOf_ends (n : RecordName) (u : BitVec 16) (s : State) :
    (imageOf n u s).head? = some (u.setWidth 32) ∧ (imageOf n u s).getLast? = some (u.setWidth 32) := by
  unfold imageOf framed updateWord
  exact ⟨rfl, by rw [← List.cons_append, List.getLast?_append]; rfl⟩

theorem recordWriteDue_of_dirty {s : State} {n : RecordName} {rest : List RecordName} (configured : s.reporter.configured = true)
    (idle : s.reporter.writing = none) (free : outstanding OwnAccess.isReport s = false) (dirty : s.reporter.dirty = n :: rest) :
    recordWriteDue s = some (n, rest) := by
  unfold recordWriteDue
  simp [configured, idle, free, dirty]

theorem portsOnly_report {s : State} {o addr : Nat} {data : List Word} (r : Reporter)
    (there : s.path.port = some (.own (.report o data) addr false)) :
    PortsOnly s ((freePort s).onReporter fun _ => r) := by
  constructor
  case wanted => exact outstanding_freePort there rfl
  all_goals rfl

/-- Settles O41. -/
theorem reportRecordsAreWritten : Obligations.ReportRecordsAreWritten := by
  constructor
  · intro s n rest configured idle free dirty
    have begun : reportWriteBegin s = arbitrate (beginRecordWrite n rest s) := by
      unfold reportWriteBegin
      rw [recordWriteDue_of_dirty configured idle free dirty]
    refine ⟨_, congrArg Host.Outcome.next begun, ?_⟩
    simp only [arbitrate_keeps, beginRecordWrite_keeps, imageOf_ends, and_true]
    rfl
  · intro s o addr data n second there writing quiet
    have answered (done : Bool) := ownAnswered_wanted (f := OwnAccess.isReport) (fun _ _ => reportAnswered done) there rfl
    have ends (done : Bool) (r : Reporter) (after : reportAnswered done (freePort s) = (freePort s).onReporter fun _ => r) :
        exec (.reportWriteAnswer done) s = .next (arbitrate ((freePort s).onReporter fun _ => r)) := by
      refine congrArg Host.Outcome.next ((answered done).trans ?_)
      rw [after, finishEvent_of_quiet ((portsOnly_report r there).quiet quiet)]
    constructor
    · intro last
      refine ⟨_, ends true { s.reporter with writing := none } ?_, ?_⟩
      · have whole : (decide (n = .status) && !second) = false := by
          obtain other | rfl := last
          · simp [other]
          · simp
        unfold reportAnswered
        rw [show (freePort s).reporter.writing = _ from writing]
        dsimp only
        rw [if_pos rfl, whole]
        rfl
      · simp only [arbitrate_keeps]
        exact ⟨rfl, rfl, rfl, rfl, rfl, rfl, rfl, rfl, rfl⟩
    · refine ⟨_, ends false { s.reporter with writing := none, dirty := marked n s.reporter.dirty } ?_, ?_⟩
      · unfold reportAnswered
        rw [show (freePort s).reporter.writing = _ from writing]
        dsimp only
        rw [if_neg (by decide)]
        exact mark_onReporter n _
      · simp only [arbitrate_keeps]
        exact ⟨rfl, rfl, rfl, rfl, rfl, rfl, rfl, rfl, rfl⟩

end Sys2Proof.Machine
end

section
/-! The configuration sweep (R25, R172, R184, R190): its reads replace the shadows, and the last one has the Block Table rebuilt. -/

namespace Sys2Proof.Machine

/-! ### Shadows (R172) -/

theorem setAt_getElem {n : Nat} (first : Nat) (ws : Vector Word 8) (l : List (Fin 8)) (v : Vector Word n) (i : Fin n) :
    (l.foldl (fun a j => if h : first + j.val < n then a.set (first + j.val) ws[j] else a) v)[i] =
      if h : first ≤ i.val ∧ i.val < first + 8 ∧ (⟨(i.val - first) % 8, Nat.mod_lt _ (by decide)⟩ : Fin 8) ∈ l then ws[i.val - first]'(by omega)
      else v[i] := by
  induction l generalizing v with
  | nil => simp
  | cons j l ih =>
    rw [List.foldl_cons, ih]
    by_cases here : first + j.val = i.val
    · have index : i.val - first = j.val := by omega
      have place : (⟨(i.val - first) % 8, Nat.mod_lt _ (by decide)⟩ : Fin 8) = j := Fin.ext (by show (i.val - first) % 8 = j.val; omega)
      rw [dif_pos (show first + j.val < n by omega), dif_pos (show first ≤ i.val ∧ i.val < first + 8 ∧ _ ∈ j :: l from
        ⟨by omega, by omega, by rw [place]; exact List.mem_cons_self⟩)]
      split
      · rfl
      · simp [here, index]
    · have other : ∀ h : first ≤ i.val ∧ i.val < first + 8, (⟨(i.val - first) % 8, Nat.mod_lt _ (by decide)⟩ : Fin 8) ≠ j := by
        intro within e
        have := congrArg Fin.val e
        dsimp only at this
        omega
      have kept : (if h : first + j.val < n then v.set (first + j.val) ws[j] else v)[i] = v[i] := by
        split
        · rw [Fin.getElem_fin, Vector.getElem_set_ne _ _ here]
          rfl
        · rfl
      rw [kept]
      by_cases within : first ≤ i.val ∧ i.val < first + 8
      · simp [within, other within]
      · rw [dif_neg (fun h => within ⟨h.1, h.2.1⟩), dif_neg (fun h => within ⟨h.1, h.2.1⟩)]

/-- Eight consecutive words are replaced and the others stay. -/
theorem setEight_getElem {n : Nat} (v : Vector Word n) (first : Nat) (ws : Vector Word 8) (i : Fin n) :
    (setEight v first ws)[i] = if h : first ≤ i.val ∧ i.val < first + 8 then ws[i.val - first]'(by omega) else v[i] := by
  unfold setEight
  rw [setAt_getElem]
  simp [List.mem_finRange]

theorem setSwept_descriptors (j : Nat) (ws : Vector Word 8) (s : State) (i : Fin 64) :
    (setSwept j ws s).path.descriptors[i] =
      if h : 8 * j ≤ i.val ∧ i.val < 8 * j + 8 then ws[i.val - 8 * j]'(by omega) else s.path.descriptors[i] := by
  by_cases ring : j < 8
  · have swept : (setSwept j ws s).path.descriptors = setEight s.path.descriptors (8 * j) ws := by simp [setSwept, ring]
    rw [swept, setEight_getElem]
  · have kept : (setSwept j ws s).path.descriptors = s.path.descriptors := by simp [setSwept, ring]
    rw [kept, dif_neg (by omega)]

theorem setSwept_slots (j : Nat) (ws : Vector Word 8) (s : State) (i : Fin 32) :
    (setSwept j ws s).path.slots[i] =
      if h : 8 * j ≤ i.val + 64 ∧ i.val + 64 < 8 * j + 8 then ws[i.val + 64 - 8 * j]'(by omega) else s.path.slots[i] := by
  by_cases ring : j < 8
  · have kept : (setSwept j ws s).path.slots = s.path.slots := by simp [setSwept, ring]
    rw [kept, dif_neg (by omega)]
  · have swept : (setSwept j ws s).path.slots = setEight s.path.slots (8 * (j - 8)) ws := by simp [setSwept, ring]
    rw [swept, setEight_getElem]
    by_cases within : 8 * (j - 8) ≤ i.val ∧ i.val < 8 * (j - 8) + 8
    · have index : i.val - 8 * (j - 8) = i.val + 64 - 8 * j := by omega
      rw [dif_pos within, dif_pos (by omega)]
      simp only [index]
    · rw [dif_neg within, dif_neg (by omega)]

theorem setSwept_path (j : Nat) (ws : Vector Word 8) (s : State) :
    (setSwept j ws s).path.sweep = s.path.sweep ∧ (setSwept j ws s).path.upper = s.path.upper ∧
    (setSwept j ws s).path.claims = s.path.claims ∧ (setSwept j ws s).path.port = s.path.port := by
  by_cases ring : j < 8 <;> simp [setSwept, ring]

/-! ### One sweep read (R172) -/

/-- The shadows as a sweep read's answer leaves them, with BUS_FAULT for a FAULT. -/
def sweepTaken (k addr : Nat) (answer : OwnAnswer) (s : State) : State :=
  match answer with
  | .done ws => setSwept (sweepPiece s.loader.groupA k) ws s
  | .fault => raise { name := .busFault, d0 := wordOfNat addr, d1 := 8 }
      (setSwept (sweepPiece s.loader.groupA k) (Vector.replicate 8 0) s)

theorem sweepTaken_path {k addr : Nat} {answer : OwnAnswer} {ws : Vector Word 8} {s : State}
    (words : answer = .done ws ∨ (answer = .fault ∧ ws = Vector.replicate 8 0)) :
    (sweepTaken k addr answer s).path = (setSwept (sweepPiece s.loader.groupA k) ws s).path := by
  obtain rfl | ⟨rfl, rfl⟩ := words <;> simp [sweepTaken]

@[simp] theorem sweepTaken_keeps (k addr : Nat) (answer : OwnAnswer) (s : State) :
    (sweepTaken k addr answer s).tracker = s.tracker ∧ (sweepTaken k addr answer s).sequencer = s.sequencer ∧
    (sweepTaken k addr answer s).generator = s.generator ∧ (sweepTaken k addr answer s).servos = s.servos ∧
    (sweepTaken k addr answer s).links = s.links ∧ (sweepTaken k addr answer s).sensors = s.sensors ∧
    (sweepTaken k addr answer s).intake = s.intake ∧ (sweepTaken k addr answer s).loader = s.loader ∧
    (sweepTaken k addr answer s).signals = s.signals := by
  cases answer <;> simp [sweepTaken]

theorem sweepTaken_reporter_done (k addr : Nat) (ws : Vector Word 8) (s : State) :
    (sweepTaken k addr (.done ws) s).reporter = s.reporter := by
  simp [sweepTaken]

theorem sweepTaken_pending_fault (k addr : Nat) (s : State) :
    (sweepTaken k addr .fault s).reporter.pendingClasses = s.reporter.pendingClasses ||| 0x10#9 := by
  simp [sweepTaken, classBit_four, EventName.noticeClass]

theorem sweepAnswered_eq (k addr : Nat) (answer : OwnAnswer) (s : State) :
    sweepAnswered k addr answer s =
      if k < 11 then makeClaim (.sweep (k + 1)) false ((sweepTaken k addr answer s).onPath fun p => { p with sweep := some (k + 1) })
      else endSweep (sweepTaken k addr answer s) := by
  unfold sweepAnswered sweepTaken
  cases answer <;> rfl

theorem exec_sweepReadAnswer {s : State} {k addr : Nat} (answer : OwnAnswer) (there : s.path.port = some (.own (.sweep k) addr false)) :
    exec (.sweepReadAnswer answer) s = .next (finishEvent (sweepAnswered k addr answer (freePort s))) :=
  congrArg Host.Outcome.next (ownAnswered_wanted (f := OwnAccess.isSweep) (sweepAct answer) there rfl)

/-- The state after a sweep read that another follows. -/
def sweepGoesOn (k addr : Nat) (answer : OwnAnswer) (s : State) : State :=
  makeClaim (.sweep (k + 1)) false ((sweepTaken k addr answer (freePort s)).onPath fun p => { p with sweep := some (k + 1) })

theorem sweepGoesOn_ports {k addr : Nat} (answer : OwnAnswer) {ws : Vector Word 8} (s : State)
    (words : answer = .done ws ∨ (answer = .fault ∧ ws = Vector.replicate 8 0)) :
    (sweepGoesOn k addr answer s).path.upper = s.path.upper ∧
    (sweepGoesOn k addr answer s).path.claims = s.path.claims ++ [{ access := .sweep (k + 1), urgent := false, passOver := 0 }] ∧
    (sweepGoesOn k addr answer s).path.port = none := by
  simp [sweepGoesOn, makeClaim, sweepTaken_path words, setSwept_path, freePort]

theorem quiet_sweepGoesOn {s : State} {k addr : Nat} {answer : OwnAnswer} {ws : Vector Word 8} (quiet : Quiet s)
    (there : s.path.port = some (.own (.sweep k) addr false)) (sweeping : s.path.sweep = some k)
    (words : answer = .done ws ∨ (answer = .fault ∧ ws = Vector.replicate 8 0)) : Quiet (sweepGoesOn k addr answer s) := by
  obtain ⟨upper, claims, port⟩ := sweepGoesOn_ports (k := k) (addr := addr) answer s words
  have kept : (sweepGoesOn k addr answer s).generator = s.generator ∧ (sweepGoesOn k addr answer s).intake = s.intake := by
    simp [sweepGoesOn, freePort]
  have fetches : outstanding OwnAccess.isFetch (sweepGoesOn k addr answer s) = outstanding OwnAccess.isFetch s := by
    unfold outstanding
    rw [claims, port, there]
    simp [OwnAccess.isFetch]
  refine quiet_of_samePlace quiet ?place (by simp [sweepGoesOn, freePort]) ?settlement fun none => handOverDue_none_of none kept.2 ?_
  case place =>
    refine ⟨by simp [sweepGoesOn, freePort], fun slows => by rw [kept.1]; exact slows, by rw [kept.1], by simp [sweepGoesOn, freePort],
      by simp [sweepGoesOn, freePort], order_congr kept.2, holding_congr upper⟩
  case settlement =>
    exact fun none => settlementDue_none_of none (by rw [kept.1]) fun p => by rw [canSettle_of_wanted p kept.1 fetches]; exact id
  · rw [sweeping]
    rfl

/-- Settles O39. -/
theorem sweepReadsReplaceShadows : Obligations.SweepReadsReplaceShadows := by
  constructor
  · intro g k early apart
    unfold accessAddr pieceAddr sweepPiece
    dsimp only
    repeat' split
    all_goals omega
  · intro s k j addr ws there sweeping early quiet place answer words
    have piece : sweepPiece s.loader.groupA k = j := by
      unfold sweepPiece
      revert place
      repeat' split
      all_goals omega
    have read := exec_sweepReadAnswer answer there
    rw [sweepAnswered_eq, if_pos early] at read
    change _ = Host.Outcome.next (finishEvent (sweepGoesOn k addr answer s)) at read
    rw [finishEvent_of_quiet (quiet_sweepGoesOn quiet there sweeping words)] at read
    have shadows : (sweepGoesOn k addr answer s).path.descriptors = (setSwept j ws (freePort s)).path.descriptors ∧
        (sweepGoesOn k addr answer s).path.slots = (setSwept j ws (freePort s)).path.slots := by
      rw [← piece]
      simp [sweepGoesOn, makeClaim, sweepTaken_path words, freePort]
    refine ⟨_, read, ?_⟩
    simp only [arbitrate_path, arbitrate_keeps, shadows]
    refine ⟨rfl, fun i => setSwept_descriptors j ws (freePort s) i, fun i => setSwept_slots j ws (freePort s) i, ?_, ?_, ?_⟩
    · rintro rfl
      exact sweepTaken_reporter_done k addr ws (freePort s)
    · rintro rfl
      exact sweepTaken_pending_fault k addr (freePort s)
    · simp [sweepGoesOn, freePort]

/-! ### The rebuild of the Block Table (R25) -/

/-- The shadows hold the code FILLED. -/
def saysFilled (i : Fin 16) (s : State) : Bool := decide (s.descriptorWord i 2 = 1#32)

/-- The shadows hold a valid entry. -/
def entryGood (i : Fin 16) (s : State) : Bool :=
  entryValid (s.descriptorWord i 0) (s.descriptorWord i 1) s.loader.groupA.bufferSize

/-- The record of a valid FILLED entry. -/
def shadowRecord (i : Fin 16) (s : State) : BlockRecord := filledRecord (s.descriptorWord i 0) (s.descriptorWord i 1)

theorem rebuildRecord_cases (i : Fin 16) (s : State) : rebuildRecord i s =
    if saysFilled i s then
      if entryGood i s then setRecord i (shadowRecord i s) s else raise { name := .descriptorInvalid, index := some i } s
    else s := by
  have code : (s.descriptorWord i 2).toNat = filledCode ↔ saysFilled i s = true := by
    unfold saysFilled filledCode
    rw [decide_eq_true_iff, BitVec.toNat_eq]
    rfl
  unfold rebuildRecord
  simp only [code]
  rfl

theorem saysFilled_congr {a b : State} (i : Fin 16) (path : b.path = a.path) : saysFilled i b = saysFilled i a := by
  unfold saysFilled State.descriptorWord
  rw [path]

theorem entryGood_congr {a b : State} (i : Fin 16) (path : b.path = a.path) (loader : b.loader = a.loader) :
    entryGood i b = entryGood i a := by
  unfold entryGood State.descriptorWord
  rw [path, loader]

theorem shadowRecord_congr {a b : State} (i : Fin 16) (path : b.path = a.path) : shadowRecord i b = shadowRecord i a := by
  unfold shadowRecord State.descriptorWord
  rw [path]

theorem rebuildRecord_record (i j : Fin 16) (s : State) : (rebuildRecord i s).record j =
    if i = j ∧ saysFilled j s = true ∧ entryGood j s = true then shadowRecord j s else s.record j := by
  rw [rebuildRecord_cases]
  by_cases isFilled : saysFilled i s = true
  · by_cases good : entryGood i s = true
    · rw [if_pos isFilled, if_pos good, setRecord_record]
      by_cases here : i = j
      · subst here
        rw [if_pos rfl, if_pos ⟨rfl, isFilled, good⟩]
      · rw [if_neg here, if_neg fun h => here h.1]
    · rw [if_pos isFilled, if_neg good, if_neg (by rintro ⟨rfl, -, yes⟩; exact good yes)]
      exact record_congr (by simp) j
  · rw [if_neg isFilled, if_neg (by rintro ⟨rfl, yes, -⟩; exact isFilled yes)]

theorem rebuilt_record (l : List (Fin 16)) (j : Fin 16) (s : State) : (l.foldl (fun a i => rebuildRecord i a) s).record j =
    if j ∈ l ∧ saysFilled j s = true ∧ entryGood j s = true then shadowRecord j s else s.record j := by
  induction l generalizing s with
  | nil => simp
  | cons i l ih =>
    have path : (rebuildRecord i s).path = s.path := by simp
    have loader : (rebuildRecord i s).loader = s.loader := by simp
    rw [List.foldl_cons, ih, saysFilled_congr j path, entryGood_congr j path loader, shadowRecord_congr j path, rebuildRecord_record]
    by_cases filled : saysFilled j s = true ∧ entryGood j s = true
    · by_cases here : i = j
      · simp [here, filled]
      · simp [here, filled, Ne.symm here]
    · rw [if_neg fun h => filled h.2, if_neg fun h => filled h.2, if_neg fun h => filled h.2]

theorem setRecord_context (i : Fin 16) (r : BlockRecord) (s : State) (none : s.tracker.context = none) :
    (setRecord i r s).tracker.context = Option.none := by
  unfold setRecord recount
  dsimp only
  split <;> simp [none]

/-- The cursors, the out-of-turn flag and the absence of an order context as an empty Block Table has them (R25). -/
structure TableClear (s : State) : Prop where
  record : s.tracker.recordCursor = 0
  receive : s.tracker.receiveCursor = 0
  context : s.tracker.context = none
  outOfTurn : s.tracker.outOfTurn = false

theorem TableClear.congr {a b : State} (c : TableClear a) (tracker : b.tracker = a.tracker) : TableClear b := by
  obtain ⟨record, receive, context, outOfTurn⟩ := c
  rw [← tracker] at record receive context outOfTurn
  exact ⟨record, receive, context, outOfTurn⟩

theorem rebuildRecord_clear {s : State} (i : Fin 16) (c : TableClear s) : TableClear (rebuildRecord i s) := by
  rw [rebuildRecord_cases]
  split
  · split
    · exact ⟨by simp [c.record], by simp [c.receive], setRecord_context _ _ _ c.context, by simp [c.outOfTurn]⟩
    · exact c.congr (by simp)
  · exact c

theorem rebuildRecord_pending {s : State} (i : Fin 16) (class_ : Nat) (pending : s.reporter.pendingClasses.getLsbD class_ = true) :
    (rebuildRecord i s).reporter.pendingClasses.getLsbD class_ = true := by
  rw [rebuildRecord_cases]
  split
  · split
    · rw [setRecord_reporter]; exact pending
    · exact raise_keeps_class _ _ pending
  · exact pending

theorem rebuilt_clear (l : List (Fin 16)) {s : State} (c : TableClear s) : TableClear (l.foldl (fun a i => rebuildRecord i a) s) := by
  induction l generalizing s with
  | nil => exact c
  | cons i l ih => exact ih (rebuildRecord_clear i c)

theorem rebuilt_pending (l : List (Fin 16)) {s : State} (class_ : Nat) (pending : s.reporter.pendingClasses.getLsbD class_ = true) :
    (l.foldl (fun a i => rebuildRecord i a) s).reporter.pendingClasses.getLsbD class_ = true := by
  induction l generalizing s with
  | nil => exact pending
  | cons i l ih => exact ih (rebuildRecord_pending i class_ pending)

/-- An entry that is FILLED and not valid makes class 4 pending. -/
theorem rebuilt_invalid (l : List (Fin 16)) {i : Fin 16} {s : State} (listed : i ∈ l) (isFilled : saysFilled i s = true)
    (bad : entryGood i s = false) : (l.foldl (fun a i => rebuildRecord i a) s).reporter.pendingClasses.getLsbD 4 = true := by
  induction l generalizing s with
  | nil => cases listed
  | cons j l ih =>
    rw [List.foldl_cons]
    obtain rfl | later := List.mem_cons.mp listed
    · apply rebuilt_pending
      rw [rebuildRecord_cases, if_pos isFilled, if_neg (by rw [bad]; decide)]
      exact raise_makes_pending _ _
    · have path : (rebuildRecord j s).path = s.path := by simp
      exact ih later (by rw [saysFilled_congr i path]; exact isFilled)
        (by rw [entryGood_congr i path (by simp)]; exact bad)

theorem emptyTable_tracker (s : State) : (emptyTable s).tracker = Tracker.reset := by
  unfold emptyTable
  exact foldl_keeps (fun a => a.tracker) _ (fun a n => by simp) _ _

theorem emptyTable_clear (s : State) : TableClear (emptyTable s) := by
  constructor <;> rw [emptyTable_tracker] <;> rfl

theorem emptyTable_record (i : Fin 16) (s : State) : (emptyTable s).record i = BlockRecord.blank :=
  (record_congr (emptyTable_tracker s) i : _ = State.reset.record i).trans (reset_record i)

theorem rebuildTable_record (i : Fin 16) (s : State) : (rebuildTable s).record i =
    if saysFilled i s = true ∧ entryGood i s = true then shadowRecord i s else BlockRecord.blank := by
  have path : (emptyTable s).path = s.path := by simp
  unfold rebuildTable
  rw [rebuilt_record, saysFilled_congr i path, entryGood_congr i path (by simp), shadowRecord_congr i path, emptyTable_record]
  simp [List.mem_finRange]

/-! ### The end of the sweep (R172, R184, R190) -/

theorem sweepTold_keeps_table (s : State) : (sweepTold s).tracker = s.tracker ∧ (sweepTold s).path = s.path ∧
    (sweepTold s).reporter.pendingClasses = s.reporter.pendingClasses := by
  unfold sweepTold completeCommit setSetupResult
  split
  · exact ⟨rfl, rfl, rfl⟩
  · dsimp only
    split <;> simp

theorem sweepTold_loader_reads {s : State} {c : SetupCommit} (commit : s.loader.commit = some c)
    (reads : c.groupCDue = true ∨ s.loader.activity = .readingA ∨ s.loader.activity = .readingC) :
    (sweepTold s).loader = { s.loader with commit := some { c with awaitingSweep := false } } := by
  unfold sweepTold
  rw [commit]
  dsimp only
  rw [if_pos (by simpa [or_assoc] using reads)]
  rfl

theorem sweepTold_loader_done {s : State} {c : SetupCommit} (commit : s.loader.commit = some c)
    (done : ¬(c.groupCDue = true ∨ s.loader.activity = .readingA ∨ s.loader.activity = .readingC)) :
    (sweepTold s).loader.commit = none ∧ (sweepTold s).loader.result = { s.loader.result with busy := false } := by
  unfold sweepTold
  rw [commit]
  dsimp only
  rw [if_neg (by simpa [or_assoc] using done)]
  unfold completeCommit setSetupResult
  simp

theorem sweepTold_groups (s : State) : (sweepTold s).loader.groupA = s.loader.groupA ∧
    (sweepTold s).loader.groupB = s.loader.groupB ∧ (sweepTold s).loader.groupC = s.loader.groupC := by
  unfold sweepTold completeCommit setSetupResult
  split
  · exact ⟨rfl, rfl, rfl⟩
  · dsimp only
    split <;> simp

/-- The state in which the Block Table is rebuilt: the last shadows replaced, the sweep over. -/
def sweepOver (addr : Nat) (answer : OwnAnswer) (s : State) : State :=
  (sweepTaken 11 addr answer (freePort s)).onPath fun p => { p with sweep := none }

/-- The state at the end of a sweep. -/
def swept (addr : Nat) (answer : OwnAnswer) (s : State) : State := reportTold (sweepTold (rebuildTable (sweepOver addr answer s)))

theorem swept_path (addr : Nat) (answer : OwnAnswer) (s : State) : (swept addr answer s).path = (sweepOver addr answer s).path := by
  have told : (reportTold (sweepTold (rebuildTable (sweepOver addr answer s)))).path =
      (sweepTold (rebuildTable (sweepOver addr answer s))).path := by simp
  unfold swept
  rw [told, (sweepTold_keeps_table _).2.1]
  simp

theorem swept_tracker (addr : Nat) (answer : OwnAnswer) (s : State) :
    (swept addr answer s).tracker = (rebuildTable (sweepOver addr answer s)).tracker := by
  have told : (reportTold (sweepTold (rebuildTable (sweepOver addr answer s)))).tracker =
      (sweepTold (rebuildTable (sweepOver addr answer s))).tracker := by simp
  unfold swept
  rw [told, (sweepTold_keeps_table _).1]

theorem swept_loader (addr : Nat) (answer : OwnAnswer) (s : State) :
    (swept addr answer s).loader = (sweepTold (rebuildTable (sweepOver addr answer s))).loader := by
  unfold swept
  simp

theorem reportTold_reporter (s : State) :
    (reportTold s).reporter = { s.reporter with configured := true, dirty := allRecords } := rfl

theorem swept_reporter (addr : Nat) (answer : OwnAnswer) (s : State) :
    (swept addr answer s).reporter.configured = true ∧ (swept addr answer s).reporter.dirty = allRecords ∧
    (swept addr answer s).reporter.pendingClasses = (rebuildTable (sweepOver addr answer s)).reporter.pendingClasses := by
  have kept := (sweepTold_keeps_table (rebuildTable (sweepOver addr answer s))).2.2
  unfold swept
  rw [reportTold_reporter]
  simp only [kept, and_self]

theorem rebuildTable_loader (s : State) : (rebuildTable s).loader = s.loader := by simp

theorem swept_deck (addr : Nat) (answer : OwnAnswer) (s : State) :
    (swept addr answer s).sequencer = s.sequencer ∧ (swept addr answer s).generator = s.generator ∧
    (swept addr answer s).servos = s.servos ∧ (swept addr answer s).links = s.links ∧ (swept addr answer s).sensors = s.sensors ∧
    (swept addr answer s).intake = s.intake ∧ (swept addr answer s).signals = s.signals := by
  simp [swept, sweepOver, freePort]

theorem quiet_swept {addr : Nat} {answer : OwnAnswer} {s : State} (still : s.sequencer.transport = .unthreaded)
    (phase : s.sequencer.phase = none) (signals : s.signals = []) (settled : s.generator.loadSet = none)
    (waits : s.intake.queue = [] ∨ s.intake.suspended = true) : Quiet (swept addr answer s) := by
  obtain ⟨sequencer, generator, -, -, -, intake, noSignal⟩ := swept_deck addr answer s
  refine quiet_iff.mpr ⟨noSignal.trans signals, positionEvent_of_still (.inl (by rw [sequencer, still])) (by simp [sequencer, phase]),
    settlementDue_of_none (by rw [generator, settled]), ?_⟩
  unfold handOverDue
  rw [intake]
  obtain empty | suspended := waits
  · simp [empty]
  · simp [suspended]

theorem sweepOver_path {addr : Nat} {answer : OwnAnswer} {ws : Vector Word 8} {s : State}
    (words : answer = .done ws ∨ (answer = .fault ∧ ws = Vector.replicate 8 0)) :
    (sweepOver addr answer s).path.sweep = none ∧
    (sweepOver addr answer s).path.descriptors = (setSwept (sweepPiece s.loader.groupA 11) ws (freePort s)).path.descriptors ∧
    (sweepOver addr answer s).path.slots = (setSwept (sweepPiece s.loader.groupA 11) ws (freePort s)).path.slots := by
  simp only [sweepOver, onPath_path, sweepTaken_path words, true_and]
  exact ⟨rfl, rfl⟩

/-- Settles O40. -/
theorem sweepEndRebuildsTheTable : Obligations.SweepEndRebuildsTheTable := by
  intro s addr ws there sweeping still phase signals settled waits answer words
  have read := exec_sweepReadAnswer answer there
  rw [sweepAnswered_eq, if_neg (by decide)] at read
  change _ = Host.Outcome.next (finishEvent (swept addr answer s)) at read
  rw [finishEvent_of_quiet (quiet_swept still phase signals settled waits)] at read
  obtain ⟨ended, descriptors, slots⟩ := sweepOver_path (addr := addr) (s := s) words
  have path := swept_path addr answer s
  have groupA : (sweepOver addr answer s).loader = s.loader := by simp [sweepOver, freePort]
  have words_ (i : Fin 16) (k : Fin 4) : (arbitrate (swept addr answer s)).descriptorWord i k = (sweepOver addr answer s).descriptorWord i k := by
    unfold State.descriptorWord
    rw [(arbitrate_path _).2.1, path]
  have record (i : Fin 16) : (arbitrate (swept addr answer s)).record i = (rebuildTable (sweepOver addr answer s)).record i :=
    record_congr (by simp [swept_tracker]) i
  have clear : TableClear (rebuildTable (sweepOver addr answer s)) := rebuilt_clear _ (emptyTable_clear _)
  refine ⟨_, read, ?_⟩
  simp only [words_, record, rebuildTable_record]
  simp only [arbitrate_path, arbitrate_keeps, path, ended, descriptors, slots, swept_tracker, clear.record, clear.receive, clear.context,
    clear.outOfTurn, swept_deck, swept_reporter, swept_loader, and_self, and_true, true_and]
  refine ⟨?ring, ?slots, ?records, ?invalid, ?commit, ?_, ?_, ?_⟩
  case ring =>
    intro ringFirst
    have piece : sweepPiece s.loader.groupA 11 = 11 := if_pos ringFirst
    simp only [piece]
    refine ⟨rfl, fun j => (setSwept_slots 11 ws (freePort s) j).trans ?_⟩
    by_cases last : 24 ≤ j.val
    · rw [dif_pos (by omega), dif_pos last]
      simp only [show j.val + 64 - 8 * 11 = j.val - 24 by omega]
    · rw [dif_neg (by omega), dif_neg last]
      rfl
  case slots =>
    intro slotsFirst
    have piece : sweepPiece s.loader.groupA 11 = 7 := by
      unfold sweepPiece
      rw [if_neg (by omega)]
      rfl
    simp only [piece]
    refine ⟨rfl, fun j => (setSwept_descriptors 7 ws (freePort s) j).trans ?_⟩
    by_cases last : 56 ≤ j.val
    · rw [dif_pos (by omega), dif_pos last]
    · rw [dif_neg (by omega), dif_neg last]
      rfl
  case records =>
    intro i
    unfold saysFilled entryGood shadowRecord
    rw [groupA]
    simp only [decide_eq_true_iff]
  case invalid =>
    intro i isFilled bad
    have path' : (emptyTable (sweepOver addr answer s)).path = (sweepOver addr answer s).path := by simp
    unfold rebuildTable
    refine rebuilt_invalid _ (List.mem_finRange i) ?_ ?_
    · rw [saysFilled_congr i path']
      exact decide_eq_true isFilled
    · rw [entryGood_congr i path' (by simp)]
      unfold entryGood
      rw [groupA]
      exact bad
  case commit =>
    intro c commit
    have same : (rebuildTable (sweepOver addr answer s)).loader = s.loader := (rebuildTable_loader _).trans groupA
    have commit' : (rebuildTable (sweepOver addr answer s)).loader.commit = some c := by rw [same, commit]
    split
    · next reads => exact (sweepTold_loader_reads commit' (by rw [same]; exact reads)).trans (by rw [same])
    · next done =>
      have left := sweepTold_loader_done commit' (by rw [same]; exact done)
      rw [same] at left
      exact left
  all_goals
    have same : (rebuildTable (sweepOver addr answer s)).loader = s.loader := (rebuildTable_loader _).trans groupA
  · exact (sweepTold_groups _).1.trans (by rw [same])
  · exact (sweepTold_groups _).2.1.trans (by rw [same])
  · exact (sweepTold_groups _).2.2.trans (by rw [same])

end Sys2Proof.Machine
end

section
/-! The setup fields (R178 to R181): each is published as read when it lies in its range, else as its default. -/

namespace Sys2Proof.Machine

/-! ### One field -/

/-- The value published for a field read as `v`, but for the relations. -/
def FieldSpec.publishes (f : FieldSpec) (v : Nat) : Nat := if f.range.holds v then v else f.dflt

theorem checkField_published (words : List Word) (base : Nat) (f : FieldSpec) :
    (checkField words base f).published = f.publishes (fieldRead words base f.number) := by
  unfold checkField FieldSpec.publishes
  dsimp only
  split <;> rfl

theorem checkField_numbered (words : List Word) (base : Nat) (f : FieldSpec) : (checkField words base f).number = f.number := by
  unfold checkField
  dsimp only
  split <;> rfl

/-- A field's published value is that of its entry, whatever checking the group's fields have gone through. -/
theorem publishedOf_map {check : FieldSpec → CheckedField} (numbered : ∀ f, (check f).number = f.number) {fs : List FieldSpec}
    {n : Nat} {f : FieldSpec} (found : fs.find? (fun f => f.number == n) = some f) : publishedOf (fs.map check) n = (check f).published := by
  have same : ((fun c : CheckedField => c.number == n) ∘ check) = fun f => f.number == n := by
    funext f
    simp [numbered]
  unfold publishedOf
  rw [List.find?_map, same, found]
  rfl

theorem publishedOf_checked {words : List Word} {base : Nat} {fs : List FieldSpec} {n : Nat} {f : FieldSpec}
    (found : fs.find? (fun f => f.number == n) = some f) :
    publishedOf (fs.map (checkField words base)) n = f.publishes (fieldRead words base n) := by
  have number : f.number = n := by simpa using List.find?_some found
  rw [publishedOf_map (checkField_numbered words base) found, checkField_published, number]

theorem publishes_between (number lo hi dflt v : Nat) : FieldSpec.publishes ⟨number, .between lo hi, dflt⟩ v = rangeOr lo hi dflt v := by
  simp [FieldSpec.publishes, FieldRange.holds, rangeOr]

theorem publishes_oneOf (number dflt v : Nat) (vs : List Nat) :
    FieldSpec.publishes ⟨number, .oneOf vs, dflt⟩ v = if v ∈ vs then v else dflt := by
  simp [FieldSpec.publishes, FieldRange.holds]

/-! ### Group B (R180, R181) -/

/-- The fields of group B in word order, X_ext held against a G. -/
def specBWith (gap : Nat) : List FieldSpec := specB.take 7 ++ [specXExt gap] ++ specB.drop 7

theorem checkGroupB_map (words : List Word) :
    checkGroupB words = (specBWith (publishedOf (specB.map (checkField words 16)) 19)).map (checkField words 16) := by
  unfold checkGroupB specBWith
  simp [List.map_append, List.map_take, List.map_drop]

/-- What a group B read publishes of a field. -/
theorem publishedOf_groupB {words : List Word} {n : Nat} {f : Nat → FieldSpec}
    (found : ∀ gap, (specBWith gap).find? (fun f => f.number == n) = some (f gap)) :
    publishedOf (checkGroupB words) n = (f (publishedOf (checkGroupB words) 19)).publishes (fieldRead words 16 n) := by
  have gap : publishedOf (checkGroupB words) 19 = publishedOf (specB.map (checkField words 16)) 19 := by
    rw [checkGroupB_map, publishedOf_checked (f := ⟨19, .between 400 2000, 600⟩) rfl,
      publishedOf_checked (f := ⟨19, .between 400 2000, 600⟩) rfl]
  rw [gap, checkGroupB_map, publishedOf_checked (found _)]

theorem groupB_between {words : List Word} {n lo hi dflt : Nat}
    (found : ∀ gap, (specBWith gap).find? (fun f => f.number == n) = some ⟨n, .between lo hi, dflt⟩) :
    publishedOf (checkGroupB words) n = rangeOr lo hi dflt (fieldRead words 16 n) := by
  rw [publishedOf_groupB found, publishes_between]

theorem groupB_oneOf {words : List Word} {n dflt : Nat} {vs : List Nat}
    (found : ∀ gap, (specBWith gap).find? (fun f => f.number == n) = some ⟨n, .oneOf vs, dflt⟩) :
    publishedOf (checkGroupB words) n = if fieldRead words 16 n ∈ vs then fieldRead words 16 n else dflt := by
  rw [publishedOf_groupB found, publishes_oneOf]

/-! ### Group C (R179) -/

/-- A field of group C whose window relation has failed. -/
def windowDefaulted (c : CheckedField) : CheckedField :=
  if c.number = 48 then c.toDefault 128 else if c.number = 49 then c.toDefault 896 else c

theorem windowDefaulted_numbered (words : List Word) (f : FieldSpec) :
    (windowDefaulted (checkField words 48 f)).number = f.number := by
  rw [← checkField_numbered words 48 f]
  unfold windowDefaulted CheckedField.toDefault
  split
  · rfl
  · split <;> rfl

/-- The two window limits keep their distance (R179). -/
def windowApart (words : List Word) : Prop :=
  rangeOr 0 1023 128 (fieldRead words 48 48) + 64 < rangeOr 0 1023 896 (fieldRead words 48 49)

theorem publishedOf_groupC {words : List Word} {n : Nat} {f : FieldSpec} (found : specC.find? (fun f => f.number == n) = some f) :
    (windowApart words → publishedOf (checkGroupC words) n = f.publishes (fieldRead words 48 n)) ∧
    (¬windowApart words → publishedOf (checkGroupC words) n =
      if n = 48 then 128 else if n = 49 then 896 else f.publishes (fieldRead words 48 n)) := by
  have number : f.number = n := by simpa using List.find?_some found
  have lo : publishedOf (specC.map (checkField words 48)) 48 = rangeOr 0 1023 128 (fieldRead words 48 48) := by
    rw [publishedOf_checked (f := ⟨48, .between 0 1023, 128⟩) rfl, publishes_between]
  have hi : publishedOf (specC.map (checkField words 48)) 49 = rangeOr 0 1023 896 (fieldRead words 48 49) := by
    rw [publishedOf_checked (f := ⟨49, .between 0 1023, 896⟩) rfl, publishes_between]
  unfold checkGroupC windowApart
  dsimp only
  rw [lo, hi]
  constructor
  · intro apart
    rw [if_pos apart, publishedOf_checked found]
  · intro near
    rw [if_neg near, List.map_map]
    refine (publishedOf_map (check := fun f => windowDefaulted (checkField words 48 f)) (windowDefaulted_numbered words) found).trans ?_
    unfold windowDefaulted
    rw [checkField_numbered, number]
    split
    · rfl
    · split
      · rfl
      · rw [checkField_published, number]

/-- The fields that the window relation does not touch. -/
theorem groupC_plain {words : List Word} {n : Nat} {f : FieldSpec} (found : specC.find? (fun f => f.number == n) = some f)
    (other : n ≠ 48 ∧ n ≠ 49) : publishedOf (checkGroupC words) n = f.publishes (fieldRead words 48 n) := by
  obtain ⟨apart, near⟩ := publishedOf_groupC (words := words) found
  by_cases window : windowApart words
  · exact apart window
  · rw [near window, if_neg other.1, if_neg other.2]

theorem groupC_limits (words : List Word) :
    let lo := rangeOr 0 1023 128 (fieldRead words 48 48)
    let hi := rangeOr 0 1023 896 (fieldRead words 48 49)
    publishedOf (checkGroupC words) 48 = (if lo + 64 < hi then lo else 128) ∧
    publishedOf (checkGroupC words) 49 = (if lo + 64 < hi then hi else 896) := by
  obtain ⟨apartLo, nearLo⟩ := publishedOf_groupC (words := words) (n := 48) (f := ⟨48, .between 0 1023, 128⟩) rfl
  obtain ⟨apartHi, nearHi⟩ := publishedOf_groupC (words := words) (n := 49) (f := ⟨49, .between 0 1023, 896⟩) rfl
  dsimp only
  split
  · next window => exact ⟨(apartLo window).trans (publishes_between _ _ _ _ _), (apartHi window).trans (publishes_between _ _ _ _ _)⟩
  · next window => exact ⟨nearLo window, nearHi window⟩

theorem groupC_between {words : List Word} {n lo hi dflt : Nat} (other : n ≠ 48 ∧ n ≠ 49)
    (found : specC.find? (fun f => f.number == n) = some ⟨n, .between lo hi, dflt⟩) :
    publishedOf (checkGroupC words) n = rangeOr lo hi dflt (fieldRead words 48 n) := by
  rw [groupC_plain found other, publishes_between]

theorem groupC_debounce (words : List Word) : publishedOf (checkGroupC words) 51 =
    if fieldRead words 48 51 ∈ [0, 1, 2, 4, 8, 16] then fieldRead words 48 51 else 4 := by
  rw [groupC_plain (f := ⟨51, .oneOf [0, 1, 2, 4, 8, 16], 4⟩) rfl (by decide), publishes_oneOf]

theorem logStyleOf_range (v : Nat) :
    logStyleOf (rangeOr 0 2 0 v) = if v = 1 then .keep else if v = 2 then .off else .roll := by
  obtain rfl | rfl | rfl | beyond : v = 0 ∨ v = 1 ∨ v = 2 ∨ 2 < v := by omega
  · rfl
  · rfl
  · rfl
  · have out : rangeOr 0 2 0 v = 0 := if_neg (by omega)
    rw [out, if_neg (by omega), if_neg (by omega)]
    rfl

theorem rangeOr_within {lo hi dflt : Nat} (v : Nat) (inside : lo ≤ dflt ∧ dflt ≤ hi) :
    lo ≤ rangeOr lo hi dflt v ∧ rangeOr lo hi dflt v ≤ hi := by
  unfold rangeOr
  split
  · assumption
  · exact inside

/-- Settles O38: field by field, X_ext against the G published, the window limits by their relation. -/
theorem setupFieldsArePublishedOneByOne : Obligations.SetupFieldsArePublishedOneByOne := by
  intro words
  obtain ⟨xLo, xHi⟩ := groupC_limits words
  have persistence := groupC_between (words := words) (n := 50) (by decide) rfl
  have refresh := groupC_between (words := words) (n := 54) (by decide) rfl
  have debounce := groupC_debounce words
  refine ⟨⟨?vRec, ?_⟩, ⟨xLo, xHi, persistence, ?debounce, ?style, ?mask, refresh⟩, ?ranges⟩
  case vRec =>
    have field := groupB_oneOf (words := words) (n := 16) fun _ => rfl
    exact field.trans (ite_congr (by simp) (fun _ => rfl) fun _ => rfl)
  case debounce => exact debounce.trans (ite_congr (by simp) (fun _ => rfl) fun _ => rfl)
  case style =>
    have field := groupC_between (words := words) (n := 52) (by decide) rfl
    show logStyleOf (publishedOf (checkGroupC words) 52) = _
    rw [field, logStyleOf_range]
  case mask => exact congrArg (BitVec.ofNat 9) (groupC_plain (f := ⟨53, .any, 0⟩) rfl (by decide))
  case ranges =>
    have lo := rangeOr_within (lo := 0) (hi := 1023) (dflt := 128) (fieldRead words 48 48) (by decide)
    have hi := rangeOr_within (lo := 0) (hi := 1023) (dflt := 896) (fieldRead words 48 49) (by decide)
    have limits : publishedOf (checkGroupC words) 49 ≤ 1023 ∧
        publishedOf (checkGroupC words) 48 + 64 < publishedOf (checkGroupC words) 49 := by
      rw [xLo, xHi]
      split
      · next apart => exact ⟨hi.2, apart⟩
      · decide
    have count := rangeOr_within (lo := 1) (hi := 15) (dflt := 3) (fieldRead words 48 50) (by decide)
    have interval := rangeOr_within (lo := 1) (hi := 100) (dflt := 10) (fieldRead words 48 54) (by decide)
    refine ⟨limits.1, limits.2, ?_, ?_, ?_, ?_, ?_⟩
    · exact Nat.le_trans count.1 (Nat.le_of_eq persistence.symm)
    · exact Nat.le_trans (Nat.le_of_eq persistence) count.2
    · show publishedOf (checkGroupC words) 51 ∈ _
      rw [debounce]
      split
      · assumption
      · decide
    · exact Nat.le_trans interval.1 (Nat.le_of_eq refresh.symm)
    · exact Nat.le_trans (Nat.le_of_eq refresh) interval.2
  have xExt : publishedOf (checkGroupB words) 23 = rangeOr (publishedOf (checkGroupB words) 19) 8000
      (max 1800 (publishedOf (checkGroupB words) 19)) (fieldRead words 16 23) := by
    rw [publishedOf_groupB (n := 23) (f := specXExt) fun _ => rfl]
    exact publishes_between _ _ _ _ _
  have conversions := groupB_oneOf (words := words) (n := 42) fun _ => rfl
  have profileSet : publishedOf (checkGroupB words) 45 = fieldRead words 16 45 :=
    publishedOf_groupB (f := fun _ => ⟨45, .any, 0⟩) fun _ => rfl
  refine ⟨?_, ?_, ?_, ?_, ?_, ?_, xExt, ?_, ?_, ?_, ?_, ?_, ?_, ?_, ?_, ?_, ?_, ?_, ?_, ?_, ?_, ?_, ?_, ?_, ?_,
    conversions.trans (ite_congr (by simp) (fun _ => rfl) fun _ => rfl),
    ?_, ?_, profileSet⟩
  all_goals exact groupB_between fun _ => rfl

end Sys2Proof.Machine
end

section
/-! Setup commits and the ends of the group reads (R67, R129, R175 to R184). -/

namespace Sys2Proof.Machine

/-! ### A deck at rest -/

/-- With the tape at rest and no rewind under way, only the leader could be wound. -/
theorem nothingDue_of_still {s : State} (still : s.sequencer.transport.moves = false) (noStep : s.rewindStep = none)
    (leader : ∀ l, s.sequencer.leaderStart = some l → s.sequencer.phase = some .leader → s.generator.mode ≠ .decel →
      s.generator.mode ≠ .fallback → s.sequencer.fixed = none → l - 40000 + s.distance .creepStop < s.servos.t) : NothingDue s := by
  have notUnderway : s.sequencer.transport.underway = false := by
    cases e : s.sequencer.transport <;> simp_all [Transport.moves, Transport.underway]
  have notMoving (d : Direction) (p : Purpose) : s.movingAs d p = false := by simp [State.movingAs, notUnderway]
  have reading : s.readingUnderway = false := by simp [State.readingUnderway, notUnderway]
  have away (x : Int) : ¬RepositionNear x s := by simp [RepositionNear, notMoving]
  exact {
    held := fun r _ _ => by
      cases e : s.sequencer.transport <;> simp_all [releaseCondition, Transport.moves]
    decision := fun i d rest _ moves => by simp [still] at moves
    noShow := fun r _ moving => by simp [notMoving] at moving
    erase := fun e _ moving => by simp [notMoving] at moving
    backup := fun r _ _ => away _
    approach := fun q _ => away _
    blank := fun b _ moving => by simp [reading] at moving
    bot := fun underway => by simp [notUnderway] at underway
    eot := fun _ _ moves => by simp [still] at moves
    near := fun step => by simp [noStep] at step
    limit := fun step => by simp [noStep] at step
    leader := leader }

/-! ### NOTICE -/

/-- NOTICE follows its three inputs (R194). -/
def NoticeFollows (s : State) : Prop :=
  s.reporter.notice = noticeLevel s.reporter.pendingClasses s.loader.groupC.mask s.reporter.ceiling

theorem noticeFollows_followNotice (s : State) : NoticeFollows (followNotice s) := rfl

theorem noticeFollows_raise (e : Event) (s : State) : NoticeFollows (raise e s) := noticeFollows_followNotice _

theorem noticeFollows_raiseDefaults (a : Activity) (cs : List CheckedField) {s : State} (follows : NoticeFollows s) :
    NoticeFollows (raiseDefaults a cs s) := by
  unfold raiseDefaults
  split
  · exact follows
  · exact noticeFollows_raise _ _

theorem setSetupResult_reporter (f : SetupResult → SetupResult) (s : State) :
    (setSetupResult f s).reporter = { s.reporter with dirty := marked .identity s.reporter.dirty } :=
  mark_reporter _ _

theorem setSetupResult_loader (f : SetupResult → SetupResult) (s : State) :
    (setSetupResult f s).loader = { s.loader with result := f s.loader.result } := by
  unfold setSetupResult
  simp

theorem noticeFollows_setSetupResult (f : SetupResult → SetupResult) {s : State} (follows : NoticeFollows s) :
    NoticeFollows (setSetupResult f s) := by
  unfold NoticeFollows at *
  rw [setSetupResult_reporter, setSetupResult_loader]
  exact follows

theorem completeCommit_loader (s : State) :
    (completeCommit s).loader = { s.loader with commit := none, result := { s.loader.result with busy := false } } :=
  setSetupResult_loader _ _

theorem noticeFollows_completeCommit {s : State} (follows : NoticeFollows s) : NoticeFollows (completeCommit s) :=
  noticeFollows_setSetupResult _ follows

/-! ### Answers to setup reads (R176) -/

theorem exec_setupReadAnswer {s : State} {w n addr : Nat} (answer : OwnAnswer) (b : Bool)
    (there : s.path.port = some (.own (.setup w n) addr false)) :
    exec (.setupReadAnswer answer b) s = .next (finishEvent (setupAnswered w n answer b (freePort s))) :=
  congrArg Host.Outcome.next (ownAnswered_wanted (f := OwnAccess.isSetup) (setupAct answer b) there rfl)

theorem firstWords_length {n : Nat} (ws : Vector Word 8) (few : n ≤ 8) : (firstWords n ws).length = n := by
  unfold firstWords
  simp [few]

/-- The last words of a group end its read. -/
theorem setupAnswered_done {s : State} {w n : Nat} {ws : Vector Word 8} {b : Bool}
    (last : nextGroupRead s.loader.activity (s.loader.words ++ firstWords n ws).length = none) :
    setupAnswered w n (.done ws) b s = endGroupRead s.loader.activity (s.loader.words ++ firstWords n ws) none b s := by
  unfold setupAnswered
  dsimp only
  rw [last]

/-- With nothing waiting and no commit in progress a read that ends is followed by none. -/
theorem nextWork_idle {s : State} (noB : s.loader.waitingB = false) (noCommit : s.loader.waitingCommit = none)
    (free : s.loader.commit = none) : nextWork s = s := by
  unfold nextWork
  rw [noB, noCommit, free]
  simp

/-- A commit's group C read follows its group A read. -/
theorem nextWork_groupC {s : State} {c : SetupCommit} (idle : s.loader.activity = .idle) (noB : s.loader.waitingB = false)
    (noCommit : s.loader.waitingCommit = none) (commit : s.loader.commit = some c) (due : c.groupCDue = true) :
    nextWork s = startGroupRead .readingC (s.onLoader fun l => { l with commit := some { c with groupCDue := false } }) := by
  unfold nextWork
  rw [if_neg (by simp [idle]), noB, noCommit, commit]
  exact if_pos due

/-! ### Group C (R179) -/

theorem publishGroupC_loader (g : GroupC) (r : GroupResult) (s : State) :
    (publishGroupC g r s).loader = { s.loader with groupC := g, result := { s.loader.result with groupC := r } } := by
  unfold publishGroupC
  rw [setSetupResult_loader]
  simp

theorem publishGroupC_outside (g : GroupC) (r : GroupResult) (s : State) :
    (publishGroupC g r s).sensors.supply.outside = 0 ∧ (publishGroupC g r s).sensors.takeup.outside = 0 := by
  unfold publishGroupC clearWindowCounts
  simp

theorem noticeFollows_publishGroupC (g : GroupC) (r : GroupResult) (s : State) : NoticeFollows (publishGroupC g r s) :=
  noticeFollows_setSetupResult _ (noticeFollows_followNotice _)

/-- The state at the end of a commit's group C read. -/
def groupCRead (words : List Word) (s : State) : State :=
  let checked := checkGroupC words
  completeCommit (raiseDefaults .readingC checked (publishGroupC (groupCOf checked) (checkedResult checked) (readEnds (freePort s))))

theorem readEnds_loader (s : State) : (readEnds s).loader = { s.loader with activity := .idle, words := [] } := rfl

theorem groupCRead_loader (words : List Word) (s : State) : (groupCRead words s).loader =
    { s.loader with activity := .idle, words := [], commit := none, groupC := groupCOf (checkGroupC words),
                    result := { s.loader.result with busy := false, groupC := checkedResult (checkGroupC words) } } := by
  have raised (cs : List CheckedField) (t : State) : (raiseDefaults .readingC cs t).loader = t.loader := by simp
  unfold groupCRead
  rw [completeCommit_loader, raised, publishGroupC_loader, readEnds_loader]
  rfl

theorem endGroupC_eq {s : State} {c : SetupCommit} (words : List Word) (commit : s.loader.commit = some c)
    (swept : c.awaitingSweep = false) (noB : s.loader.waitingB = false) (noCommit : s.loader.waitingCommit = none) :
    endGroupC words none (freePort s) = groupCRead words s := by
  have loader := groupCRead_loader words s
  rw [← nextWork_idle (s := groupCRead words s) (by rw [loader]; exact noB) (by rw [loader]; exact noCommit) (by rw [loader])]
  have kept (cs : List CheckedField) (g : GroupC) (r : GroupResult) :
      (raiseDefaults .readingC cs (publishGroupC g r (readEnds (freePort s)))).loader.commit = some c := by
    have raised (t : State) : (raiseDefaults .readingC cs t).loader = t.loader := by simp
    rw [raised, publishGroupC_loader]
    exact commit
  unfold endGroupC groupCRead
  dsimp only
  rw [kept]
  dsimp only
  rw [swept]
  rfl

/-- Settles O37. -/
theorem groupCReadPublishes : Obligations.GroupCReadPublishes := by
  intro s addr ws b c there reading fresh noB noCommit commit swept quiet
  have words : (freePort s).loader.words ++ firstWords 7 ws = firstWords 7 ws := by
    show s.loader.words ++ _ = _
    rw [fresh, List.nil_append]
  have read := exec_setupReadAnswer (.done ws) b there
  rw [setupAnswered_done (by rw [words, firstWords_length ws (by decide), show (freePort s).loader.activity = .readingC from reading]; rfl),
    words, show (freePort s).loader.activity = .readingC from reading] at read
  change _ = Host.Outcome.next (finishEvent (endGroupC (firstWords 7 ws) none (freePort s))) at read
  rw [endGroupC_eq _ commit swept noB noCommit] at read
  have loader := groupCRead_loader (firstWords 7 ws) s
  have kept : (groupCRead (firstWords 7 ws) s).tracker = s.tracker ∧ (groupCRead (firstWords 7 ws) s).sequencer = s.sequencer ∧
      (groupCRead (firstWords 7 ws) s).generator = s.generator ∧ (groupCRead (firstWords 7 ws) s).servos = s.servos ∧
      (groupCRead (firstWords 7 ws) s).links = s.links ∧ (groupCRead (firstWords 7 ws) s).intake = s.intake ∧
      (groupCRead (firstWords 7 ws) s).signals = s.signals := by
    simp [groupCRead, freePort]
  have path : (groupCRead (firstWords 7 ws) s).path = (freePort s).path := by simp [groupCRead]
  obtain ⟨tracker, sequencer, generator, servos, links, intake, signals⟩ := kept
  have fetches : outstanding OwnAccess.isFetch (groupCRead (firstWords 7 ws) s) = outstanding OwnAccess.isFetch s :=
    (outstanding_congr _ (by rw [path]) (by rw [path])).trans (outstanding_freePort there rfl)
  have quietAfter : Quiet (groupCRead (firstWords 7 ws) s) := by
    refine quiet_of_samePlace quiet ?place signals ?settlement fun none => handOverDue_none_of none intake (by rw [path]; rfl)
    case place =>
      exact ⟨sequencer, fun slows => by rw [generator]; exact slows, by rw [generator], by rw [servos], by rw [loader],
        order_congr intake, holding_congr (by rw [path]; rfl)⟩
    case settlement =>
      exact fun none => settlementDue_none_of none (by rw [generator]) fun p => by rw [canSettle_of_wanted p generator fetches]; exact id
  rw [finishEvent_of_quiet quietAfter] at read
  have outside := publishGroupC_outside (groupCOf (checkGroupC (firstWords 7 ws))) (checkedResult (checkGroupC (firstWords 7 ws)))
    (readEnds (freePort s))
  have follows : NoticeFollows (groupCRead (firstWords 7 ws) s) :=
    noticeFollows_completeCommit (noticeFollows_raiseDefaults _ _ (noticeFollows_publishGroupC _ _ _))
  refine ⟨_, read, ?_⟩
  simp only [arbitrate_keeps, tracker, sequencer, generator, servos, links, intake, and_self, and_true]
  refine ⟨loader, follows, ?_⟩
  have sensors : (groupCRead (firstWords 7 ws) s).sensors = (publishGroupC (groupCOf (checkGroupC (firstWords 7 ws)))
      (checkedResult (checkGroupC (firstWords 7 ws))) (readEnds (freePort s))).sensors := by
    simp [groupCRead]
  rw [sensors]
  exact outside

end Sys2Proof.Machine
end

section
/-! The end of a LOAD's group B read (R67, R88, R105, R125, R129, R181). -/

namespace Sys2Proof.Machine

/-! ### The attempts counts (R125) -/

theorem clamped_record (g : GroupB) (l : List (Fin 16)) (distinct : l.Nodup) (j : Fin 16) (s : State) :
    (l.foldl (fun a i => setRecord i (clampAttempts g (a.record i)) a) s).record j =
      if j ∈ l then clampAttempts g (s.record j) else s.record j := by
  induction l generalizing s with
  | nil => rfl
  | cons i l ih =>
    obtain ⟨fresh, distinct⟩ := List.nodup_cons.mp distinct
    rw [List.foldl_cons, ih distinct, setRecord_record]
    by_cases here : i = j
    · subst here
      simp [fresh]
    · simp [here, Ne.symm here]

theorem clampAttempts_but_attempts (g : GroupB) (r : BlockRecord) :
    { clampAttempts g r with attempts := 0 } = { r with attempts := 0 } := by
  unfold clampAttempts
  split <;> rfl

theorem clampAttempts_writing (g : GroupB) {r : BlockRecord}
    (writing : r.state ∈ [BlockState.filled, .armed, .recording, .awaitCheck, .verified, .failed]) :
    (clampAttempts g r).attempts = min r.attempts (g.writeRetry + 1) := by
  unfold clampAttempts
  split <;> simp_all

theorem clampAttempts_reading (g : GroupB) {r : BlockRecord} (reading : r.state ∈ [BlockState.expecting, .received, .unreadable]) :
    (clampAttempts g r).attempts = min r.attempts (g.readRetry + 1) := by
  unfold clampAttempts
  split <;> simp_all

/-! ### Publication (R88, R105, R181) -/

/-- Every attempts count is held against its new limit (R125). -/
def clampTable (g : GroupB) (s : State) : State :=
  (List.finRange 16).foldl (fun a i => setRecord i (clampAttempts g (a.record i)) a) s

theorem clampTable_keeps (g : GroupB) (s : State) :
    (clampTable g s).loader = s.loader ∧ (clampTable g s).servos = s.servos ∧ (clampTable g s).sensors = s.sensors :=
  ⟨foldl_keeps State.loader _ (by intro t i; simp) _ s, foldl_keeps State.servos _ (by intro t i; simp) _ s,
    foldl_keeps State.sensors _ (by intro t i; simp) _ s⟩

/-- The owners of group B's values, but for the Block Table, take them up. -/
def groupBOwners (g : GroupB) (s : State) : State :=
  ((s.onLoader fun l => { l with groupB := g }).onServos fun v =>
    { v with supply := freshReel g.wInitSupply, takeup := freshReel g.wInitTakeup }).onSensors fun n =>
    { n with bot := recountMarker n.bot, eot := recountMarker n.eot }

theorem publishGroupB_eq (g : GroupB) (r : GroupResult) (s : State) :
    publishGroupB g r s = setSetupResult (fun x => { x with groupB := r }) (clampTable g (groupBOwners g s)) := rfl

theorem publishGroupB_record (g : GroupB) (r : GroupResult) (s : State) (i : Fin 16) :
    (publishGroupB g r s).record i = clampAttempts g (s.record i) := by
  unfold publishGroupB
  dsimp only
  rw [record_congr (setSetupResult_keeps _ _).1, clamped_record g _ (List.nodup_finRange 16), if_pos (List.mem_finRange i)]
  rfl

theorem publishGroupB_loader (g : GroupB) (r : GroupResult) (s : State) :
    (publishGroupB g r s).loader = { s.loader with groupB := g, result := { s.loader.result with groupB := r } } := by
  rw [publishGroupB_eq, setSetupResult_loader, (clampTable_keeps g _).1]
  rfl

theorem publishGroupB_servos (g : GroupB) (r : GroupResult) (s : State) :
    (publishGroupB g r s).servos = { s.servos with supply := freshReel g.wInitSupply, takeup := freshReel g.wInitTakeup } := by
  rw [publishGroupB_eq]
  simp only [setSetupResult_keeps, clampTable_keeps]
  rfl

theorem publishGroupB_sensors (g : GroupB) (r : GroupResult) (s : State) :
    (publishGroupB g r s).sensors = { s.sensors with bot := recountMarker s.sensors.bot, eot := recountMarker s.sensors.eot } := by
  rw [publishGroupB_eq]
  simp only [setSetupResult_keeps, clampTable_keeps]
  rfl

/-! ### The settling of the active set (R67) -/

/-- A settlement is carried out or waits: what it leaves of the deck. -/
structure SettlesOrWaits (s u : State) : Prop where
  tracker : u.tracker = s.tracker
  servos : u.servos = s.servos
  links : u.links = s.links
  sensors : u.sensors = s.sensors
  intake : u.intake = s.intake
  loader : u.loader = s.loader
  signals : u.signals = s.signals
  sequencer : ∃ l, u.sequencer = { s.sequencer with loadStage := l }
  sweep : u.path.sweep = s.path.sweep
  classes : ∀ c : Nat, s.reporter.pendingClasses.getLsbD c = true → u.reporter.pendingClasses.getLsbD c = true
  due : settlementDue u = none

theorem settleActive_spec {s : State} (p : Nat) (nobody : s.generator.loadSet = none) : SettlesOrWaits s (settleActive p s) := by
  unfold settleActive
  split
  · have settles := settleNow_settles (s := s) p nobody
    obtain ⟨a, c, generator⟩ := settles.generator
    obtain ⟨claims, path⟩ := settles.path
    exact ⟨settles.tracker, settles.servos, settles.links, settles.sensors, settles.intake, settles.loader, settles.signals,
      settles.sequencer, by rw [path], settles.classes, settlementDue_of_none (by rw [generator])⟩
  · next waits =>
    refine ⟨rfl, rfl, rfl, rfl, rfl, rfl, rfl, ⟨s.sequencer.loadStage, rfl⟩, rfl, fun _ => id, ?_⟩
    unfold settlementDue
    exact if_neg waits

/-- The built-in profile is settled at once. -/
theorem settleActive_builtIn {s : State} (nobody : s.generator.loadSet = none) (free : s.generator.charact = none) :
    (settleActive Config.allOnes s).generator = { s.generator with active := builtInSet s.groupB } ∧
    (settleActive Config.allOnes s).sequencer =
      { s.sequencer with loadStage := if s.sequencer.loadStage = .settling then .settled else s.sequencer.loadStage } := by
  have can : canSettle Config.allOnes s = true := by simp [canSettle, free]
  unfold settleActive
  rw [if_pos can]
  unfold settleNow
  dsimp only
  rw [if_pos rfl]
  generalize changed : (if s.generator.active.source.isNone = true then
    s.onGenerator fun g => { g with active := builtInSet s.groupB } else s) = x
  have same : ∃ a, x = s.onGenerator fun g => { g with active := a } := by
    rw [← changed]
    split
    · exact ⟨_, rfl⟩
    · exact ⟨s.generator.active, rfl⟩
  obtain ⟨a, rfl⟩ := same
  have generator := setActive_generator (builtInSet s.groupB) (s.onGenerator fun g => { g with active := a })
  constructor
  · rw [(settleLoad_keeps _).2.1, generator]
    rfl
  · unfold settleLoad
    rw [if_neg (by rw [generator]; simp [nobody])]
    simp

/-- A set in place begins its characterization. -/
theorem settleActive_store {s : State} {p : Nat} (store : p ≠ Config.allOnes) (aligned : p % 8 = 0)
    (within : p + 32 ≤ s.loader.groupA.storeSize) (free : s.generator.charact = none) (still : fetching s = false) :
    (settleActive p s).sequencer = s.sequencer ∧ (settleActive p s).generator.charact = some (newCharact p none) := by
  have can : canSettle p s = true := by simp [canSettle, free, still]
  unfold settleActive
  rw [if_pos can]
  unfold settleNow
  dsimp only
  rw [if_neg store]
  unfold beginCharact
  dsimp only
  split <;> rw [if_pos ⟨aligned, within⟩] <;> exact ⟨rfl, rfl⟩

/-! ### The end of the read -/

/-- The words read, whatever the answer to the last own read. -/
def groupBWords (w : Vector Word 24) (ws : Vector Word 8) : List Word := w.toList ++ firstWords 6 ws

/-- The group B that the answer to the last own read publishes. -/
def groupBAfter (w : Vector Word 24) : OwnAnswer → GroupB
  | .done ws => groupBOf (checkGroupB (groupBWords w ws))
  | .fault => GroupB.default

/-- What the setup result then shows. -/
def resultAfter (w : Vector Word 24) : OwnAnswer → GroupResult
  | .done ws => checkedResult (checkGroupB (groupBWords w ws))
  | .fault => { status := .readFault, count := 30, first := 0 }

theorem groupBAfter_eq (w : Vector Word 24) (answer : OwnAnswer) :
    (match answer with
      | .done ws => groupBOf (checkGroupB (w.toList ++ firstWords 6 ws))
      | .fault => GroupB.default) = groupBAfter w answer := by
  cases answer <;> simp only [groupBAfter, groupBWords]

theorem resultAfter_eq (w : Vector Word 24) (answer : OwnAnswer) :
    (match answer with
      | .done ws => checkedResult (checkGroupB (w.toList ++ firstWords 6 ws))
      | .fault => { status := .readFault, count := 30, first := 0 }) = resultAfter w answer := by
  cases answer <;> simp only [resultAfter, groupBWords]

/-- The event that the read raises. -/
def groupBEvent (w : Vector Word 24) (answer : OwnAnswer) (s : State) : State :=
  match answer with
  | .done ws => raiseDefaults .readingB (checkGroupB (groupBWords w ws)) s
  | .fault => raiseReadFault .readingB 160 s

/-- Group B taken up by every owner, before the active set is settled. -/
def groupBTaken (w : Vector Word 24) (answer : OwnAnswer) (s : State) : State :=
  (groupBEvent w answer (publishGroupB (groupBAfter w answer) (resultAfter w answer) (readEnds (freePort s)))).onSequencer fun q =>
    { q with loadStage := if q.loadStage = .reading then .settling else q.loadStage }

theorem groupBEvent_keeps (w : Vector Word 24) (answer : OwnAnswer) (s : State) :
    (groupBEvent w answer s).tracker = s.tracker ∧ (groupBEvent w answer s).sequencer = s.sequencer ∧
    (groupBEvent w answer s).generator = s.generator ∧ (groupBEvent w answer s).servos = s.servos ∧
    (groupBEvent w answer s).links = s.links ∧ (groupBEvent w answer s).sensors = s.sensors ∧
    (groupBEvent w answer s).intake = s.intake ∧ (groupBEvent w answer s).path = s.path ∧
    (groupBEvent w answer s).loader = s.loader ∧ (groupBEvent w answer s).signals = s.signals := by
  cases answer <;> simp [groupBEvent]

section
variable (w : Vector Word 24) (answer : OwnAnswer) (s : State)

theorem groupBTaken_loader : (groupBTaken w answer s).loader =
    { s.loader with activity := .idle, words := [], groupB := groupBAfter w answer,
                    result := { s.loader.result with groupB := resultAfter w answer } } := by
  obtain ⟨-, -, -, -, -, -, -, -, loader, -⟩ := groupBEvent_keeps w answer
    (publishGroupB (groupBAfter w answer) (resultAfter w answer) (readEnds (freePort s)))
  rw [groupBTaken, onSequencer_loader, loader, publishGroupB_loader, readEnds_loader]
  rfl

theorem groupBTaken_record (i : Fin 16) : (groupBTaken w answer s).record i = clampAttempts (groupBAfter w answer) (s.record i) := by
  obtain ⟨tracker, -⟩ := groupBEvent_keeps w answer (publishGroupB (groupBAfter w answer) (resultAfter w answer) (readEnds (freePort s)))
  rw [show (groupBTaken w answer s).record i = _ from record_congr tracker i, publishGroupB_record]
  rfl

theorem groupBTaken_keeps :
    (groupBTaken w answer s).sequencer =
      { s.sequencer with loadStage := if s.sequencer.loadStage = .reading then .settling else s.sequencer.loadStage } ∧
    (groupBTaken w answer s).generator = s.generator ∧
    (groupBTaken w answer s).servos = { s.servos with supply := freshReel (groupBAfter w answer).wInitSupply
                                                      takeup := freshReel (groupBAfter w answer).wInitTakeup } ∧
    (groupBTaken w answer s).links = s.links ∧
    (groupBTaken w answer s).sensors = { s.sensors with bot := recountMarker s.sensors.bot, eot := recountMarker s.sensors.eot } ∧
    (groupBTaken w answer s).intake = s.intake ∧ (groupBTaken w answer s).path = (freePort s).path ∧
    (groupBTaken w answer s).signals = s.signals := by
  obtain ⟨-, sequencer, generator, servos, links, sensors, intake, path, -, signals⟩ := groupBEvent_keeps w answer
    (publishGroupB (groupBAfter w answer) (resultAfter w answer) (readEnds (freePort s)))
  unfold groupBTaken
  simp only [onSequencer_sequencer, onSequencer_generator, onSequencer_servos, onSequencer_links, onSequencer_sensors,
    onSequencer_intake, onSequencer_path, onSequencer_signals, sequencer, generator, servos, links, sensors, intake, path, signals,
    publishGroupB_keeps, publishGroupB_servos, publishGroupB_sensors, readEnds_keeps]
  exact ⟨rfl, rfl, rfl, rfl, rfl, rfl, trivial, rfl⟩

theorem groupBTaken_readFault : (groupBTaken w .fault s).reporter.pendingClasses.getLsbD 5 = true := by
  unfold groupBTaken groupBEvent raiseReadFault
  rw [onSequencer_reporter]
  exact raise_makes_pending _ _

end

/-- Out of MADE vacuum the phase VACUUM goes on. -/
theorem vacuumCheck_lost {s : State} (lost : s.vacuumMade = false) : vacuumCheck s = s := by
  unfold vacuumCheck
  rw [if_neg (by simp [lost])]

/-- The end of the read, for either order of the settling and the next read (log 11): there is no next read. -/
theorem endGroupRead_groupB {s : State} {w : Vector Word 24} (answer : OwnAnswer) (b : Bool) (reading : s.loader.activity = .readingB)
    (words : s.loader.words = w.toList) (noCommit : s.loader.commit = none) (noB : s.loader.waitingB = false)
    (nobodyWaits : s.loader.waitingCommit = none) (nobody : s.generator.loadSet = none) (lost : s.vacuumMade = false) :
    setupAnswered 40 6 answer b (freePort s) =
      settleActive (groupBAfter w answer).profileSet (groupBTaken w answer s) := by
  have loader := groupBTaken_loader w answer s
  obtain ⟨-, generator, -, -, sensors, -⟩ := groupBTaken_keeps w answer s
  have settled := settleActive_spec (s := groupBTaken w answer s) (groupBAfter w answer).profileSet (by rw [generator]; exact nobody)
  have idle : nextWork (groupBTaken w answer s) = groupBTaken w answer s :=
    nextWork_idle (by rw [loader]; exact noB) (by rw [loader]; exact nobodyWaits) (by rw [loader]; exact noCommit)
  have idle' : nextWork (settleActive (groupBAfter w answer).profileSet (groupBTaken w answer s)) =
      settleActive (groupBAfter w answer).profileSet (groupBTaken w answer s) :=
    nextWork_idle (by rw [settled.loader, loader]; exact noB) (by rw [settled.loader, loader]; exact nobodyWaits)
      (by rw [settled.loader, loader]; exact noCommit)
  have notMade : (settleActive (groupBAfter w answer).profileSet (groupBTaken w answer s)).vacuumMade = false := by
    unfold State.vacuumMade at lost ⊢
    rw [settled.sensors, sensors]
    exact lost
  have ended : vacuumCheck (if b then settleActive (groupBTaken w answer s).groupB.profileSet (nextWork (groupBTaken w answer s))
      else nextWork (settleActive (groupBTaken w answer s).groupB.profileSet (groupBTaken w answer s))) =
      settleActive (groupBAfter w answer).profileSet (groupBTaken w answer s) := by
    have groupB : (groupBTaken w answer s).groupB = groupBAfter w answer := by
      unfold State.groupB
      rw [loader]
    rw [idle, groupB, idle']
    cases b <;> exact vacuumCheck_lost notMade
  rw [← ended]
  cases answer with
  | fault =>
    unfold setupAnswered
    dsimp only
    rw [show (freePort s).loader.activity = .readingB from reading]
    rfl
  | done ws =>
    have all : (freePort s).loader.words ++ firstWords 6 ws = groupBWords w ws := congrArg (· ++ firstWords 6 ws) words
    rw [setupAnswered_done, all, show (freePort s).loader.activity = .readingB from reading]
    · rfl
    · rw [all, show (freePort s).loader.activity = .readingB from reading, groupBWords, List.length_append,
        firstWords_length ws (by decide), Vector.length_toList]
      rfl

/-- Settles O36. -/
theorem groupBReadPublishes : Obligations.GroupBReadPublishes := by
  intro s addr answer b w there reading words noCommit noB nobodyWaits stage loading vacuum free nobody lost quiet
  have read := exec_setupReadAnswer answer b there
  rw [endGroupRead_groupB answer b reading words noCommit noB nobodyWaits nobody lost] at read
  have loader := groupBTaken_loader w answer s
  obtain ⟨sequencer, generator, servos, links, sensors, intake, path, signals⟩ := groupBTaken_keeps w answer s
  have settled := settleActive_spec (s := groupBTaken w answer s) (groupBAfter w answer).profileSet (by rw [generator]; exact nobody)
  obtain ⟨noSignal, -, -, noHandOver⟩ := quiet_iff.mp quiet
  obtain ⟨l, atStage⟩ := settled.sequencer
  rw [sequencer] at atStage
  have quietAfter : Quiet (settleActive (groupBAfter w answer).profileSet (groupBTaken w answer s)) := by
    refine quiet_iff.mpr ⟨by rw [settled.signals, signals, noSignal],
      positionEvent_of_still (.inr (.inr (.inr (by rw [atStage]; exact loading)))) (by rw [atStage]; simp [vacuum]), settled.due, ?_⟩
    exact handOverDue_none_of noHandOver (by rw [settled.intake, intake]) (by rw [settled.sweep, path]; rfl)
  rw [finishEvent_of_quiet quietAfter] at read
  refine ⟨_, read, ?_⟩
  have record (i : Fin 16) : (arbitrate (settleActive (groupBAfter w answer).profileSet (groupBTaken w answer s))).record i =
      clampAttempts (groupBAfter w answer) (s.record i) :=
    (record_congr ((arbitrate_keeps _).1.trans settled.tracker) i).trans (groupBTaken_record w answer s i)
  simp only [arbitrate_keeps, record, settled.loader, settled.servos, settled.sensors, settled.links, settled.intake, loader, servos, links,
    intake, sensors]
  refine ⟨(groupBAfter_eq w answer).symm, trivial, trivial, trivial, (resultAfter_eq w answer).symm, ?fault, ?reels, ?markers, fun i => clampAttempts_but_attempts _ _,
    fun i writing => clampAttempts_writing _ writing, fun i reads => clampAttempts_reading _ reads, ?builtIn, ?store, trivial, trivial⟩
  case fault =>
    rintro rfl
    exact settled.classes 5 (groupBTaken_readFault w s)
  case reels =>
    rw [← groupBAfter_eq]
    rfl
  case markers =>
    intro m
    cases m <;> rfl
  case builtIn =>
    intro builtIn
    have now := settleActive_builtIn (s := groupBTaken w answer s) (by rw [generator]; exact nobody) (by rw [generator]; exact free)
    have all : (groupBAfter w answer).profileSet = Config.allOnes := builtIn
    unfold State.groupB at now
    rw [all, now.1, now.2, generator, sequencer, loader, stage]
    exact ⟨rfl, rfl⟩
  case store =>
    intro store aligned within still
    have waits : fetching (groupBTaken w answer s) = false := by
      have fetches : outstanding OwnAccess.isFetch (groupBTaken w answer s) = outstanding OwnAccess.isFetch s :=
        (outstanding_congr _ (by rw [path]) (by rw [path])).trans (outstanding_freePort there rfl)
      rw [← still]
      unfold fetching
      rw [fetches, generator]
    have begins := settleActive_store (p := (groupBAfter w answer).profileSet) (s := groupBTaken w answer s) store aligned (by rw [loader]; exact within)
      (by rw [generator]; exact free) waits
    rw [begins.1, begins.2, sequencer, stage]
    exact ⟨rfl, _, rfl, rfl, rfl, rfl⟩

end Sys2Proof.Machine
end

section
/-! Setup commits and the end of a configure commit's group A read (R164, R172, R175 to R178, R183, R184). -/

namespace Sys2Proof.Machine

/-! ### Quiet ends of the Setup Loader's events -/

/-- What the Setup Loader may change without letting the sequencer's event go on. -/
structure LoaderOnly (s u : State) : Prop where
  tracker : u.tracker = s.tracker
  sequencer : u.sequencer = s.sequencer
  generator : u.generator = s.generator
  servos : u.servos = s.servos
  links : u.links = s.links
  sensors : u.sensors = s.sensors
  intake : u.intake = s.intake
  signals : u.signals = s.signals
  groupB : u.loader.groupB = s.loader.groupB
  holding : u.holding = s.holding
  sweep : u.path.sweep = s.path.sweep
  wanted : outstanding OwnAccess.isFetch u = outstanding OwnAccess.isFetch s

theorem LoaderOnly.quiet {s u : State} (k : LoaderOnly s u) (quiet : Quiet s) : Quiet u := by
  refine quiet_of_samePlace quiet ?place k.signals ?settlement fun none => handOverDue_none_of none k.intake (by rw [k.sweep])
  case place =>
    exact ⟨k.sequencer, fun slows => by rw [k.generator]; exact slows, by rw [k.generator], by rw [k.servos], k.groupB,
      order_congr k.intake, k.holding⟩
  case settlement =>
    exact fun none => settlementDue_none_of none (by rw [k.generator]) fun p => by
      rw [canSettle_of_wanted p k.generator k.wanted]; exact id

theorem LoaderOnly.trans {s u v : State} (first : LoaderOnly s u) (second : LoaderOnly u v) : LoaderOnly s v where
  tracker := second.tracker.trans first.tracker
  sequencer := second.sequencer.trans first.sequencer
  generator := second.generator.trans first.generator
  servos := second.servos.trans first.servos
  links := second.links.trans first.links
  sensors := second.sensors.trans first.sensors
  intake := second.intake.trans first.intake
  signals := second.signals.trans first.signals
  groupB := second.groupB.trans first.groupB
  holding := second.holding.trans first.holding
  sweep := second.sweep.trans first.sweep
  wanted := second.wanted.trans first.wanted

/-- A claim of another kind adds no access of this kind. -/
theorem outstanding_makeClaim {f : OwnAccess → Bool} {a : OwnAccess} (urgent : Bool) (s : State) (other : f a = false) :
    outstanding f (makeClaim a urgent s) = outstanding f s := by
  unfold outstanding makeClaim
  simp [other]

theorem loaderOnly_onLoader {f : Loader → Loader} (s : State) (groupB : (f s.loader).groupB = s.loader.groupB) :
    LoaderOnly s (s.onLoader f) where
  tracker := rfl
  sequencer := rfl
  generator := rfl
  servos := rfl
  links := rfl
  sensors := rfl
  intake := rfl
  signals := rfl
  groupB := groupB
  holding := rfl
  sweep := rfl
  wanted := rfl

theorem loaderOnly_setSetupResult (f : SetupResult → SetupResult) (s : State) : LoaderOnly s (setSetupResult f s) := by
  have path : (setSetupResult f s).path = s.path := by simp
  constructor
  case groupB => rw [setSetupResult_loader]
  case holding => exact holding_congr (by rw [path])
  case wanted => exact outstanding_congr _ (by rw [path]) (by rw [path])
  all_goals simp

theorem loaderOnly_raise (e : Event) (s : State) : LoaderOnly s (raise e s) := by
  have path : (raise e s).path = s.path := by simp
  constructor
  case holding => exact holding_congr (by rw [path])
  case wanted => exact outstanding_congr _ (by rw [path]) (by rw [path])
  all_goals simp

theorem loaderOnly_makeSetupClaim (w n : Nat) (s : State) : LoaderOnly s (makeClaim (.setup w n) false s) := by
  constructor
  case wanted => exact outstanding_makeClaim false s rfl
  all_goals rfl

theorem loaderOnly_freePort {s : State} {w n addr : Nat} (there : s.path.port = some (.own (.setup w n) addr false)) :
    LoaderOnly s (freePort s) := by
  constructor
  case wanted => exact outstanding_freePort there rfl
  all_goals rfl

theorem startGroupRead_A (s : State) :
    startGroupRead .readingA s = makeClaim (.setup 0 8) false (s.onLoader fun l => { l with activity := .readingA, words := [] }) := rfl

theorem startGroupRead_C (s : State) :
    startGroupRead .readingC s = makeClaim (.setup 48 7) false (s.onLoader fun l => { l with activity := .readingC, words := [] }) := rfl

theorem loaderOnly_startGroupRead_A (s : State) : LoaderOnly s (startGroupRead .readingA s) :=
  (loaderOnly_onLoader s rfl).trans (loaderOnly_makeSetupClaim _ _ _)

theorem loaderOnly_startGroupRead_C (s : State) : LoaderOnly s (startGroupRead .readingC s) :=
  (loaderOnly_onLoader s rfl).trans (loaderOnly_makeSetupClaim _ _ _)

theorem loaderOnly_deferGroupA (reason : Nat) (s : State) : LoaderOnly s (deferGroupA reason s) :=
  (loaderOnly_raise _ s).trans (loaderOnly_setSetupResult _ _)

theorem deferGroupA_loader (reason : Nat) (s : State) : (deferGroupA reason s).loader =
    { s.loader with result := { s.loader.result with groupA := { s.loader.result.groupA with status := .deferred } } } := by
  have raised (e : Event) : (raise e s).loader = s.loader := by simp
  unfold deferGroupA
  rw [setSetupResult_loader, raised]

theorem deferGroupA_pending (reason : Nat) (s : State) :
    (deferGroupA reason s).reporter.pendingClasses = s.reporter.pendingClasses ||| 0x20#9 := by
  unfold deferGroupA
  rw [setSetupResult_reporter]
  simp [classBit_five, EventName.noticeClass]

/-! ### Why group A is deferred (R177) -/

theorem deferReason_none {s : State} (unthreaded : s.sequencer.transport = .unthreaded) (empty : s.intake.queue = []) :
    deferReason s = none := by
  unfold deferReason
  simp [unthreaded, empty]

theorem deferReason_some {s : State} (busy : s.sequencer.transport ≠ .unthreaded ∨ s.intake.queue ≠ []) :
    ∃ reason, deferReason s = some reason := by
  unfold deferReason
  by_cases threaded : s.sequencer.transport ≠ .unthreaded
  · exact ⟨1, if_pos threaded⟩
  · rw [if_neg threaded]
    obtain threaded' | queued := busy
    · exact absurd threaded' threaded
    · exact ⟨2, if_neg (by simp [queued])⟩

/-! ### Setup commits (R175, R177, R184) -/

/-- The commit is taken: the setup result shows it, and it is in progress. -/
def commitTaken (configure : Bool) (s : State) : State :=
  setSetupResult (fun r => { r with lastCommit := if configure then 1 else 2, busy := true }) (s.onLoader fun l =>
    { l with commit := some { configure := configure, awaitingSweep := s.path.sweep.isSome, groupCDue := false } })

theorem commitTaken_loader (configure : Bool) (s : State) : (commitTaken configure s).loader =
    { s.loader with commit := some { configure := configure, awaitingSweep := s.path.sweep.isSome, groupCDue := false },
                    result := { s.loader.result with lastCommit := if configure then 1 else 2, busy := true } } :=
  setSetupResult_loader _ _

theorem loaderOnly_commitTaken (configure : Bool) (s : State) : LoaderOnly s (commitTaken configure s) :=
  (loaderOnly_onLoader s rfl).trans (loaderOnly_setSetupResult _ _)

theorem takeCommit_groupC (s : State) : takeCommit false s = startGroupRead .readingC (commitTaken false s) := rfl

/-- The group A read of a commit of 1 begins, its group C read due. -/
def configureBegun (s : State) : State :=
  startGroupRead .readingA ((commitTaken true s).onLoader fun l => { l with commit := l.commit.map fun c => { c with groupCDue := true } })

theorem takeCommit_configure {s : State} (unthreaded : s.sequencer.transport = .unthreaded) (empty : s.intake.queue = []) :
    takeCommit true s = configureBegun s := by
  have taken := loaderOnly_commitTaken true s
  have none : deferReason (commitTaken true s) = Option.none :=
    deferReason_none (by rw [taken.sequencer, unthreaded]) (by rw [taken.intake, empty])
  change (match deferReason (commitTaken true s) with
    | Option.none => configureBegun s
    | some r => startGroupRead .readingC (deferGroupA r (commitTaken true s))) = _
  rw [none]

theorem takeCommit_deferred {s : State} (busy : s.sequencer.transport ≠ .unthreaded ∨ s.intake.queue ≠ []) :
    ∃ reason, takeCommit true s = startGroupRead .readingC (deferGroupA reason (commitTaken true s)) := by
  have taken := loaderOnly_commitTaken true s
  obtain ⟨reason, defers⟩ := deferReason_some (s := commitTaken true s) (by rw [taken.sequencer, taken.intake]; exact busy)
  refine ⟨reason, ?_⟩
  change (match deferReason (commitTaken true s) with
    | Option.none => configureBegun s
    | some r => startGroupRead .readingC (deferGroupA r (commitTaken true s))) = _
  rw [defers]

/-- The commit word as a whole word leaves it. -/
def commitSet (value : Word) (s : State) : State := s.onPath fun p => { p with commitWord := value }

theorem loaderOnly_commitSet (value : Word) (s : State) : LoaderOnly s (commitSet value s) := by
  constructor <;> rfl

theorem commitCommand_eq (value : Word) (s : State) : commitCommand value s = finishEvent (setupValue value (commitSet value s)) := by
  have merged : (s.onPath fun p => { p with commitWord := mergeWord p.commitWord (fullWord value) }) = commitSet value s := by
    unfold State.onPath commitSet
    simp only [mergeWord_fullWord]
    rfl
  show finishEvent (setupValue (s.onPath fun p => { p with commitWord := mergeWord p.commitWord (fullWord value) }).path.commitWord
    (s.onPath fun p => { p with commitWord := mergeWord p.commitWord (fullWord value) })) = _
  rw [merged]
  rfl

theorem setupCommit_idle {s : State} (configure : Bool) (idle : s.loader.activity = .idle) :
    setupCommit configure s = takeCommit configure s :=
  if_pos idle

theorem makeClaim_commitWord (a : OwnAccess) (urgent : Bool) (s : State) :
    (makeClaim a urgent s).path.commitWord = s.path.commitWord := rfl

theorem makeClaim_configured (a : OwnAccess) (urgent : Bool) (s : State) :
    (makeClaim a urgent s).path.configured = s.path.configured := rfl

/-- An event of the Setup Loader alone ends with it. -/
theorem finish_loaderOnly {s u v : State} {value : Word} (acts : setupValue value (commitSet value s) = u)
    (only : LoaderOnly (commitSet value s) u) (quiet : Quiet s) (ends : v = arbitrate u) : commitCommand value s = v := by
  rw [commitCommand_eq, acts, finishEvent_of_quiet (((loaderOnly_commitSet value s).trans only).quiet quiet), ends]

/-- Settles O60. -/
theorem setupCommits : Obligations.SetupCommits := by
  intro s quiet
  refine ⟨?configure, ?deferred, ?groupC, ?ignored⟩
  case configure =>
    intro idle unthreaded empty
    have only : LoaderOnly (commitSet 1#32 s) (configureBegun (commitSet 1#32 s)) :=
      ((loaderOnly_commitTaken true _).trans (loaderOnly_onLoader _ rfl)).trans (loaderOnly_startGroupRead_A _)
    have acts : setupValue 1#32 (commitSet 1#32 s) = configureBegun (commitSet 1#32 s) :=
      (setupCommit_idle (s := commitSet 1#32 s) true idle).trans (takeCommit_configure unthreaded empty)
    refine ⟨_, congrArg Host.Outcome.next (finish_loaderOnly acts only quiet rfl), ?_⟩
    have path : (commitTaken true (commitSet 1#32 s)).path = (commitSet 1#32 s).path := by simp [commitTaken]
    simp only [arbitrate_path, arbitrate_keeps, only.tracker, only.sequencer, only.generator, only.servos, only.links, only.intake]
    unfold configureBegun
    rw [startGroupRead_A]
    simp only [makeClaim_keeps, makeClaim_commitWord, onLoader_loader, onLoader_path, commitTaken_loader, path]
    exact ⟨trivial, rfl, trivial, rfl, rfl, rfl, rfl, rfl, rfl, rfl, rfl⟩
  case deferred =>
    intro idle busy
    obtain ⟨reason, taken⟩ := takeCommit_deferred (s := commitSet 1#32 s) busy
    have only : LoaderOnly (commitSet 1#32 s) (startGroupRead .readingC (deferGroupA reason (commitTaken true (commitSet 1#32 s)))) :=
      ((loaderOnly_commitTaken true _).trans (loaderOnly_deferGroupA _ _)).trans (loaderOnly_startGroupRead_C _)
    have acts := (setupCommit_idle (s := commitSet 1#32 s) true idle).trans taken
    refine ⟨_, congrArg Host.Outcome.next (finish_loaderOnly acts only quiet rfl), ?_⟩
    simp only [arbitrate_keeps, only.tracker, only.sequencer, only.generator, only.servos, only.links, only.intake]
    rw [startGroupRead_C]
    simp only [makeClaim_keeps, onLoader_loader, onLoader_reporter, deferGroupA_loader, deferGroupA_pending, commitTaken_loader,
      BitVec.getLsbD_or]
    exact ⟨trivial, rfl, trivial, trivial, rfl, Bool.or_true _, rfl, rfl, rfl, rfl, rfl, rfl⟩
  case groupC =>
    intro idle
    have only : LoaderOnly (commitSet 2#32 s) (startGroupRead .readingC (commitTaken false (commitSet 2#32 s))) :=
      (loaderOnly_commitTaken false _).trans (loaderOnly_startGroupRead_C _)
    have acts := (setupCommit_idle (s := commitSet 2#32 s) false idle).trans (takeCommit_groupC _)
    refine ⟨_, congrArg Host.Outcome.next (finish_loaderOnly acts only quiet rfl), ?_⟩
    have path : (commitTaken false (commitSet 2#32 s)).path = (commitSet 2#32 s).path := by simp [commitTaken]
    simp only [arbitrate_path, arbitrate_keeps, only.tracker, only.sequencer, only.generator, only.servos, only.links, only.intake]
    rw [startGroupRead_C]
    simp only [makeClaim_keeps, makeClaim_commitWord, onLoader_loader, onLoader_path, commitTaken_loader, path]
    exact ⟨trivial, rfl, trivial, rfl, rfl, rfl, rfl, rfl, rfl, rfl⟩
  case ignored =>
    intro value not1 not2
    have only : LoaderOnly (commitSet value s) (raiseFieldDefaulted 0 0 63 value.toNat (commitSet value s)) := loaderOnly_raise _ _
    have acts : setupValue value (commitSet value s) = raiseFieldDefaulted 0 0 63 value.toNat (commitSet value s) := by
      unfold setupValue
      rw [if_neg not1, if_neg not2]
    refine ⟨_, congrArg Host.Outcome.next (finish_loaderOnly acts only quiet rfl), ?_⟩
    have loader : (raiseFieldDefaulted 0 0 63 value.toNat (commitSet value s)).loader = s.loader := by simp [commitSet]
    have path : (raiseFieldDefaulted 0 0 63 value.toNat (commitSet value s)).path = (commitSet value s).path := by simp
    have pending : (raiseFieldDefaulted 0 0 63 value.toNat (commitSet value s)).reporter.pendingClasses =
        s.reporter.pendingClasses ||| 0x20#9 := by simp [raiseFieldDefaulted, classBit_five, EventName.noticeClass, commitSet]
    simp only [arbitrate_path, arbitrate_keeps, only.tracker, only.sequencer, only.generator, only.servos, only.links, only.sensors,
      only.intake, loader, path, pending]
    exact ⟨trivial, rfl, trivial, rfl, rfl, rfl, rfl, rfl, rfl, rfl⟩

/-! ### The checks of group A (R178) -/

theorem fieldRead_lt (words : List Word) (base n : Nat) : fieldRead words base n ≤ Config.allOnes := by
  unfold fieldRead
  split
  · next w _ => exact Nat.le_of_lt_succ w.isLt
  · exact Nat.zero_le _

theorem fieldsAccepted_iff (words : List Word) :
    ((specA.map (checkField words 0)).find? fun c => c.defaulted) = none ↔
      ∀ f ∈ specA, f.range.holds (fieldRead words 0 f.number) = true := by
  have defaulted (f : FieldSpec) : (checkField words 0 f).defaulted = !f.range.holds (fieldRead words 0 f.number) := by
    unfold checkField
    dsimp only
    split <;> simp_all
  simp [List.find?_eq_none, defaulted]

theorem windowPairs_apart (ws : List (Nat × Nat × Nat)) :
    ((windowPairs ws).find? fun p => windowsOverlap p.1 p.2) = none ↔
      ws.Pairwise fun a b => a.2.1 + a.2.2 ≤ b.2.1 ∨ b.2.1 + b.2.2 ≤ a.2.1 := by
  have overlap (a b : Nat × Nat × Nat) : windowsOverlap a b = false ↔ a.2.1 + a.2.2 ≤ b.2.1 ∨ b.2.1 + b.2.2 ≤ a.2.1 := by
    simp only [windowsOverlap, Bool.and_eq_false_iff, decide_eq_false_iff_not, Nat.not_lt]
    exact or_comm
  induction ws with
  | nil => simp [windowPairs]
  | cons w ws ih =>
    rw [List.pairwise_cons, windowPairs, List.find?_append, Option.or_eq_none_iff]
    refine and_congr ?_ ih
    simp [List.find?_eq_none, overlap]

theorem relationFailure_none_iff (g : GroupA) : relationFailure g = none ↔
    (∀ w ∈ windowsOf g, w.2.1 + w.2.2 ≤ 0x1000000 ∧ 0x100 ≤ w.2.1) ∧
    (windowsOf g).Pairwise fun a b => a.2.1 + a.2.2 ≤ b.2.1 ∨ b.2.1 + b.2.2 ≤ a.2.1 := by
  unfold relationFailure
  simp only [orElse_none_iff, Option.map_eq_none_iff, windowPairs_apart]
  simp only [List.find?_eq_none, decide_eq_true_eq, Nat.not_lt, forall_and]
  exact ⟨fun ⟨inside, apart, clear⟩ => ⟨⟨inside, clear⟩, apart⟩, fun ⟨⟨inside, clear⟩, apart⟩ => ⟨inside, apart, clear⟩⟩

theorem groupAFailure_none_iff (words : List Word) : groupAFailure words = none ↔ GroupAValid (groupAOf words) := by
  have small := fieldRead_lt words 0
  have fields : (∀ f ∈ specA, f.range.holds (fieldRead words 0 f.number) = true) ↔
      (let g := groupAOf words
       (g.ringBase % 64 = 0 ∧ g.slotBase % 64 = 0 ∧ g.reportBase % 64 = 0 ∧ g.storeBase % 64 = 0 ∧ g.bufferBase % 64 = 0) ∧
       (1024 ≤ g.storeSize ∧ g.storeSize ≤ 65536 ∧ g.storeSize % 64 = 0) ∧ (64 ≤ g.bufferSize ∧ g.bufferSize % 64 = 0) ∧
       g.holdLimit ≤ 32 ∧ (1 ≤ g.passLimit ∧ g.passLimit ≤ 15)) := by
    simp only [specA, List.forall_mem_cons, FieldRange.holds, Bool.and_eq_true, decide_eq_true_eq, groupAOf, small, Nat.zero_le, and_true,
      true_and]
    simp only [List.not_mem_nil, false_imp_iff, implies_true, and_true]
    grind
  have both : groupAFailure words = none ↔
      (∀ f ∈ specA, f.range.holds (fieldRead words 0 f.number) = true) ∧ relationFailure (groupAOf words) = none := by
    rw [← fieldsAccepted_iff]
    unfold groupAFailure
    cases (specA.map (checkField words 0)).find? fun c => c.defaulted <;> simp
  rw [both, fields, relationFailure_none_iff]
  constructor
  · rintro ⟨⟨aligned, store, buffer, hold, pass⟩, space, apart⟩
    exact ⟨aligned, store, buffer, hold, pass, space, apart⟩
  · rintro ⟨aligned, store, buffer, hold, pass, space, apart⟩
    exact ⟨⟨aligned, store, buffer, hold, pass⟩, space, apart⟩

/-! ### Publication of group A (R164, R172, R178) -/

theorem retryHeld_holding (s : State) : (retryHeld s).holding = false := by
  unfold retryHeld
  split
  · rfl
  · next idle => simpa using idle

theorem retryHeld_path (s : State) : (retryHeld s).path.claims = s.path.claims ∧ (retryHeld s).path.port = s.path.port ∧
    (retryHeld s).path.descriptors = s.path.descriptors ∧ (retryHeld s).path.slots = s.path.slots := by
  unfold retryHeld
  split <;> exact ⟨rfl, rfl, rfl, rfl⟩

theorem arbitrate_holding (s : State) (idle : s.holding = false) : (arbitrate s).holding = false := by
  obtain same | ⟨t, -, atMemory⟩ := arbitrate_upper s
  · rw [holding_congr same, idle]
  · exact holding_of_atMemory atMemory

/-- The path as a publication of group A leaves it (R164, R172). -/
structure PathConfigured (s u : State) : Prop where
  configured : u.path.configured = true
  sweep : u.path.sweep = some 0
  descriptors : u.path.descriptors = s.path.descriptors
  slots : u.path.slots = s.path.slots
  holding : u.holding = false

theorem publishGroupA_path (g : GroupA) (r : GroupResult) (s : State) : PathConfigured s (publishGroupA g r s) := by
  obtain ⟨-, -, descriptors, slots⟩ := retryHeld_path (s.onLoader fun l =>
    { l with groupA := g, commit := l.commit.map fun c => { c with awaitingSweep := true } })
  have idle := retryHeld_holding (s.onLoader fun l =>
    { l with groupA := g, commit := l.commit.map fun c => { c with awaitingSweep := true } })
  unfold publishGroupA
  dsimp only
  constructor
  case holding =>
    rw [← idle]
    exact holding_congr (by simp; rfl)
  all_goals simp only [setSetupResult_keeps, onServos_path, onSequencer_path, onPath_path]
  · exact descriptors
  · exact slots

theorem publishGroupA_loader (g : GroupA) (r : GroupResult) (s : State) : (publishGroupA g r s).loader =
    { s.loader with groupA := g, commit := s.loader.commit.map fun c => { c with awaitingSweep := true },
                    result := { s.loader.result with groupA := r } } := by
  unfold publishGroupA
  dsimp only
  rw [setSetupResult_loader]
  simp

theorem publishGroupA_deck (g : GroupA) (r : GroupResult) (s : State) :
    (publishGroupA g r s).sequencer = { s.sequencer with noShow := 0, settleCount := 0, seekTravel := 0 } ∧
    (publishGroupA g r s).servos = { s.servos with tracking := 0 } ∧
    (publishGroupA g r s).reporter.pendingClasses = s.reporter.pendingClasses := by
  unfold publishGroupA
  dsimp only
  rw [setSetupResult_reporter]
  simp

/-- A publication withdraws the sweep's claims and no segment fetch. -/
theorem outstanding_publishGroupA (g : GroupA) (r : GroupResult) {s : State} (free : s.path.port = none) :
    outstanding OwnAccess.isFetch (publishGroupA g r s) = outstanding OwnAccess.isFetch s ∧ (publishGroupA g r s).path.port = none := by
  obtain ⟨claims, port, -⟩ := retryHeld_path (s.onLoader fun l =>
    { l with groupA := g, commit := l.commit.map fun c => { c with awaitingSweep := true } })
  have path : (publishGroupA g r s).path.claims = s.path.claims.filter (fun c => !c.access.isSweep) ∧
      (publishGroupA g r s).path.port = none := by
    unfold publishGroupA withdrawClaims
    dsimp only
    simp only [setSetupResult_keeps, onServos_path, onSequencer_path, onPath_path, claims, port, onLoader_path, free]
    exact ⟨trivial, rfl⟩
  refine ⟨?_, path.2⟩
  unfold outstanding
  rw [path.1, path.2, free, List.any_filter]
  congr 1
  refine congrArg (fun p => List.any s.path.claims p) (funext fun c => ?_)
  cases c.access <;> rfl

/-! ### The end of the group A read (R176 to R178) -/

/-- The event of a group A that is not accepted. -/
def raiseOpt : Option Event → State → State
  | none, s => s
  | some e, s => raise e s

/-- Group A published, with the event that says why it is not as read. -/
def groupAPublished (g : GroupA) (r : GroupResult) (e : Option Event) (s : State) : State :=
  raiseOpt e (publishGroupA g r (readEnds (freePort s)))

/-- The sweep's first read and the group C read are claimed, in either order (log 11). -/
def claimBoth (setupFirst : Bool) (s : State) : State :=
  if setupFirst then claimSweep (nextWork s) else nextWork (claimSweep s)

theorem raiseOpt_keeps (e : Option Event) (s : State) :
    (raiseOpt e s).tracker = s.tracker ∧ (raiseOpt e s).sequencer = s.sequencer ∧ (raiseOpt e s).generator = s.generator ∧
    (raiseOpt e s).servos = s.servos ∧ (raiseOpt e s).links = s.links ∧ (raiseOpt e s).sensors = s.sensors ∧
    (raiseOpt e s).intake = s.intake ∧ (raiseOpt e s).path = s.path ∧ (raiseOpt e s).loader = s.loader ∧
    (raiseOpt e s).signals = s.signals := by
  cases e <;> simp [raiseOpt]

section
variable (g : GroupA) (r : GroupResult) (e : Option Event) (s : State)

theorem groupAPublished_loader : (groupAPublished g r e s).loader =
    { s.loader with activity := .idle, words := [], groupA := g
                    commit := s.loader.commit.map fun c => { c with awaitingSweep := true }
                    result := { s.loader.result with groupA := r } } := by
  obtain ⟨-, -, -, -, -, -, -, -, loader, -⟩ := raiseOpt_keeps e (publishGroupA g r (readEnds (freePort s)))
  rw [groupAPublished, loader, publishGroupA_loader]
  rfl

theorem groupAPublished_deck :
    (groupAPublished g r e s).tracker = s.tracker ∧
    (groupAPublished g r e s).sequencer = { s.sequencer with noShow := 0, settleCount := 0, seekTravel := 0 } ∧
    (groupAPublished g r e s).generator = s.generator ∧ (groupAPublished g r e s).servos = { s.servos with tracking := 0 } ∧
    (groupAPublished g r e s).links = s.links ∧ (groupAPublished g r e s).sensors = s.sensors ∧
    (groupAPublished g r e s).intake = s.intake ∧ (groupAPublished g r e s).signals = s.signals := by
  obtain ⟨tracker, sequencer, generator, servos, links, sensors, intake, -, -, signals⟩ :=
    raiseOpt_keeps e (publishGroupA g r (readEnds (freePort s)))
  obtain ⟨sequencerA, servosA, -⟩ := publishGroupA_deck g r (readEnds (freePort s))
  unfold groupAPublished
  simp only [tracker, sequencer, generator, servos, links, sensors, intake, signals, sequencerA, servosA, publishGroupA_keeps, readEnds_keeps]
  exact ⟨rfl, rfl, rfl, rfl, rfl, rfl, rfl, rfl⟩

theorem groupAPublished_path : PathConfigured s (groupAPublished g r e s) := by
  obtain ⟨-, -, -, -, -, -, -, path, -⟩ := raiseOpt_keeps e (publishGroupA g r (readEnds (freePort s)))
  obtain ⟨configured, sweep, descriptors, slots, holding⟩ := publishGroupA_path g r (readEnds (freePort s))
  unfold groupAPublished
  constructor
  case holding => rw [← holding]; exact holding_congr (by rw [path])
  all_goals rw [path]
  · exact configured
  · exact sweep
  · exact descriptors
  · exact slots

theorem groupAPublished_fetches {w n addr : Nat} (there : s.path.port = some (.own (.setup w n) addr false)) :
    outstanding OwnAccess.isFetch (groupAPublished g r e s) = outstanding OwnAccess.isFetch s ∧
    (groupAPublished g r e s).path.port = none := by
  obtain ⟨-, -, -, -, -, -, -, path, -⟩ := raiseOpt_keeps e (publishGroupA g r (readEnds (freePort s)))
  obtain ⟨fetches, port⟩ := outstanding_publishGroupA g r (s := readEnds (freePort s)) rfl
  unfold groupAPublished
  refine ⟨?_, by rw [path, port]⟩
  exact (outstanding_congr _ (by rw [path]) (by rw [path])).trans (fetches.trans (outstanding_freePort there rfl))

end

/-- The Setup Loader once group C is being read for a configure commit. -/
def readingGroupC (c : SetupCommit) (l : Loader) : Loader :=
  { l with activity := .readingC, words := [], commit := some { c with groupCDue := false } }

/-- What the claims of the sweep and of group C change. -/
theorem claimBoth_spec {s : State} {c : SetupCommit} (b : Bool) (idle : s.loader.activity = .idle) (noB : s.loader.waitingB = false)
    (noCommit : s.loader.waitingCommit = none) (commit : s.loader.commit = some c) (due : c.groupCDue = true) :
    ∃ claims, claimBoth b s =
        (s.onLoader (readingGroupC c)).onPath (fun p => { p with claims := p.claims ++ claims }) ∧
      claims.any (fun x => x.access.isFetch) = false := by
  unfold claimBoth
  cases b with
  | true =>
    refine ⟨[⟨.setup 48 7, false, 0⟩, ⟨.sweep 0, false, 0⟩], ?_, rfl⟩
    rw [if_pos rfl, nextWork_groupC idle noB noCommit commit due, startGroupRead_C]
    unfold claimSweep makeClaim State.onPath State.onLoader readingGroupC
    simp
  | false =>
    refine ⟨[⟨.sweep 0, false, 0⟩, ⟨.setup 48 7, false, 0⟩], ?_, rfl⟩
    rw [if_neg (by decide), nextWork_groupC (s := claimSweep s) idle noB noCommit commit due, startGroupRead_C]
    unfold claimSweep makeClaim State.onPath State.onLoader readingGroupC
    simp

/-- A group A read ends in publication: what it comes to, for any values and any event. -/
theorem groupAPublished_configured {s : State} {c : SetupCommit} {addr : Nat} (g : GroupA) (r : GroupResult) (e : Option Event) (b : Bool)
    (there : s.path.port = some (.own (.setup 8 1) addr false)) (commit : s.loader.commit = some c) (due : c.groupCDue = true)
    (noB : s.loader.waitingB = false) (noCommit : s.loader.waitingCommit = none) (unthreaded : s.sequencer.transport = .unthreaded)
    (empty : s.intake.queue = []) (quiet : Quiet s) :
    ∃ t, finishEvent (claimBoth b (groupAPublished g r e s)) = t ∧ Configured s t ∧ t.loader.groupA = g ∧ t.loader.result.groupA = r ∧
      t.reporter.pendingClasses = (groupAPublished g r e s).reporter.pendingClasses := by
  have loader := groupAPublished_loader g r e s
  rw [commit] at loader
  obtain ⟨tracker, sequencer, generator, servos, links, sensors, intake, signals⟩ := groupAPublished_deck g r e s
  obtain ⟨configured, sweep, descriptors, slots, holding⟩ := groupAPublished_path g r e s
  obtain ⟨fetches, port⟩ := groupAPublished_fetches g r e s there
  obtain ⟨claims, claimed, noFetch⟩ := claimBoth_spec (s := groupAPublished g r e s) (c := { c with awaitingSweep := true }) b
    (by rw [loader]) (by rw [loader]; exact noB) (by rw [loader]; exact noCommit) (by rw [loader]; rfl) due
  rw [claimed]
  have quietAfter : Quiet (((groupAPublished g r e s).onLoader (readingGroupC { c with awaitingSweep := true })).onPath
      fun p => { p with claims := p.claims ++ claims }) := by
    obtain ⟨noSignal, nothing, noSettlement, -⟩ := quiet_iff_nothingDue.mp quiet
    refine quiet_iff_nothingDue.mpr ⟨signals.trans noSignal, nothingDue_of_still ?still ?noStep ?leader, ?settlement, ?handOver⟩
    case still =>
      show (groupAPublished g r e s).sequencer.transport.moves = false
      rw [sequencer]
      simp [unthreaded, Transport.moves]
    case noStep =>
      unfold State.rewindStep
      simp only [onPath_sequencer, onLoader_sequencer, sequencer, unthreaded]
    case leader =>
      unfold State.distance
      simp only [onPath_sequencer, onLoader_sequencer, onPath_generator, onLoader_generator, onPath_servos, onLoader_servos, sequencer,
        generator, servos]
      exact nothing.leader
    case settlement =>
      refine settlementDue_none_of noSettlement (by rw [onPath_generator, onLoader_generator, generator]) fun p => ?_
      have wanted : outstanding OwnAccess.isFetch (((groupAPublished g r e s).onLoader
          (readingGroupC { c with awaitingSweep := true })).onPath fun p => { p with claims := p.claims ++ claims }) =
          outstanding OwnAccess.isFetch s := by
        rw [← fetches]
        unfold outstanding
        simp only [onPath_path, onLoader_path, List.any_append, noFetch, Bool.or_false]
      rw [canSettle_of_wanted p (by exact generator) wanted]
      exact id
    case handOver =>
      unfold handOverDue
      simp [intake, empty]
  refine ⟨_, finishEvent_of_quiet quietAfter, ?configured, ?groupA, ?result, ?pending⟩
  case configured =>
    constructor
    case held => exact arbitrate_holding _ ((holding_congr rfl).trans holding)
    case commit => exact ⟨_, congrArg Loader.commit (arbitrate_keeps _).2.2.2.2.2.2.2.1, rfl, rfl⟩
    all_goals
      simp only [arbitrate_path, arbitrate_keeps, onPath_path, onPath_loader, onPath_sequencer, onPath_servos, onPath_tracker,
        onPath_generator, onPath_links, onPath_sensors, onPath_intake, onLoader_path, onLoader_loader, onLoader_sequencer, onLoader_servos,
        onLoader_tracker, onLoader_generator, onLoader_links, onLoader_sensors, onLoader_intake, configured, sweep, descriptors, slots,
        sequencer, servos, tracker, generator, links, sensors, intake, loader, readingGroupC]
  all_goals simp only [arbitrate_keeps, onPath_loader, onPath_reporter, onLoader_reporter, onLoader_loader, loader, readingGroupC]

/-- The words of the group, the last own read DONE. -/
theorem groupAOf_words (w ws : Vector Word 8) : groupAOf (w.toList ++ firstWords 1 ws) =
    { ringBase := w[0].toNat, slotBase := w[1].toNat, reportBase := w[2].toNat, storeBase := w[3].toNat, storeSize := w[4].toNat
      bufferBase := w[5].toNat, bufferSize := w[6].toNat, holdLimit := w[7].toNat, passLimit := ws[0].toNat } := by
  have first (k : Fin 8) : fieldRead (w.toList ++ firstWords 1 ws) 0 k = w[k].toNat := by
    unfold fieldRead
    rw [Nat.sub_zero, List.getElem?_append_left (by simp), Vector.getElem?_toList, Vector.getElem?_eq_getElem k.isLt]
    rfl
  have last : fieldRead (w.toList ++ firstWords 1 ws) 0 8 = ws[0].toNat := by
    unfold fieldRead firstWords
    rw [Nat.sub_zero, List.getElem?_append_right (by simp)]
    simp
  have heads (k : Fin 8) (n : Nat) (at_ : n = k.val) : fieldRead (w.toList ++ firstWords 1 ws) 0 n = w[k].toNat := at_ ▸ first k
  unfold groupAOf
  simp only [heads 0 0 rfl, heads 1 1 rfl, heads 2 2 rfl, heads 3 3 rfl, heads 4 4 rfl, heads 5 5 rfl, heads 6 6 rfl, heads 7 7 rfl, last]
  rfl

/-- The end of a published group A read: the values, what the setup result shows, the event. -/
theorem endGroupA_published {s : State} (words : List Word) (fault : Option Nat) (b : Bool)
    (unthreaded : s.sequencer.transport = .unthreaded) (empty : s.intake.queue = []) :
    endGroupA words fault b (freePort s) = claimBoth b (match fault, groupAFailure words with
      | some a, _ => groupAPublished GroupA.default { status := .readFault, count := 9, first := 0 }
          (some { name := .setupReadFault, d0 := wordOfNat 1, d1 := wordOfNat a }) s
      | none, some (n, v) => groupAPublished GroupA.default { status := .defaulted, count := 9, first := n }
          (some { name := .setupGroupADefaulted, d0 := wordOfNat n, d1 := wordOfNat v }) s
      | none, none => groupAPublished (groupAOf words) { status := .accepted, count := 0, first := 0 } none s) := by
  unfold endGroupA
  dsimp only
  rw [deferReason_none (s := readEnds (freePort s)) unthreaded empty]
  cases fault with
  | some a => rfl
  | none => cases groupAFailure words <;> rfl

/-- The end of a group A read that is deferred: group C is read next. -/
theorem endGroupA_deferred {s : State} {c : SetupCommit} (words : List Word) (b : Bool)
    (busy : s.sequencer.transport ≠ .unthreaded ∨ s.intake.queue ≠ []) (commit : s.loader.commit = some c) (due : c.groupCDue = true)
    (noB : s.loader.waitingB = false) (noCommit : s.loader.waitingCommit = none) :
    ∃ reason, endGroupA words none b (freePort s) =
      startGroupRead .readingC ((deferGroupA reason (readEnds (freePort s))).onLoader fun l =>
        { l with commit := some { c with groupCDue := false } }) := by
  obtain ⟨reason, defers⟩ := deferReason_some (s := readEnds (freePort s)) busy
  have loader := deferGroupA_loader reason (readEnds (freePort s))
  refine ⟨reason, ?_⟩
  unfold endGroupA
  dsimp only
  rw [defers]
  exact nextWork_groupC (by rw [loader]; rfl) (by rw [loader]; exact noB) (by rw [loader]; exact noCommit) (by rw [loader]; exact commit) due

theorem groupAPublished_pending (g : GroupA) (r : GroupResult) (s : State) :
    (groupAPublished g r none s).reporter.pendingClasses = s.reporter.pendingClasses ∧
    ∀ e : Event, e.name.noticeClass = 5 →
      (groupAPublished g r (some e) s).reporter.pendingClasses = s.reporter.pendingClasses ||| 0x20#9 := by
  obtain ⟨-, -, pending⟩ := publishGroupA_deck g r (readEnds (freePort s))
  refine ⟨pending, fun e class_ => ?_⟩
  show (raise e (publishGroupA g r (readEnds (freePort s)))).reporter.pendingClasses = _
  rw [(raise_pending e _).1, pending, class_]
  rfl

/-- Settles O35. -/
theorem groupAReadPublishes : Obligations.GroupAReadPublishes := by
  intro s addr ws b c w there reading words commit due noB noCommit quiet g
  have values : groupAOf (w.toList ++ firstWords 1 ws) = g := groupAOf_words w ws
  have all : (freePort s).loader.words ++ firstWords 1 ws = w.toList ++ firstWords 1 ws := congrArg (· ++ firstWords 1 ws) words
  have done : exec (.setupReadAnswer (.done ws) b) s =
      .next (finishEvent (endGroupA (w.toList ++ firstWords 1 ws) none b (freePort s))) := by
    refine (exec_setupReadAnswer (.done ws) b there).trans ?_
    rw [setupAnswered_done, all, show (freePort s).loader.activity = .readingA from reading]
    · rfl
    · rw [all, show (freePort s).loader.activity = .readingA from reading, List.length_append, firstWords_length ws (by decide),
        Vector.length_toList]
      rfl
  constructor
  · intro unthreaded empty
    have published (g : GroupA) (r : GroupResult) (e : Option Event) :=
      groupAPublished_configured g r e b there commit due noB noCommit unthreaded empty quiet
    refine ⟨?accepted, ?defaulted, ?fault⟩
    case accepted =>
      intro valid
      have none : groupAFailure (w.toList ++ firstWords 1 ws) = Option.none := (groupAFailure_none_iff _).mpr (values ▸ valid)
      rw [endGroupA_published _ _ _ unthreaded empty, none, values] at done
      obtain ⟨t, ended, configured, groupA, result, pending⟩ := published g { status := .accepted, count := 0, first := 0 } Option.none
      exact ⟨t, done.trans (congrArg Host.Outcome.next ended), configured, groupA, result, pending.trans (groupAPublished_pending _ _ s).1⟩
    case defaulted =>
      intro invalid
      obtain ⟨⟨n, v⟩, failed⟩ := Option.ne_none_iff_exists'.mp fun none => invalid (values ▸ (groupAFailure_none_iff _).mp none)
      rw [endGroupA_published _ _ _ unthreaded empty, failed] at done
      obtain ⟨t, ended, configured, groupA, result, pending⟩ := published GroupA.default { status := .defaulted, count := 9, first := n }
        (some { name := .setupGroupADefaulted, d0 := wordOfNat n, d1 := wordOfNat v })
      exact ⟨t, done.trans (congrArg Host.Outcome.next ended), configured, groupA, by rw [result], by rw [result],
        pending.trans ((groupAPublished_pending _ _ s).2 _ rfl)⟩
    case fault =>
      have read : exec (.setupReadAnswer .fault b) s = .next (finishEvent (endGroupA s.loader.words (some 32) b (freePort s))) := by
        refine (exec_setupReadAnswer .fault b there).trans ?_
        unfold setupAnswered
        dsimp only
        rw [show (freePort s).loader.activity = .readingA from reading]
        rfl
      rw [endGroupA_published _ _ _ unthreaded empty] at read
      obtain ⟨t, ended, configured, groupA, result, pending⟩ := published GroupA.default { status := .readFault, count := 9, first := 0 }
        (some { name := .setupReadFault, d0 := wordOfNat 1, d1 := wordOfNat 32 })
      exact ⟨t, read.trans (congrArg Host.Outcome.next ended), configured, groupA, result,
        pending.trans ((groupAPublished_pending _ _ s).2 _ rfl)⟩
  · intro busy
    obtain ⟨reason, ends⟩ := endGroupA_deferred (w.toList ++ firstWords 1 ws) b busy commit due noB noCommit
    have only : LoaderOnly s (startGroupRead .readingC ((deferGroupA reason (readEnds (freePort s))).onLoader fun l =>
        { l with commit := some { c with groupCDue := false } })) :=
      ((((loaderOnly_freePort there).trans (loaderOnly_onLoader _ rfl)).trans (loaderOnly_deferGroupA _ _)).trans
        (loaderOnly_onLoader _ rfl)).trans (loaderOnly_startGroupRead_C _)
    rw [ends, finishEvent_of_quiet (only.quiet quiet)] at done
    refine ⟨_, done, ?_⟩
    have path : (deferGroupA reason (readEnds (freePort s))).path = (freePort s).path := by simp
    simp only [arbitrate_path, arbitrate_keeps, only.tracker, only.sequencer, only.generator, only.servos, only.links, only.sensors,
      only.intake, only.sweep]
    rw [startGroupRead_C]
    simp only [makeClaim_keeps, makeClaim_configured, onLoader_loader, onLoader_reporter, onLoader_path, deferGroupA_loader,
      deferGroupA_pending, path]
    exact ⟨rfl, trivial, trivial, rfl, trivial, rfl, trivial, trivial, trivial, trivial, trivial, trivial, trivial⟩

end Sys2Proof.Machine
end

section
/-! The release of the ARMED block (R20, R36, R37, R114), and the reads that wait for it (R21, R167, R168). -/

namespace Sys2Proof.Machine

/-! ### The release (R20, R37) -/

theorem closeRecoveryOf_eq (k : Fin 16) (q : Sequencer) :
    ∃ ρ, closeRecoveryOf k q = { q with recovery := ρ } ∧ (ρ = q.recovery ∨ ρ = none) := by
  unfold closeRecoveryOf
  split
  · split
    · exact ⟨none, rfl, .inr rfl⟩
    · exact ⟨q.recovery, rfl, .inl rfl⟩
  · exact ⟨q.recovery, rfl, .inl rfl⟩

theorem armRequest_none {s : State} (notFilled : (s.record s.tracker.recordCursor).state ≠ .filled) : armRequest s = none := by
  unfold armRequest
  dsimp only
  split
  · rfl
  · exact if_neg fun h => notFilled h.1

/-- The order waits for its next block, unless its outcome is fixed. -/
def fillAwaited (q : Sequencer) : Sequencer := if q.fixed.isSome then q else { q with fillWait := true }

theorem fillAwaited_eq (q : Sequencer) : ∃ w, fillAwaited q = { q with fillWait := w } ∧ (q.fixed = none → w = true) := by
  unfold fillAwaited
  split
  · next fixed => exact ⟨q.fillWait, rfl, fun none => by rw [none] at fixed; cases fixed⟩
  · exact ⟨true, rfl, fun _ => rfl⟩

/-- Short of the EOT limit, with the cursor record not FILLED, the order waits for it. -/
theorem armFlow_waits {s : State} (short : s.beyondEot = false) (notFilled : (s.record s.tracker.recordCursor).state ≠ .filled) :
    armFlow s = s.onSequencer fillAwaited := by
  unfold armFlow fillAwaited
  rw [armRequest_none notFilled]
  by_cases fixed : s.sequencer.fixed.isSome = true <;> simp [State.onSequencer, fixed, short]

/-- The record of a block released at T, R being the record point. -/
def releasedRecord (i : Fin 16) (r : Int) (s : State) : BlockRecord :=
  { s.record i with
    state := .recording
    coords := some { start := s.tapePos, stop := s.tapePos + ((s.record i).tapeLength : Nat) }
    longGap := decide (r + (s.groupB.lateAllowance : Nat) < s.tapePos) }

/-- LONG_GAP, when the release is late. -/
def longGapTold (late : Bool) (i : Fin 16) (s : State) : State := if late then raiseBlock .longGap i 0 0 s else s

theorem longGapTold_keeps (late : Bool) (i : Fin 16) (s : State) :
    (longGapTold late i s).tracker = s.tracker ∧ (longGapTold late i s).sequencer = s.sequencer ∧
    (longGapTold late i s).generator = s.generator ∧ (longGapTold late i s).servos = s.servos ∧
    (longGapTold late i s).links = s.links ∧ (longGapTold late i s).sensors = s.sensors ∧
    (longGapTold late i s).intake = s.intake ∧ (longGapTold late i s).path = s.path ∧
    (longGapTold late i s).loader = s.loader ∧ (longGapTold late i s).signals = s.signals := by
  cases late <;> simp [longGapTold]

/-- The Block Tracker's part of a release, with the long gap's event. -/
def trackerReleased (i : Fin 16) (r : Int) (s : State) : State :=
  setRecordCursor (ringAdd i 1)
    (longGapTold (decide (r + (s.groupB.lateAllowance : Nat) < s.tapePos)) i (setRecord i (releasedRecord i r s) s))

/-- What a release leaves with the sequencer, but for the wait for the next block. -/
def sequencerReleased (i : Fin 16) (stop head : Int) (q : Sequencer) : Sequencer :=
  closeRecoveryOf i { q with anchor := stop, gapKind := .nominal, recordPoint := none, decisions := q.decisions ++ [(i, stop + head)], noShow := 0 }

theorem releaseBlock_eq (i : Fin 16) (r : Int) (s : State) :
    releaseBlock i r s = armFlow ((trackerReleased i r s).onSequencer
      (sequencerReleased i (s.tapePos + ((s.record i).tapeLength : Nat)) (trackerReleased i r s).headOffset)) := rfl

section
variable (i : Fin 16) (r : Int) (s : State)

theorem trackerReleased_record (j : Fin 16) :
    (trackerReleased i r s).record j = if i = j then releasedRecord i r s else s.record j := by
  rw [← setRecord_record]
  exact record_congr (longGapTold_keeps _ _ _).1 j

theorem trackerReleased_keeps :
    (trackerReleased i r s).sequencer = s.sequencer ∧ (trackerReleased i r s).generator = s.generator ∧
    (trackerReleased i r s).servos = s.servos ∧ (trackerReleased i r s).links = s.links ∧
    (trackerReleased i r s).sensors = s.sensors ∧ (trackerReleased i r s).intake = s.intake ∧
    (trackerReleased i r s).path = s.path ∧ (trackerReleased i r s).loader = s.loader ∧
    (trackerReleased i r s).signals = s.signals := by
  unfold trackerReleased
  simp [longGapTold_keeps]

theorem trackerReleased_cursors :
    (trackerReleased i r s).tracker.recordCursor = i + 1 ∧
    (trackerReleased i r s).tracker.receiveCursor = s.tracker.receiveCursor := by
  refine ⟨rfl, ?_⟩
  rw [← (setRecord_cursors i (releasedRecord i r s) s).2.1]
  show (longGapTold _ _ _).tracker.receiveCursor = _
  rw [(longGapTold_keeps _ _ _).1]

theorem trackerReleased_longGap (late : r + (s.groupB.lateAllowance : Nat) < s.tapePos) :
    (trackerReleased i r s).reporter.pendingClasses.getLsbD 6 = true := by
  unfold trackerReleased
  rw [decide_eq_true late]
  exact raise_makes_pending _ _

end

/-- A block is released with the next one not FILLED: what the release leaves. -/
structure ReleaseDone (i : Fin 16) (r : Int) (s u : State) : Prop where
  released : Released i r s u
  others : ∀ j : Fin 16, j ≠ i → u.record j = s.record j
  sequencer : ∃ ρ w, u.sequencer = { s.sequencer with
    anchor := s.servos.t + (s.record i).tapeLength, gapKind := .nominal, recordPoint := none, noShow := 0, recovery := ρ, fillWait := w,
    decisions := s.sequencer.decisions ++ [(i, s.servos.t + (s.record i).tapeLength + s.loader.groupB.headOffset)] } ∧
    (ρ = s.sequencer.recovery ∨ ρ = none) ∧ (s.sequencer.fixed = none → w = true)
  servos : u.servos = s.servos
  links : u.links = s.links
  sensors : u.sensors = s.sensors
  intake : u.intake = s.intake
  path : u.path = s.path
  loader : u.loader = s.loader
  signals : u.signals = s.signals

theorem Released.ofSame {i : Fin 16} {r : Int} {s s' u v : State} (released : Released i r s u) (tracker : v.tracker = u.tracker)
    (sequencer : v.sequencer = u.sequencer) (generator : v.generator = u.generator) (reporter : v.reporter = u.reporter)
    (before : s'.tracker = s.tracker ∧ s'.sequencer = s.sequencer ∧ s'.generator = s.generator ∧ s'.servos = s.servos ∧
      s'.loader = s.loader) : Released i r s' v := by
  obtain ⟨block, cursor, receive, anchor, kind, decisions, noShow, transport, generatorU, still, longGap⟩ := released
  obtain ⟨tracker', sequencer', generator', servos', loader'⟩ := before
  have record := record_congr tracker' i
  constructor
  · rw [record_congr tracker i, record, servos', loader']; exact block
  · rw [tracker]; exact cursor
  · rw [tracker, tracker']; exact receive
  · rw [sequencer, servos', record]; exact anchor
  · rw [sequencer]; exact kind
  · rw [sequencer, sequencer', servos', record, loader']; exact decisions
  · rw [sequencer]; exact noShow
  · rw [sequencer, sequencer']; exact transport
  · rw [generator, generator']; exact generatorU
  · rw [sequencer, sequencer']; exact still
  · rw [reporter, servos', loader']; exact longGap

theorem releaseBlock_done {s : State} (i : Fin 16) (r : Int) (short : s.beyondEot = false)
    (notFilled : (s.record (i + 1)).state ≠ .filled) : ReleaseDone i r s (releaseBlock i r s) := by
  obtain ⟨sequencer, generator, servos, links, sensors, intake, path, loader, signals⟩ := trackerReleased_keeps i r s
  obtain ⟨cursor, receive⟩ := trackerReleased_cursors i r s
  have head : (trackerReleased i r s).headOffset = s.loader.groupB.headOffset := by
    unfold State.headOffset State.groupB
    rw [loader]
  obtain ⟨ρ, closed, recovery⟩ := closeRecoveryOf_eq i
    { s.sequencer with
      anchor := s.servos.t + (s.record i).tapeLength, gapKind := .nominal, recordPoint := none, noShow := 0,
      decisions := s.sequencer.decisions ++ [(i, s.servos.t + (s.record i).tapeLength + s.loader.groupB.headOffset)] }
  have eq := releaseBlock_eq i r s
  rw [head] at eq
  let +generalize (eq := isX) x := (trackerReleased i r s).onSequencer
    (sequencerReleased i (s.tapePos + ((s.record i).tapeLength : Nat)) (s.loader.groupB.headOffset : Nat))
  have sequencerX : x.sequencer = { s.sequencer with
      anchor := s.servos.t + (s.record i).tapeLength, gapKind := .nominal, recordPoint := none, noShow := 0, recovery := ρ,
      decisions := s.sequencer.decisions ++ [(i, s.servos.t + (s.record i).tapeLength + s.loader.groupB.headOffset)] } := by
    rw [isX, onSequencer_sequencer, sequencer]
    exact closed
  have next : (x.record x.tracker.recordCursor).state ≠ .filled := by
    rw [show x.tracker.recordCursor = i + 1 from cursor, show x.record (i + 1) = _ from trackerReleased_record i r s (i + 1),
      if_neg (by omega)]
    exact notFilled
  have shortX : x.beyondEot = false := by
    rw [← short]
    unfold State.beyondEot State.groupB State.tapePos
    rw [sequencerX, show x.loader = s.loader from loader, show x.servos = s.servos from servos]
  rw [armFlow_waits shortX next] at eq
  obtain ⟨w, awaited, waits⟩ := fillAwaited_eq x.sequencer
  rw [sequencerX] at waits
  have sequencerU : (releaseBlock i r s).sequencer = { s.sequencer with
      anchor := s.servos.t + (s.record i).tapeLength, gapKind := .nominal, recordPoint := none, noShow := 0, recovery := ρ, fillWait := w,
      decisions := s.sequencer.decisions ++ [(i, s.servos.t + (s.record i).tapeLength + s.loader.groupB.headOffset)] } := by
    rw [eq, onSequencer_sequencer, awaited, sequencerX]
  have others (j : Fin 16) : (releaseBlock i r s).record j = if i = j then releasedRecord i r s else s.record j := by
    rw [eq]
    exact trackerReleased_record i r s j
  refine ⟨?released, fun j away => by rw [others, if_neg (Ne.symm away)], ?sequencer, by rw [eq]; exact servos, by rw [eq]; exact links,
    by rw [eq]; exact sensors, by rw [eq]; exact intake, by rw [eq]; exact path, by rw [eq]; exact loader, by rw [eq]; exact signals⟩
  case released =>
    constructor
    case block =>
      rw [others, if_pos rfl]
      rfl
    case cursor => rw [eq]; exact cursor
    case receive => rw [eq]; exact receive
    case generator => rw [eq]; exact generator
    case longGap =>
      intro late
      rw [eq]
      exact trackerReleased_longGap i r s late
    all_goals rw [sequencerU]
    case still => exact ⟨rfl, rfl, rfl, rfl⟩
  case sequencer => exact ⟨ρ, w, sequencerU, recovery, waits⟩

theorem releaseCondition_running {s : State} (now : releaseCondition s = true) :
    s.sequencer.transport = .running ∧ s.sequencer.dir = some .forward := by
  unfold releaseCondition at now
  simp only [Bool.and_eq_true, decide_eq_true_eq] at now
  exact ⟨now.1.1.1.1, now.1.1.1.2⟩

/-- A release makes nothing due: its decision point lies ahead. -/
theorem nothingDue_released {i : Fin 16} {r : Int} {s u : State} (nothing : NothingDue s) (done : ReleaseDone i r s u)
    (moving : s.sequencer.transport = .running ∧ s.sequencer.dir = some .forward) (long : 0 < (s.record i).tapeLength) : NothingDue u := by
  obtain ⟨ρ, w, sequencer, recovery, -⟩ := done.sequencer
  have order := order_congr done.intake
  have tape := done.servos
  have loader := done.loader
  have generator := done.released.generator
  have near (x : Int) : RepositionNear x u ↔ RepositionNear x s := by
    unfold RepositionNear State.movingAs State.distance
    rw [sequencer, tape, generator]
  constructor
  case held => intro r' point; rw [sequencer] at point; cases point
  case noShow => intro r' point; rw [sequencer] at point; cases point
  case decision =>
    intro j d rest listed moves dir fallback
    rw [sequencer] at listed fallback
    rw [tape]
    cases old : s.sequencer.decisions with
    | nil =>
      rw [old] at listed
      have only : (i, s.servos.t + (s.record i).tapeLength + s.loader.groupB.headOffset) = (j, d) := (List.cons.inj listed).1
      have ahead : s.servos.t + (s.record i).tapeLength + s.loader.groupB.headOffset = d := congrArg Prod.snd only
      omega
    | cons e old' =>
      rw [old] at listed
      obtain ⟨rfl, -⟩ := List.cons.inj listed
      exact nothing.decision j d old' old (by rw [moving.1]; rfl) moving.2 fallback
  case erase => unfold State.movingAs State.distance; rw [sequencer, tape, generator]; exact nothing.erase
  case backup =>
    intro rec open_ phase
    rw [near]
    rw [sequencer] at open_
    obtain same | none := recovery
    · exact nothing.backup rec (same ▸ open_) phase
    · rw [none] at open_
      cases open_
  case approach => intro q; rw [sequencer, near]; exact nothing.approach q
  case blank => unfold State.readingUnderway; rw [sequencer, tape, loader]; exact nothing.blank
  case bot => rw [sequencer, tape]; exact nothing.bot
  case eot => unfold State.beyondEot State.tapePos State.groupB; rw [sequencer, tape, loader, order]; exact nothing.eot
  case near =>
    unfold State.rewindStep State.farFromLoadPoint State.tapePos State.groupB
    rw [sequencer, tape, loader]
    exact nothing.near
  case limit => unfold State.rewindStep; rw [sequencer, tape, loader]; exact nothing.limit
  case leader => unfold State.distance; rw [sequencer, tape, generator]; exact nothing.leader

theorem quiet_released {i : Fin 16} {r : Int} {s u : State} (quiet : Quiet s) (done : ReleaseDone i r s u)
    (moving : s.sequencer.transport = .running ∧ s.sequencer.dir = some .forward) (long : 0 < (s.record i).tapeLength) : Quiet u := by
  obtain ⟨noSignal, nothing, noSettlement, noHandOver⟩ := quiet_iff_nothingDue.mp quiet
  refine quiet_iff_nothingDue.mpr ⟨done.signals.trans noSignal, nothingDue_released nothing done moving long, ?_,
    handOverDue_none_of noHandOver done.intake (by rw [done.path])⟩
  exact settlementDue_congr done.released.generator (by rw [done.path]) (by rw [done.path]) noSettlement

/-! ### First-word reads of the ARMED record (R21, R167, R168) -/

theorem quiet_clearAnswers {s : State} (quiet : Quiet s) : Quiet (clearAnswers s) :=
  quiet_of_kept quiet rfl rfl rfl rfl rfl rfl (holding_congr rfl) rfl fun _ => id

/-- A claim at the upper port holds no read. -/
theorem quiet_passClaim {s : State} (quiet : Quiet s) (free : s.holding = false) (t : BusTxn) : Quiet (passClaim t s) :=
  quiet_of_kept quiet rfl rfl rfl rfl rfl rfl ((holding_of_claimed rfl).trans free.symm) rfl fun _ => id

/-- A read is held where the release condition does not hold. -/
def readHeld (t : BusTxn) (s : State) : State :=
  s.onPath fun p => { p with upper := some { txn := t, stage := .held s.loader.groupA.holdLimit } }

theorem quiet_readHeld {s : State} (quiet : Quiet s) (t : BusTxn) (closed : releaseCondition s = false) : Quiet (readHeld t s) := by
  obtain ⟨noSignal, nothing, noSettlement, noHandOver⟩ := quiet_iff_nothingDue.mp quiet
  exact quiet_iff_nothingDue.mpr ⟨noSignal, { nothing with held := fun _ _ _ => closed }, settlementDue_congr (a := s) rfl rfl rfl noSettlement,
    noHandOver⟩

theorem armedRead_cases {s : State} {i : Fin 16} {r : Int} (t : BusTxn) (point : s.sequencer.recordPoint = some r) :
    armedRead i t s =
      if releaseCondition s then passClaim t (releaseBlock i r s)
      else if s.loader.groupA.holdLimit = 0 then answerUpper .retry s else readHeld t s := by
  unfold armedRead
  rw [point]
  rfl

/-- Settles O29. -/
theorem armedReadsAreGated : Obligations.ArmedReadsAreGated := by
  intro s a n i r free quiet within found armed point
  have read := exec_firstWordRead free within found
  rw [if_pos armed, armedRead_cases (.read a n) (s := clearAnswers s) point] at read
  have quietHere := quiet_clearAnswers quiet
  refine ⟨?released, ?held, ?retried⟩
  case released =>
    intro now long short next
    rw [if_pos (show releaseCondition (clearAnswers s) = true from now)] at read
    have done := releaseBlock_done (s := clearAnswers s) i r short next
    have quietAfter := quiet_released quietHere done (releaseCondition_running now) long
    have idle : (releaseBlock i r (clearAnswers s)).holding = false := holding_of_upper_none ((congrArg Path.upper done.path).trans free)
    rw [finishEvent_of_quiet (quiet_passClaim quietAfter idle _)] at read
    obtain ⟨ρ, w, sequencer, -, waits⟩ := done.sequencer
    have kept := arbitrate_keeps (passClaim (.read a n) (releaseBlock i r (clearAnswers s)))
    obtain ⟨tracker, sequencerT, generator, servos, links, sensors, intake, loader, reporter, -⟩ := kept
    have record (j : Fin 16) := record_congr tracker j
    refine ⟨_, read, ?_, ?answers, arbitrate_upper_claimed rfl, ?_, ?_, fun j away => (record j).trans (done.others j away),
      servos.trans done.servos, links.trans done.links, sensors.trans done.sensors, intake.trans done.intake, loader.trans done.loader⟩
    case answers =>
      rw [(arbitrate_path _).2.2.2.2.2]
      exact congrArg Path.answers done.path
    · exact done.released.ofSame tracker sequencerT generator reporter ⟨rfl, rfl, rfl, rfl, rfl⟩
    · rw [sequencerT, show (passClaim (.read a n) (releaseBlock i r (clearAnswers s))).sequencer = _ from sequencer]
    · intro open_
      rw [sequencerT, show (passClaim (.read a n) (releaseBlock i r (clearAnswers s))).sequencer = _ from sequencer]
      exact waits open_
  case held =>
    intro closed limit
    rw [if_neg (show ¬releaseCondition (clearAnswers s) = true by rw [show releaseCondition (clearAnswers s) = false from closed]; decide),
      if_neg (show ¬(clearAnswers s).loader.groupA.holdLimit = 0 from limit), finishEvent_of_quiet (quiet_readHeld quietHere _ closed)] at read
    refine ⟨_, read, ?_, arbitrate_upper_held rfl, ?_⟩
    · rw [(arbitrate_path _).2.2.2.2.2]
      rfl
    · simp only [arbitrate_keeps]
      exact ⟨rfl, rfl, rfl, rfl, rfl, rfl, rfl, rfl, rfl⟩
  case retried =>
    intro closed limit
    rw [if_neg (show ¬releaseCondition (clearAnswers s) = true by rw [show releaseCondition (clearAnswers s) = false from closed]; decide),
      if_pos (show (clearAnswers s).loader.groupA.holdLimit = 0 from limit),
      finishEvent_of_quiet ((portsOnly_answerUpper free .retry).quiet quiet)] at read
    refine ⟨_, read, ?_, arbitrate_upper_none rfl, ?_⟩
    · rw [(arbitrate_path _).2.2.2.2.2]
      rfl
    · simp only [arbitrate_keeps]
      exact ⟨rfl, rfl, rfl, rfl, rfl, rfl, rfl, rfl, rfl⟩

end Sys2Proof.Machine
end

section
/-! T is moved by an encoder count and by a rebase alone (R79, R106): every reaction of the sequencer leaves it. -/

namespace Sys2Proof.Machine

@[simp] theorem clearCaptures_tape (s : State) : (clearCaptures s).servos.t = s.servos.t := by
  simp [clearCaptures]

@[simp] theorem setGenDir_tape (d : Option Direction) (s : State) : (setGenDir d s).servos.t = s.servos.t := by
  unfold setGenDir
  split <;> simp

@[simp] theorem beginStart_tape (q : StartRequest) (s : State) : (beginStart q s).servos.t = s.servos.t := by
  unfold beginStart
  split <;> simp

@[simp] theorem takeWaiting_tape (s : State) : (takeWaiting s).servos.t = s.servos.t := by
  unfold takeWaiting
  split <;> simp

@[simp] theorem startRequest_tape (c : Chain) (d : Direction) (s : State) : (startRequest c d s).servos.t = s.servos.t := by
  unfold startRequest
  (repeat' split) <;> simp

@[simp] theorem stopRequest_tape (c : Chain) (s : State) : (stopRequest c s).servos.t = s.servos.t := by
  unfold stopRequest
  split <;> simp

@[simp] theorem startMotion_tape (d : Direction) (p : Purpose) (s : State) : (startMotion d p s).servos.t = s.servos.t := by
  simp [startMotion, setTransport_tape]

@[simp] theorem stopMotion_tape (s : State) : (stopMotion s).servos.t = s.servos.t := by
  unfold stopMotion
  (repeat' split) <;> simp [setTransport_tape]

@[simp] theorem forwardStart_tape (x : Int) (p : Purpose) (s : State) : (forwardStart x p s).servos.t = s.servos.t := by
  unfold forwardStart
  dsimp only
  split <;> simp

@[simp] theorem fixAndStop_tape (o : Outcome) (rsn : Reason) (s : State) : (fixAndStop o rsn s).servos.t = s.servos.t := by
  simp [fixAndStop]

@[simp] theorem startToRecord_tape (s : State) : (startToRecord s).servos.t = s.servos.t := by
  unfold startToRecord
  (repeat' split) <;> simp

@[simp] theorem armFlow_tape (s : State) : (armFlow s).servos.t = s.servos.t := by
  unfold armFlow
  split
  · rfl
  · split
    · dsimp only
      split <;> simp
    · split
      · next armed => simp [(armRequest_keeps armed).2.2.1]
      · rfl

@[simp] theorem releaseHandled_tape (i : Fin 16) (stop : Int) (s : State) : (releaseHandled i stop s).servos.t = s.servos.t := by
  simp [releaseHandled]

@[simp] theorem releaseBlock_tape (i : Fin 16) (r : Int) (s : State) : (releaseBlock i r s).servos.t = s.servos.t := by
  unfold releaseBlock
  dsimp only
  split <;> simp

@[simp] theorem streamOrStop_tape (s : State) : (streamOrStop s).servos.t = s.servos.t := by
  unfold streamOrStop
  dsimp only
  (repeat' split) <;> simp

@[simp] theorem decisionPoint_tape (i : Fin 16) (rest : List (Fin 16 × Int)) (s : State) : (decisionPoint i rest s).servos.t = s.servos.t := by
  unfold decisionPoint
  dsimp only
  split
  · rfl
  · next s2 decided =>
    have kept : s2.servos = s.servos := (decisionRequest_keeps i decided).2.2.1
    split <;> simp [kept]

@[simp] theorem noShow_tape (s : State) : (noShow s).servos.t = s.servos.t := by
  unfold noShow
  dsimp only
  split <;> simp

@[simp] theorem startReading_tape (o : OrderCode) (s : State) : (startReading o s).servos.t = s.servos.t := by
  unfold startReading
  split <;> simp

@[simp] theorem expectAndStart_tape (o : OrderCode) (s : State) : (expectAndStart o s).servos.t = s.servos.t := by
  unfold expectAndStart
  split
  · simp
  · split
    · next expecting => simp [(expectRequest_keeps expecting).2.2.1]
    · rfl

@[simp] theorem eraseStop_tape (e : Int) (s : State) : (eraseStop e s).servos.t = s.servos.t := by
  simp [eraseStop]

@[simp] theorem botRule_tape (s : State) : (botRule s).servos.t = s.servos.t := by
  unfold botRule
  split <;> simp

@[simp] theorem beginBackup_tape (d : Direction) (s : State) : (beginBackup d s).servos.t = s.servos.t := by
  simp [beginBackup]

@[simp] theorem enterRunIn_tape (s : State) : (enterRunIn s).servos.t = s.servos.t := by
  unfold enterRunIn
  dsimp only
  split <;> simp

@[simp] theorem settleWrite_tape (target : Int) (s : State) : (settleWrite target s).servos.t = s.servos.t := by
  unfold settleWrite
  split <;> simp

@[simp] theorem settleRead_tape (o : OrderCode) (s : State) : (settleRead o s).servos.t = s.servos.t := by
  simp [settleRead]

@[simp] theorem beginReread_tape (o : OrderCode) (s : State) : (beginReread o s).servos.t = s.servos.t := by
  simp [beginReread]

@[simp] theorem setRewindStep_tape (r : RewindStep) (s : State) : (setRewindStep r s).servos.t = s.servos.t := by
  unfold setRewindStep
  split <;> simp [setTransport_tape]

@[simp] theorem beginRewind_tape (s : State) : (beginRewind s).servos.t = s.servos.t := by
  unfold beginRewind
  split <;> simp

@[simp] theorem completeUnload_tape (s : State) : (completeUnload s).servos.t = s.servos.t := by
  simp [completeUnload, setTransport_tape]

@[simp] theorem enterRelease_tape (s : State) : (enterRelease s).servos.t = s.servos.t := by
  unfold enterRelease
  dsimp only
  (repeat' split) <;> simp [setTransport_tape]

@[simp] theorem enterLeader_tape (s : State) : (enterLeader s).servos.t = s.servos.t := by
  unfold enterLeader
  dsimp only
  (repeat' split) <;> simp [setTransport_tape]

@[simp] theorem beginUnloadRewind_tape (s : State) : (beginUnloadRewind s).servos.t = s.servos.t := by
  unfold beginUnloadRewind
  split <;> simp

@[simp] theorem beginLoad_tape (origin : SeekOrigin) (s : State) : (beginLoad origin s).servos.t = s.servos.t := by
  unfold beginLoad
  (repeat' split) <;> simp [setTransport_tape]

@[simp] theorem takeLoad_tape (s : State) : (takeLoad s).servos.t = s.servos.t := by
  unfold takeLoad
  split <;> simp

@[simp] theorem takeRewind_tape (s : State) : (takeRewind s).servos.t = s.servos.t := by
  unfold takeRewind
  (repeat' split) <;> simp

@[simp] theorem takeUnload_tape (s : State) : (takeUnload s).servos.t = s.servos.t := by
  unfold takeUnload
  split <;> simp [setTransport_tape]

@[simp] theorem enterLoops_tape (s : State) : (enterLoops s).servos.t = s.servos.t := by
  simp [enterLoops, setTransport_tape]

@[simp] theorem vacuumCheck_tape (s : State) : (vacuumCheck s).servos.t = s.servos.t := by
  unfold vacuumCheck
  split <;> simp

@[simp] theorem beginFinalCreep_tape (s : State) : (beginFinalCreep s).servos.t = s.servos.t := by
  simp [beginFinalCreep]

@[simp] theorem completeLoad_tape (s : State) : (completeLoad s).servos.t = s.servos.t := by
  simp [completeLoad, setTransport_tape]

@[simp] theorem completeRewind_tape (s : State) : (completeRewind s).servos.t = s.servos.t := by
  simp [completeRewind, setTransport_tape]

@[simp] theorem beginOrder_tape (o : OrderCode) (slot : Fin 8) (n : Nat) (s : State) : (beginOrder o slot n s).servos.t = s.servos.t := by
  unfold beginOrder
  (repeat' split) <;> simp

@[simp] theorem takeMotionOrder_tape (o : OrderCode) (slot : Fin 8) (n : Nat) (s : State) : (takeMotionOrder o slot n s).servos.t = s.servos.t := by
  unfold takeMotionOrder
  (repeat' split) <;> simp

@[simp] theorem takeRunning_tape (s : State) : (takeRunning s).servos.t = s.servos.t := by
  unfold takeRunning
  (repeat' split) <;> simp

@[simp] theorem armIfNoticed_tape (noticed : Bool) (s : State) : (armIfNoticed noticed s).servos.t = s.servos.t := by
  unfold armIfNoticed
  split <;> simp

@[simp] theorem writeAtStopped_tape (s : State) : (writeAtStopped s).servos.t = s.servos.t := by
  unfold writeAtStopped
  (repeat' split) <;> simp

@[simp] theorem readAtStopped_tape (o : OrderCode) (s : State) : (readAtStopped o s).servos.t = s.servos.t := by
  unfold readAtStopped
  (repeat' split) <;> simp

@[simp] theorem goOnAtStopped_tape (o : OrderCode) (s : State) : (goOnAtStopped o s).servos.t = s.servos.t := by
  unfold goOnAtStopped
  (repeat' split) <;> simp

@[simp] theorem orderAtStopped_tape (s : State) : (orderAtStopped s).servos.t = s.servos.t := by
  unfold orderAtStopped
  (repeat' split) <;> simp

@[simp] theorem reachStopped_tape (s : State) : (reachStopped s).servos.t = s.servos.t := by
  simp [reachStopped, setTransport_tape]

@[simp] theorem haltStopEnded_tape (s : State) : (haltStopEnded s).servos.t = s.servos.t := by
  unfold haltStopEnded
  dsimp only
  (repeat' split) <;> simp [setTransport_tape]

@[simp] theorem seekStopEnded_tape (s : State) : (seekStopEnded s).servos.t = s.servos.t := by
  unfold seekStopEnded
  (repeat' split) <;> simp [setTransport_tape]

@[simp] theorem rewindStopEnded_tape (s : State) : (rewindStopEnded s).servos.t = s.servos.t := by
  unfold rewindStopEnded
  (repeat' split) <;> simp [setTransport_tape]

@[simp] theorem unloadStopEnded_tape (s : State) : (unloadStopEnded s).servos.t = s.servos.t := by
  unfold unloadStopEnded
  (repeat' split) <;> simp [setTransport_tape]

@[simp] theorem stopEnded_tape (s : State) : (stopEnded s).servos.t = s.servos.t := by
  unfold stopEnded
  (repeat' split) <;> simp

@[simp] theorem startEnded_tape (s : State) : (startEnded s).servos.t = s.servos.t := by
  unfold startEnded
  (repeat' split) <;> simp [setTransport_tape]

@[simp] theorem creepReached_tape (s : State) : (creepReached s).servos.t = s.servos.t := by
  unfold creepReached
  split <;> simp

@[simp] theorem profileFaulted_tape (stopping : Bool) (s : State) : (profileFaulted stopping s).servos.t = s.servos.t := by
  unfold profileFaulted
  dsimp only
  (repeat' split) <;> simp [setTransport_tape]

@[simp] theorem handleSignal_tape (g : Signal) (s : State) : (handleSignal g s).servos.t = s.servos.t := by
  unfold handleSignal
  split <;> simp

/-! ### Events -/

theorem positionEvent_tape {s t : State} (e : positionEvent s = some t) : t.servos.t = s.servos.t := by
  unfold positionEvent at e
  refine orElse_keeps (P := fun u => u.servos.t = s.servos.t) ?held (orElse_keeps ?decision (orElse_keeps ?noShow (orElse_keeps ?erase
    (orElse_keeps ?reposition (orElse_keeps ?blank (orElse_keeps ?bot (orElse_keeps ?eot (orElse_keeps ?near
    (orElse_keeps ?limit ?leader))))))))) t e
  case held =>
    intro u due
    unfold heldRelease at due
    (repeat' split at due) <;> cases due <;> simp
  case decision =>
    intro u due
    unfold decisionDue at due
    (repeat' split at due) <;> cases due <;> simp
  case noShow =>
    intro u due
    unfold noShowDue at due
    (repeat' split at due) <;> cases due <;> simp
  case erase =>
    intro u due
    unfold eraseDue at due
    (repeat' split at due) <;> cases due <;> simp
  case reposition =>
    intro u due
    unfold repositionDue at due
    dsimp only at due
    (repeat' split at due) <;> cases due <;> simp
  case blank =>
    intro u due
    unfold blankDue at due
    (repeat' split at due) <;> cases due <;> simp
  case bot =>
    intro u due
    unfold botDue at due
    (repeat' split at due) <;> cases due <;> simp
  case eot =>
    intro u due
    unfold eotDue at due
    dsimp only at due
    (repeat' split at due) <;> cases due <;> simp
  case near =>
    intro u due
    unfold rewindNear at due
    dsimp only at due
    (repeat' split at due) <;> cases due <;> simp
  case limit =>
    intro u due
    unfold rewindLimit at due
    (repeat' split at due) <;> cases due <;> simp
  case leader =>
    intro u due
    unfold leaderDue at due
    dsimp only at due
    (repeat' split at due) <;> cases due <;> simp

theorem reactOnce_tape {s t : State} (e : reactOnce s = some t) : t.servos.t = s.servos.t := by
  unfold reactOnce at e
  split at e
  · cases e
    simp
  · refine orElse_keeps (P := fun u => u.servos.t = s.servos.t) (fun _ => positionEvent_tape) (orElse_keeps ?settlement ?handOver) t e
    case settlement =>
      intro u due
      obtain ⟨x, settles, rfl⟩ := Option.map_eq_some_iff.mp due
      simp [(settlementDue_settles settles).servos]
    case handOver =>
      intro u due
      obtain ⟨x, -, rfl⟩ := Option.map_eq_some_iff.mp due
      simp

@[simp] theorem react_tape (n : Nat) (s : State) : (react n s).servos.t = s.servos.t := by
  induction n generalizing s with
  | zero => rfl
  | succ n ih =>
    unfold react
    split
    · next t once => exact (ih t).trans (reactOnce_tape once)
    · rfl

@[simp] theorem finishEvent_tape (s : State) : (finishEvent s).servos.t = s.servos.t := by
  unfold finishEvent
  simp


end Sys2Proof.Machine
end
section
/-! Motions that begin to stop (R28, R70, R75, R76), and what is then still due. -/

namespace Sys2Proof.Machine

/-! ### Chains that slow down (R75, R76) -/

/-- From `s` to `u` a chain has begun that brings V down; the fetches of the lower port are its own matter. -/
structure Slows (c : Chain) (toCreep : Bool) (s u : State) : Prop where
  generator : ∃ run working reload, u.generator =
    { s.generator with mode := .decel, run := some run, working := working, reload := reload } ∧
    run.chain = c ∧ run.toCreep = toCreep ∧ run.target = if toCreep then s.loader.groupB.vCreep else 0
  path : ∃ claims port, u.path = { s.path with claims := claims, port := port }
  tracker : u.tracker = s.tracker
  sequencer : u.sequencer = s.sequencer
  servos : u.servos = s.servos
  links : u.links = s.links
  sensors : u.sensors = s.sensors
  intake : u.intake = s.intake
  loader : u.loader = s.loader
  reporter : u.reporter = s.reporter
  signals : u.signals = s.signals

/-- Only the lower port's claims differ. -/
theorem Slows.ofClaims {c : Chain} {toCreep : Bool} {s u : State} (slows : Slows c toCreep s u) (f : Path → Path)
    (claims : ∀ p, ∃ cs port, f p = { p with claims := cs, port := port }) : Slows c toCreep s (u.onPath f) := by
  obtain ⟨generator, ⟨cs, port, path⟩, tracker, sequencer, servos, links, sensors, intake, loader, reporter, signals⟩ := slows
  refine ⟨generator, ?_, tracker, sequencer, servos, links, sensors, intake, loader, reporter, signals⟩
  obtain ⟨cs', port', changed⟩ := claims u.path
  exact ⟨cs', port', by rw [onPath_path, changed, path]⟩

theorem Slows.withdrawn {c : Chain} {toCreep : Bool} {s u : State} (slows : Slows c toCreep s u) (f : OwnAccess → Bool) :
    Slows c toCreep s (withdrawClaims f u) :=
  slows.ofClaims _ fun _ => ⟨_, _, rfl⟩

theorem Slows.claimed {c : Chain} {toCreep : Bool} {s u : State} (slows : Slows c toCreep s u) (a : OwnAccess) (urgent : Bool) :
    Slows c toCreep s (makeClaim a urgent u) :=
  slows.ofClaims _ fun p => ⟨_, p.port, rfl⟩

theorem Slows.urged {c : Chain} {toCreep : Bool} {s u : State} (slows : Slows c toCreep s u) : Slows c toCreep s (urgeFetch u) :=
  slows.ofClaims _ fun p => ⟨_, p.port, rfl⟩

theorem Slows.refreshed {c : Chain} {toCreep : Bool} {s u : State} (slows : Slows c toCreep s u) :
    Slows c toCreep s (refreshUrgency u) := by
  unfold refreshUrgency
  dsimp only
  split <;> split
  · exact slows.urged
  · exact slows
  · exact slows.urged
  · exact slows

theorem slows_beginStop (c : Chain) (toCreep : Bool) (s : State) : Slows c toCreep s (beginStop c toCreep s) := by
  unfold beginStop
  dsimp only
  split
  · exact ⟨⟨_, _, _, rfl, rfl, rfl, rfl⟩, ⟨s.path.claims, s.path.port, rfl⟩, rfl, rfl, rfl, rfl, rfl, rfl, rfl, rfl, rfl⟩
  · exact ⟨⟨_, _, _, rfl, rfl, rfl, rfl⟩, ⟨s.path.claims, s.path.port, rfl⟩, rfl, rfl, rfl, rfl, rfl, rfl, rfl, rfl, rfl⟩

/-- The head that was ready works at once. -/
theorem Slows.segmentBegun {c : Chain} {toCreep : Bool} {s u : State} (slows : Slows c toCreep s u) (w : Segment) :
    Slows c toCreep s (beginSegment w u) := by
  obtain ⟨⟨run, working, reload, generator, chain, creep, target⟩, path, tracker, sequencer, servos, links, sensors, intake, loader, reporter, signals⟩ := slows
  have begun : Slows c toCreep s (u.onGenerator fun g =>
      { g with working := some w, reload := none,
               run := g.run.map fun r => { r with segments := r.segments + 1, lateRaised := false } }) :=
    ⟨⟨{ run with segments := run.segments + 1, lateRaised := false }, some w, none, by rw [onGenerator_generator, generator]; rfl,
      chain, creep, target⟩, path, tracker, sequencer, servos, links, sensors, intake, loader, reporter, signals⟩
  unfold beginSegment
  dsimp only
  split
  · exact begun
  · exact begun.claimed _ _

theorem slows_stopFromCruise (c : Chain) (toCreep : Bool) (s : State) : Slows c toCreep s (stopFromCruise c toCreep s) := by
  have begun := slows_beginStop c toCreep s
  unfold stopFromCruise
  dsimp only
  split
  · exact begun.withdrawn _
  · split
    · split
      · exact (begun.segmentBegun _).refreshed
      · exact (begun.withdrawn _).claimed _ _
    · split
      · exact begun.urged
      · exact (begun.withdrawn _).claimed _ _

/-- A start chain dropped leaves nothing that the stop chain would not replace. -/
theorem Slows.ofDropped {c : Chain} {toCreep : Bool} {s u : State} (slows : Slows c toCreep (dropChain s) u) : Slows c toCreep s u := by
  obtain ⟨⟨run, working, reload, generator, chain, creep, target⟩, ⟨cs, port, path⟩, tracker, sequencer, servos, links, sensors, intake,
    loader, reporter, signals⟩ := slows
  exact ⟨⟨run, working, reload, generator, chain, creep, target⟩, ⟨cs, port, path⟩, tracker, sequencer, servos, links, sensors, intake,
    loader, reporter, signals⟩

theorem slows_stopFromAccel (c : Chain) (toCreep : Bool) (s : State) : Slows c toCreep s (stopFromAccel c toCreep s) := by
  have begun := slows_beginStop c toCreep (dropChain s)
  unfold stopFromAccel
  dsimp only
  split
  · exact begun.ofDropped
  · exact (begun.claimed _ _).ofDropped

/-- The waiting start request cancelled, as every stop request does (R74). -/
def waitCancelled (s : State) : State := s.onGenerator fun g => { g with waiting := none }

/-- A stop request in ACCEL or CRUISE begins its stop chain (R75). -/
theorem stopRequest_slows {s : State} (c : Chain) (moving : s.generator.mode = .accel ∨ s.generator.mode = .cruise) :
    Slows c false (waitCancelled s) (stopRequest c s) := by
  unfold stopRequest
  dsimp only
  obtain mode | mode := moving <;> rw [mode]
  · exact slows_stopFromAccel c false (waitCancelled s)
  · exact slows_stopFromCruise c false (waitCancelled s)

/-! ### The motion stops (R28) -/

theorem setTransport_sensors {t : Transport} {p : Option Phase} {s : State} (threaded : t ≠ .unthreaded ∧ t ≠ .faulted)
    (sound : s.sequencer.transport ≠ .faulted) : (setTransport t p s).sensors = s.sensors := by
  unfold setTransport
  dsimp only
  rw [if_neg (by rintro (e | e); exact threaded.1 e; exact threaded.2 e)]
  unfold endLossWatch
  rw [if_neg (by simpa using sound)]
  simp [followRefresh]

/-- A motion in a chain of its own has begun to stop. -/
structure MotionStops (p : Purpose) (s u : State) : Prop where
  sequencer : u.sequencer = sequencerIn .stopping none s.sequencer
  generator : ∃ run working reload, u.generator =
    { s.generator with mode := .decel, run := some run, working := working, reload := reload, waiting := none } ∧
    run.chain = p.stopChain ∧ run.toCreep = false
  path : ∃ claims port, u.path = { s.path with claims := claims, port := port }
  tracker : u.tracker = s.tracker
  servos : u.servos = s.servos
  links : u.links = s.links
  sensors : u.sensors = s.sensors
  intake : u.intake = s.intake
  loader : u.loader = s.loader
  pending : u.reporter.pendingClasses = s.reporter.pendingClasses
  signals : u.signals = s.signals

theorem underway_ne_faulted {t : Transport} (underway : t.underway = true) : t ≠ .faulted := by
  rintro rfl
  cases underway

theorem stopMotion_stops {s : State} {p : Purpose} (underway : s.sequencer.transport.underway = true)
    (purpose : s.sequencer.purpose = some p) (moving : s.generator.mode = .accel ∨ s.generator.mode = .cruise)
    (drive : s.servos.driveMode = .follow) : MotionStops p s (stopMotion s) := by
  have stops : stopMotion s = stopRequest p.stopChain (setTransport .stopping none s) := by
    unfold stopMotion
    rw [if_pos underway, purpose]
  have generator : (setTransport .stopping none s).generator = s.generator := by simp
  have slows := stopRequest_slows (s := setTransport .stopping none s) p.stopChain (by rw [generator]; exact moving)
  rw [stops]
  obtain ⟨⟨run, working, reload, generatorU, chain, creep, -⟩, ⟨cs, port, path⟩, tracker, sequencer, servos, links, sensors, intake, loader,
    reporter, signals⟩ := slows
  refine ⟨sequencer.trans (setTransport_sequencer _ _ _), ⟨run, working, reload, ?_, chain, creep⟩, ⟨cs, port, ?_⟩, ?_, ?_, ?_, ?_, ?_, ?_, ?_, ?_⟩
  · rw [generatorU]
    unfold waitCancelled
    rw [onGenerator_generator, generator]
  · rw [path]
    simp [waitCancelled]
  · rw [tracker]
    simp [waitCancelled]
  · exact servos.trans (setTransport_servos (by rw [drive]; rfl))
  · rw [links]
    simp [waitCancelled]
  · exact sensors.trans (setTransport_sensors (by decide) (underway_ne_faulted underway))
  · rw [intake]
    simp [waitCancelled]
  · rw [loader]
    simp [waitCancelled]
  · rw [reporter]
    exact setTransport_pending _ _ _
  · rw [signals]
    simp [waitCancelled]

/-- While an order runs none is handed over (R150). -/
theorem handOverDue_of_running {s : State} (runs : s.intake.running.isSome = true) : handOverDue s = none := by
  unfold handOverDue
  simp [runs]

/-- A motion that has begun to stop brings nothing more about where no decision point and no EOT limit is met. -/
theorem quiet_motionStops {p : Purpose} {s u : State} (stops : MotionStops p s u) (signals : s.signals = [])
    (settled : s.generator.loadSet = none) (runs : s.intake.running.isSome = true)
    (decision : s.sequencer.dir = some .forward → ∀ i d rest, s.sequencer.decisions = (i, d) :: rest → s.servos.t < d)
    (eot : s.sequencer.dir = some .forward → p = .read ∨ p = .space → s.sequencer.purpose = some p → s.sequencer.fixed = none →
      s.runningOrder = some .readFwd ∨ s.runningOrder = some .spaceFwd → s.sequencer.held = false → s.beyondEot = false)
    (purpose : s.sequencer.purpose = some p) : Quiet u := by
  obtain ⟨run, working, reload, generator, -⟩ := stops.generator
  have sequencer := stops.sequencer
  refine quiet_iff_nothingDue.mpr ⟨stops.signals.trans signals, nothingDue_of_stopping ?transport ?decision ?eot ?phase,
    settlementDue_of_none (by rw [generator]; exact settled), ?handOver⟩
  case transport => rw [sequencer]; rfl
  case phase => exact .inl (by rw [sequencer]; simp [sequencerIn])
  case decision =>
    rw [sequencer, stops.servos]
    intro i d rest listed dir _
    exact decision dir i d rest listed
  case eot =>
    rw [order_congr stops.intake, sequencer]
    intro order held dir reads free
    have purposes : p = .read ∨ p = .space := by
      simp only [sequencerIn, Transport.moves, if_true, purpose, Option.some.injEq] at reads
      exact reads
    have short := eot dir purposes purpose free order held
    unfold State.beyondEot State.tapePos State.groupB at short ⊢
    rw [sequencer, stops.servos, stops.loader]
    exact short
  case handOver => exact handOverDue_of_running (by rw [stops.intake]; exact runs)

end Sys2Proof.Machine
end

section
/-! Encoder counts (R79, R80, R105, R106, R132 to R134). -/

namespace Sys2Proof.Machine

/-! ### T at a count (R79, R80) -/

/-- Outside a seek and a rewind a qualification rebases nothing. -/
theorem botQualified_tape {d : Direction} {s : State} (away : s.seeking = false) (noStep : s.rewindStep = none) :
    (botQualified d s).servos.t = s.servos.t := by
  have waits (l : SeekLeg) : seekWaits l s = false := by simp [seekWaits, away]
  unfold botQualified
  rw [waits, waits, noStep]
  split
  · split
    · simp
    · rfl
  · split <;> rfl

@[simp] theorem checkSeekLimit_tape (s : State) : (checkSeekLimit s).servos.t = s.servos.t := by
  unfold checkSeekLimit
  dsimp only
  split
  · split <;> simp
  · rfl

theorem countMarker_eot_tape (d : Direction) (s : State) : (countMarker .eot d s).servos.t = s.servos.t := by
  unfold countMarker markerQualified
  dsimp only
  split <;> simp

theorem countMarker_bot_tape {d : Direction} {s : State}
    (stays : (s.generator.dir.isSome = true → qualifiesNow d s.loader.groupB.mq s.sensors.bot = false) ∨
      (s.seeking = false ∧ s.rewindStep = none)) : (countMarker .bot d s).servos.t = s.servos.t := by
  unfold countMarker markerQualified
  dsimp only
  split
  · next qualifies =>
    obtain none | ⟨away, noStep⟩ := stays
    · simp only [Bool.and_eq_true] at qualifies
      exact absurd (none qualifies.1) (by rw [show qualifiesNow d s.loader.groupB.mq s.sensors.bot = true from qualifies.2]; decide)
    · have sequencer (x : State) : (markStatus (x.onSensors fun n => n.setMarker .bot
          (markerCount d s.generator.dir.isSome s.groupB.mq (s.sensors.marker .bot)))).sequencer = x.sequencer := by simp
      rw [botQualified_tape]
      · simp
      · rw [← away]
        unfold State.seeking
        rw [sequencer]
      · rw [← noStep]
        unfold State.rewindStep
        rw [sequencer]
  · simp

/-- The seek travel count alone moves (R134). -/
theorem countSeek_sequencer (s : State) : ∃ n, countSeek s = s.onSequencer fun q => { q with seekTravel := n } := by
  unfold countSeek
  split
  · exact ⟨min (s.sequencer.seekTravel + 1) Config.seekCountCap, rfl⟩
  · exact ⟨s.sequencer.seekTravel, rfl⟩

theorem encoderCount_tape {d : Direction} {s : State}
    (stays : (s.generator.dir.isSome = true → qualifiesNow d s.loader.groupB.mq s.sensors.bot = false) ∨
      (s.seeking = false ∧ s.rewindStep = none)) : (encoderCount d s).servos.t = s.servos.t + stepOf d := by
  obtain ⟨n, travelled⟩ := countSeek_sequencer (countStep d s)
  unfold encoderCount
  rw [finishEvent_tape, checkSeekLimit_tape, countMarker_eot_tape, travelled, countMarker_bot_tape]
  · rfl
  · exact stays

/-! ### Counts without a qualification -/

/-- The state after a count that qualifies no marker, outside a seek. -/
def counted (d : Direction) (s : State) : State :=
  (countStep d s).onSensors fun n =>
    { n with bot := markerCount d s.generator.dir.isSome s.loader.groupB.mq n.bot
             eot := markerCount d s.generator.dir.isSome s.loader.groupB.mq n.eot }

theorem countSeek_away {s : State} (away : s.seeking = false) : countSeek s = s := by
  unfold countSeek
  rw [away]
  rfl

theorem checkSeekLimit_away {s : State} (away : s.seeking = false) : checkSeekLimit s = s := by
  unfold checkSeekLimit seekTooFar
  rw [away]
  rfl

theorem countMarker_plain {m : Marker} {d : Direction} {s : State}
    (plain : s.generator.dir.isSome = true → qualifiesNow d s.loader.groupB.mq (s.sensors.marker m) = false) :
    countMarker m d s = s.onSensors fun n => n.setMarker m (markerCount d s.generator.dir.isSome s.loader.groupB.mq (n.marker m)) := by
  unfold countMarker
  dsimp only
  rw [if_neg]
  · rfl
  · intro qualifies
    simp only [Bool.and_eq_true] at qualifies
    exact absurd (plain qualifies.1) (by rw [show qualifiesNow d s.loader.groupB.mq (s.sensors.marker m) = true from qualifies.2]; decide)

theorem encoderCount_plain {d : Direction} {s : State} (away : s.seeking = false)
    (bot : s.generator.dir.isSome = true → qualifiesNow d s.loader.groupB.mq s.sensors.bot = false)
    (eot : s.generator.dir.isSome = true → qualifiesNow d s.loader.groupB.mq s.sensors.eot = false) :
    encoderCount d s = finishEvent (counted d s) := by
  have counts : countMarker .eot d (countMarker .bot d (countSeek (countStep d s))) = counted d s := by
    rw [countSeek_away (s := countStep d s) away, countMarker_plain (m := .bot) (s := countStep d s) bot, countMarker_plain (m := .eot)]
    · rfl
    · exact eot
  unfold encoderCount
  rw [counts, checkSeekLimit_away (s := counted d s) away]

theorem quiet_counted {d : Direction} {s : State} (quiet : Quiet (countStep d s)) : Quiet (counted d s) :=
  quiet_of_path quiet rfl rfl rfl rfl rfl rfl rfl

/-- Settles O14. -/
theorem encoderCountMovesTheTape : Obligations.EncoderCountMovesTheTape := by
  constructor
  · intro d s stays
    refine ⟨_, rfl, (encoderCount_tape stays).trans ?_⟩
    cases d <;> rfl
  · intro d s away plain quiet
    have count : exec (.encoderCount d) s = .next (arbitrate (counted d s)) := by
      refine congrArg Host.Outcome.next ?_
      rw [encoderCount_plain away (fun driven => (plain driven).1) (fun driven => (plain driven).2), finishEvent_of_quiet (quiet_counted quiet)]
    refine ⟨_, count, ?_⟩
    simp only [arbitrate_keeps]
    refine ⟨?_, rfl, rfl, rfl, rfl, rfl, rfl, rfl, rfl⟩
    cases d <;> rfl

end Sys2Proof.Machine
end

section
/-! Marker qualifications and the limit of a seek (R50, R106, R132 to R134). -/

namespace Sys2Proof.Machine

/-! ### A qualification (R105, R106) -/

theorem countMarker_qualifies {m : Marker} {d : Direction} {s : State} (driven : s.generator.dir.isSome = true)
    (qualifies : qualifiesNow d s.loader.groupB.mq (s.sensors.marker m) = true) :
    countMarker m d s = markerQualified m d (s.onSensors fun n =>
      n.setMarker m (markerCount d s.generator.dir.isSome s.loader.groupB.mq (n.marker m))) := by
  unfold countMarker
  dsimp only
  rw [if_pos (by rw [driven, show qualifiesNow d s.groupB.mq (s.sensors.marker m) = true from qualifies]; rfl)]
  rfl

theorem markerCount_qualified {d : Direction} {mq : Nat} {m : MarkerRecord} (qualifies : qualifiesNow d mq m = true) :
    (markerCount d true mq m).state = .qualified := by
  have counting : m.state = .counting := by
    unfold qualifiesNow at qualifies
    simp only [Bool.and_eq_true, decide_eq_true_eq] at qualifies
    exact qualifies.1
  unfold markerCount
  rw [if_pos (by simp [counting]), qualifies]
  rfl

theorem exec_markerQualifies {m : Marker} {d : Direction} {s : State} (driven : s.generator.dir.isSome = true)
    (qualifies : qualifiesNow d s.loader.groupB.mq (s.sensors.marker m) = true) :
    exec (.markerQualifies m d) s = .next (encoderCount d s) := by
  refine congrArg Host.Outcome.next (doIf_true ?_ _ _)
  rw [driven, show qualifiesNow d s.groupB.mq (s.sensors.marker m) = true from qualifies, Bool.and_self]

/-! ### EOT (R50) -/

/-- A count at which EOT alone qualifies, outside a seek. -/
theorem encoderCount_eot {d : Direction} {s : State} (away : s.seeking = false) (driven : s.generator.dir.isSome = true)
    (bot : qualifiesNow d s.loader.groupB.mq s.sensors.bot = false) (eot : qualifiesNow d s.loader.groupB.mq s.sensors.eot = true) :
    encoderCount d s = finishEvent (checkSeekLimit (eotQualified d (markStatus (counted d s)))) := by
  have counts : countMarker .eot d (countMarker .bot d (countSeek (countStep d s))) = eotQualified d (markStatus (counted d s)) := by
    rw [countSeek_away (s := countStep d s) away, countMarker_plain (m := .bot) (s := countStep d s) fun _ => bot,
      countMarker_qualifies (m := .eot) (by exact driven) (by exact eot)]
    rfl
  unfold encoderCount
  rw [counts]

/-- EOT's forward qualification sets the coordinate (R50). -/
def eotSet (s : State) : State := s.onSequencer fun q => { q with eot := some s.servos.t }

theorem eotQualified_sets {s : State} (absent : s.sequencer.eot = none) :
    eotQualified .forward s = raise { name := .eotPassed } (eotSet s) :=
  if_pos ⟨rfl, absent⟩

theorem nothingDue_eotSet {s : State} (nothing : NothingDue s) : NothingDue (eotSet s) := by
  have within : (eotSet s).beyondEot = false := by
    have ahead : ¬(s.servos.t + (s.loader.groupB.eotOverrun : Nat) < s.servos.t) := by omega
    exact decide_eq_false ahead
  exact { nothing with eot := fun _ _ _ _ _ _ => within }

theorem eotQualified_stays {d : Direction} {s : State} (kept : d = .backward ∨ s.sequencer.eot.isSome = true) :
    eotQualified d s = s := by
  refine if_neg ?_
  rintro ⟨rfl, absent⟩
  obtain backward | present := kept
  · cases backward
  · rw [absent] at present
    cases present

/-! ### Events in a seek -/

/-- What a settlement that may have begun leaves. -/
structure MaySettle (s u : State) : Prop where
  tracker : u.tracker = s.tracker
  servos : u.servos = s.servos
  links : u.links = s.links
  sensors : u.sensors = s.sensors
  intake : u.intake = s.intake
  loader : u.loader = s.loader
  sequencer : ∃ l, u.sequencer = { s.sequencer with loadStage := l }
  generator : ∃ a c l, u.generator = { s.generator with active := a, charact := c, loadSet := l }
  sweep : u.path.sweep = s.path.sweep
  classes : ∀ c : Nat, s.reporter.pendingClasses.getLsbD c = true → u.reporter.pendingClasses.getLsbD c = true
  ports : u.path.upper = s.path.upper ∧ u.path.answers = s.path.answers ∧ u.path.descriptors = s.path.descriptors

theorem MaySettle.refl (s : State) : MaySettle s s :=
  ⟨rfl, rfl, rfl, rfl, rfl, rfl, ⟨s.sequencer.loadStage, rfl⟩, ⟨s.generator.active, s.generator.charact, s.generator.loadSet, rfl⟩, rfl,
    fun _ => id, rfl, rfl, rfl⟩

theorem Settles.maySettle {s u : State} (settles : Settles s u) : MaySettle s u := by
  obtain ⟨tracker, servos, links, sensors, intake, loader, -, -, sequencer, ⟨a, c, generator⟩, ⟨cs, path⟩, classes⟩ := settles
  exact ⟨tracker, servos, links, sensors, intake, loader, sequencer, ⟨a, c, none, generator⟩, by rw [path], classes, by rw [path]; exact ⟨rfl, rfl, rfl⟩⟩

theorem takeWaiting_of_none {s : State} (nobody : s.generator.waiting = none) : takeWaiting s = s := by
  unfold takeWaiting
  rw [nobody]

theorem takeWaiting_of_moving {s : State} (moves : s.generator.mode ≠ .hold) : takeWaiting s = s := by
  unfold takeWaiting
  split
  · next hold _ => exact absurd hold moves
  · rfl

theorem vacuumCheck_other {s : State} (other : s.sequencer.transport ≠ .loading ∨ s.sequencer.phase ≠ some .vacuum) :
    vacuumCheck s = s :=
  if_neg fun h => other.elim (fun away => away h.1) fun away => away h.2.1

/-- Where nothing else is due an event can only let a LOAD's settlement begin. -/
theorem react_settling {s : State} (signals : s.signals = []) (noPosition : positionEvent s = none) (noHandOver : handOverDue s = none)
    (away : s.sequencer.transport ≠ .loading ∨ s.sequencer.phase ≠ some .vacuum)
    (nobody : s.generator.waiting = none ∨ s.generator.mode ≠ .hold)
    (still : ∀ u, Settles s u → positionEvent u = none) :
    ∃ u, (∀ n, react (n + 2) s = u) ∧ Quiet u ∧ MaySettle s u := by
  cases due : settlementDue s with
  | none =>
    have quiet : Quiet s := quiet_iff.mpr ⟨signals, noPosition, due, noHandOver⟩
    exact ⟨s, fun n => react_of_quiet _ quiet, quiet, .refl s⟩
  | some u =>
    have settles := settlementDue_settles due
    obtain ⟨l, sequencer⟩ := settles.sequencer
    obtain ⟨a, c, generator⟩ := settles.generator
    obtain ⟨cs, path⟩ := settles.path
    have taken : takeWaiting u = u := by
      obtain none | moves := nobody
      · exact takeWaiting_of_none (by rw [generator]; exact none)
      · exact takeWaiting_of_moving (by rw [generator]; exact moves)
    have once : reactOnce s = some u := by
      unfold reactOnce
      rw [signals]
      show (positionEvent s <|> settlementEvent s <|> handOverEvent s) = some u
      rw [noPosition, settlementEvent, due, Option.map_some, taken, vacuumCheck_other (by rw [sequencer]; exact away)]
      rfl
    have quiet : Quiet u := quiet_iff.mpr ⟨settles.signals.trans signals, still u settles,
      settlementDue_of_none (by rw [generator]), handOverDue_none_of noHandOver settles.intake (by rw [path])⟩
    exact ⟨u, fun n => by rw [react_succ _ once, react_of_quiet _ quiet], quiet, settles.maySettle⟩

/-- In LOADING past VACUUM, with no start request waiting, an event can only let a LOAD's settlement begin. -/
theorem finishEvent_loading {s : State} (signals : s.signals = []) (loading : s.sequencer.transport = .loading)
    (phase : s.sequencer.phase = some .seek) (nobody : s.generator.waiting = none) (noHandOver : handOverDue s = none) :
    ∃ u, finishEvent s = arbitrate u ∧ MaySettle s u := by
  obtain ⟨u, ends, -, settles⟩ := react_settling signals (positionEvent_of_still (.inr (.inr (.inr loading))) (by simp [phase])) noHandOver
    (.inr (by simp [phase])) (.inl nobody) fun u settles => by
      obtain ⟨l, sequencer⟩ := settles.sequencer
      exact positionEvent_of_still (.inr (.inr (.inr (by rw [sequencer]; exact loading)))) (by rw [sequencer]; simp [phase])
  exact ⟨u, congrArg arbitrate (ends 62), settles⟩

theorem seeking_iff {s : State} : s.seeking = true ↔ s.sequencer.transport = .loading ∧ s.sequencer.phase = some .seek := by
  unfold State.seeking
  simp

/-- The travel count one further (R134). -/
def travelled (s : State) : State :=
  s.onSequencer fun q => { q with seekTravel := min (q.seekTravel + 1) Config.seekCountCap }

theorem countSeek_seeking {s : State} (seeking : s.seeking = true) : countSeek s = travelled s := if_pos seeking

/-! ### BOT in the final creep (R132) -/

theorem botQualified_finalCreep {s : State} (seeking : s.seeking = true) (leg : s.sequencer.seekLeg = some .finalCreep)
    (fresh : s.sequencer.legMarked = false) (free : s.sequencer.fixed = none) :
    botQualified .forward s = stopRequest .creepStop (rebase (s.onSequencer fun q => { q with legMarked := true })) := by
  obtain ⟨loading, -⟩ := seeking_iff.mp seeking
  have waits : seekWaits .finalCreep s = true := by simp [seekWaits, seeking, leg, fresh, free]
  unfold botQualified
  rw [if_neg (by rw [loading]; decide), if_pos rfl, if_pos waits]
  rfl

/-- BOT's count, rebase and stop in the final creep. -/
def creepMarked (s : State) : State :=
  stopRequest .creepStop (rebase ((markStatus ((travelled (countStep .forward s)).onSensors fun n =>
    { n with bot := markerCount .forward s.generator.dir.isSome s.loader.groupB.mq n.bot })).onSequencer fun q =>
      { q with legMarked := true }))

theorem countMarker_creepMarked {s : State} (seeking : s.seeking = true) (leg : s.sequencer.seekLeg = some .finalCreep)
    (fresh : s.sequencer.legMarked = false) (free : s.sequencer.fixed = none) (driven : s.generator.dir.isSome = true)
    (bot : qualifiesNow .forward s.loader.groupB.mq s.sensors.bot = true) :
    countMarker .bot .forward (countSeek (countStep .forward s)) = creepMarked s := by
  rw [countSeek_seeking (s := countStep .forward s) seeking,
    countMarker_qualifies (m := .bot) (s := travelled (countStep .forward s)) driven bot]
  exact botQualified_finalCreep seeking leg fresh free

/-- What the final creep's marker count leaves. -/
structure CreepMarked (s u : State) : Prop where
  sequencer : ∃ n, u.sequencer =
    { s.sequencer with seekTravel := n, legMarked := true, eot := s.sequencer.eot.map fun c => c - (s.servos.t + 1) }
  mode : u.generator.mode = .decel
  p : u.generator.p = s.generator.p - 256 * (s.servos.t + 1)
  waiting : u.generator.waiting = none
  dir : u.generator.dir = s.generator.dir
  tape : u.servos.t = 0
  sensors : u.sensors = { s.sensors with bot := markerCount .forward s.generator.dir.isSome s.loader.groupB.mq s.sensors.bot }
  tracker : u.tracker = s.tracker
  links : u.links = s.links
  intake : u.intake = s.intake
  loader : u.loader = s.loader
  signals : u.signals = s.signals
  sweep : u.path.sweep = s.path.sweep

theorem rebase_moved (s : State) :
    (rebase s).sequencer = { s.sequencer with eot := s.sequencer.eot.map fun c => c - s.servos.t } ∧
    (rebase s).generator = { s.generator with p := s.generator.p - 256 * s.servos.t } ∧ (rebase s).servos.t = 0 := by
  unfold rebase
  simp

theorem creepMarked_spec {s : State} (cruise : s.generator.mode = .cruise) : CreepMarked s (creepMarked s) := by
  unfold creepMarked
  let +generalize (eq := isY) y := (markStatus ((travelled (countStep .forward s)).onSensors fun n =>
    { n with bot := markerCount .forward s.generator.dir.isSome s.loader.groupB.mq n.bot })).onSequencer fun q =>
      { q with legMarked := true }
  have sequencerY : ∃ n, y.sequencer = { s.sequencer with seekTravel := n, legMarked := true } := by
    rw [isY]
    simp only [onSequencer_sequencer, markStatus_keeps, onSensors_sequencer]
    exact ⟨_, rfl⟩
  have deckY : y.generator = s.generator ∧ y.servos.t = s.servos.t + 1 ∧ y.tracker = s.tracker ∧ y.links = s.links ∧
      y.intake = s.intake ∧ y.loader = s.loader ∧ y.signals = s.signals ∧ y.path = s.path ∧
      y.sensors = { s.sensors with bot := markerCount .forward s.generator.dir.isSome s.loader.groupB.mq s.sensors.bot } := by
    rw [isY]
    simp [travelled, countStep, stepOf]
  obtain ⟨generatorY, tapeY, trackerY, linksY, intakeY, loaderY, signalsY, pathY, sensorsY⟩ := deckY
  obtain ⟨n, sequencerY⟩ := sequencerY
  obtain ⟨sequencerR, generatorR, tapeR⟩ := rebase_moved y
  have slows := stopRequest_slows (s := rebase y) .creepStop (.inr (by rw [generatorR, generatorY]; exact cruise))
  obtain ⟨⟨run, working, reload, generator, -⟩, ⟨cs, port, path⟩, tracker, sequencer, servos, links, sensors, intake, loader, -, signals⟩ := slows
  have generatorU : (stopRequest .creepStop (rebase y)).generator =
      { s.generator with p := s.generator.p - 256 * (s.servos.t + 1), mode := .decel, run := some run, working := working, reload := reload,
                         waiting := none } := by
    rw [generator, waitCancelled, onGenerator_generator, generatorR, generatorY, tapeY]
  constructor
  case sequencer => exact ⟨n, by rw [sequencer, waitCancelled, onGenerator_sequencer, sequencerR, sequencerY, tapeY]⟩
  case tape => rw [servos, waitCancelled, onGenerator_servos, tapeR]
  case sensors => rw [sensors, ← sensorsY]; simp [waitCancelled]
  case tracker => rw [tracker, ← trackerY]; simp [waitCancelled]
  case links => rw [links, ← linksY]; simp [waitCancelled]
  case intake => rw [intake, ← intakeY]; simp [waitCancelled]
  case loader => rw [loader, ← loaderY]; simp [waitCancelled]
  case signals => rw [signals, ← signalsY]; simp [waitCancelled]
  case sweep => rw [path, ← pathY]; simp [waitCancelled]
  all_goals rw [generatorU]

/-- The limit is not tested once the final creep has its marker. -/
theorem checkSeekLimit_marked {s : State} (leg : s.sequencer.seekLeg = some .finalCreep) (marked : s.sequencer.legMarked = true) :
    checkSeekLimit s = s := by
  unfold checkSeekLimit seekTooFar
  rw [if_neg (by simp [leg, marked])]

theorem markStatus_pending (s : State) : (markStatus s).reporter.pendingClasses = s.reporter.pendingClasses := by
  simp [markStatus]

/-- Settles O15. -/
theorem markerQualificationsAct : Obligations.MarkerQualificationsAct := by
  refine ⟨?eotSets, ?eotStays, ?bot⟩
  case eotSets =>
    intro s away driven bot eot absent quiet
    have quiet' : Quiet (markStatus (counted .forward s)) :=
      quiet_of_path (quiet_counted quiet) (by simp) (by simp) (by simp) (by simp) (by simp) (by simp) (by simp)
    obtain ⟨noSignal, nothing, noSettlement, noHandOver⟩ := quiet_iff_nothingDue.mp quiet'
    have sequencer : (markStatus (counted .forward s)).sequencer = s.sequencer := by simp [counted]
    have sets := eotQualified_sets (s := markStatus (counted .forward s)) (by rw [sequencer]; exact absent)
    let +generalize (eq := isY) y := eotSet (markStatus (counted .forward s))
    have quietY : Quiet y := quiet_iff_nothingDue.mpr ⟨noSignal, nothingDue_eotSet nothing,
      settlementDue_congr (a := markStatus (counted .forward s)) rfl rfl rfl noSettlement, noHandOver⟩
    have quietAfter : Quiet (raise { name := .eotPassed } y) :=
      quiet_of_path quietY (by simp) (by simp) (by simp) (by simp) (by simp) (by simp) (by simp)
    have awayAfter : (raise { name := .eotPassed } y).seeking = false := by
      rw [← away]
      unfold State.seeking
      simp [isY, eotSet, counted]
    have count := encoderCount_eot away driven bot eot
    rw [sets, checkSeekLimit_away awayAfter, finishEvent_of_quiet quietAfter] at count
    refine ⟨_, (exec_markerQualifies (m := .eot) driven eot).trans (congrArg Host.Outcome.next count), congrArg Host.Outcome.next count, ?_⟩
    simp only [arbitrate_keeps, raise_keeps, raise_pending]
    have qualified := markerCount_qualified eot
    simp only [isY, eotSet, onSequencer_sequencer, onSequencer_servos, onSequencer_sensors, onSequencer_reporter, onSequencer_tracker,
      onSequencer_generator, onSequencer_links, onSequencer_intake, onSequencer_loader, markStatus_keeps, markStatus_pending]
    simp only [counted, driven]
    exact ⟨rfl, rfl, qualified, rfl, rfl, rfl, rfl, rfl, rfl⟩
  case eotStays =>
    intro d s away driven bot eot kept quiet
    have quiet' : Quiet (markStatus (counted d s)) :=
      quiet_of_path (quiet_counted quiet) (by simp) (by simp) (by simp) (by simp) (by simp) (by simp) (by simp)
    have sequencer : (markStatus (counted d s)).sequencer = s.sequencer := by simp [counted]
    have awayAfter : (markStatus (counted d s)).seeking = false := by
      rw [← away]
      unfold State.seeking
      rw [sequencer]
    have count := encoderCount_eot away driven bot eot
    rw [eotQualified_stays (by rw [sequencer]; exact kept), checkSeekLimit_away awayAfter, finishEvent_of_quiet quiet'] at count
    refine ⟨_, (exec_markerQualifies (m := .eot) driven eot).trans (congrArg Host.Outcome.next count), ?_⟩
    have qualified := markerCount_qualified eot
    simp only [arbitrate_keeps, markStatus_keeps, markStatus_pending]
    simp only [counted, driven]
    exact ⟨rfl, qualified, rfl, rfl, rfl, rfl, rfl, rfl⟩
  case bot =>
    intro s seeking leg fresh free within cruise driven bot eot signals noHandOver
    obtain ⟨loading, phase⟩ := seeking_iff.mp seeking
    have marked := creepMarked_spec cruise
    obtain ⟨n, sequencer⟩ := marked.sequencer
    have eotCount : countMarker .eot .forward (creepMarked s) = (creepMarked s).onSensors fun x =>
        x.setMarker .eot (markerCount .forward s.generator.dir.isSome s.loader.groupB.mq (x.marker .eot)) := by
      rw [countMarker_plain, marked.dir, marked.loader]
      intro _
      rw [marked.loader, marked.sensors]
      exact eot
    let +generalize (eq := isU) u := (creepMarked s).onSensors fun x =>
        x.setMarker .eot (markerCount .forward s.generator.dir.isSome s.loader.groupB.mq (x.marker .eot))
    rw [← isU] at eotCount
    obtain ⟨v, ended, settles⟩ := finishEvent_loading (s := u) (by rw [isU, onSensors_signals, marked.signals, signals])
      (by rw [isU, onSensors_sequencer, sequencer]; exact loading) (by rw [isU, onSensors_sequencer, sequencer]; exact phase)
      (by rw [isU, onSensors_generator, marked.waiting])
      (handOverDue_none_of noHandOver (by rw [isU, onSensors_intake, marked.intake]) (by rw [isU, onSensors_path, marked.sweep]))
    have count : encoderCount .forward s = arbitrate v := by
      unfold encoderCount
      rw [countMarker_creepMarked seeking leg fresh free driven bot, eotCount,
        checkSeekLimit_marked (by rw [isU, onSensors_sequencer, sequencer]; exact leg) (by rw [isU, onSensors_sequencer, sequencer]), ended]
    refine ⟨_, (exec_markerQualifies (m := .bot) driven bot).trans (congrArg Host.Outcome.next count), congrArg Host.Outcome.next count, ?_⟩
    obtain ⟨l, sequencerV⟩ := settles.sequencer
    obtain ⟨a, c, ls, generatorV⟩ := settles.generator
    have qualified := markerCount_qualified bot
    simp only [arbitrate_keeps, settles.servos, settles.sensors, settles.tracker, settles.links, settles.intake, settles.loader, sequencerV,
      generatorV]
    simp only [isU, onSensors_servos, onSensors_sequencer, onSensors_generator, onSensors_tracker, onSensors_links, onSensors_intake,
      onSensors_loader, onSensors_sensors, marked.tape, marked.p, marked.mode, marked.tracker, marked.links, marked.intake, marked.loader,
      marked.sensors, sequencer, driven, and_self, and_true, true_and]
    exact qualified

/-! ### The limit of a seek (R134) -/

/-- The outcome is fixed. -/
def outcomeFixed (o : Outcome) (r : Reason) (s : State) : State :=
  s.onSequencer fun q => { q with fixed := some { outcome := o, reason := r } }

/-- An open outcome fixed outside STOPPED: an EXPECTING record is given back, and the order goes on running (R35). -/
theorem fixOutcome_open {s : State} (o : Outcome) (r : Reason) (runs : s.intake.running.isSome = true) (free : s.sequencer.fixed = none)
    (away : s.sequencer.transport ≠ .stopped) : fixOutcome o r s = giveBack (outcomeFixed o r s) := by
  have transport : (giveBack (outcomeFixed o r s)).sequencer.transport = s.sequencer.transport := by simp [outcomeFixed]
  unfold fixOutcome
  rw [if_neg (by simp [runs, free, ← Option.not_isSome])]
  dsimp only
  rw [show giveBack (s.onSequencer fun q => { q with fixed := some { outcome := o, reason := r } }) = giveBack (outcomeFixed o r s) from rfl,
    if_neg (by rw [transport]; exact away)]

theorem seekLimit_lt (o : Option SeekOrigin) : seekLimit o < Config.seekCountCap := by
  unfold seekLimit
  split <;> decide

/-- A count of a seek at which no marker qualifies. -/
def seekCounted (d : Direction) (s : State) : State :=
  (travelled (countStep d s)).onSensors fun n =>
    { n with bot := markerCount d s.generator.dir.isSome s.loader.groupB.mq n.bot
             eot := markerCount d s.generator.dir.isSome s.loader.groupB.mq n.eot }

theorem countMarkers_seekCounted {d : Direction} {s : State} (seeking : s.seeking = true)
    (bot : qualifiesNow d s.loader.groupB.mq s.sensors.bot = false) (eot : qualifiesNow d s.loader.groupB.mq s.sensors.eot = false) :
    countMarker .eot d (countMarker .bot d (countSeek (countStep d s))) = seekCounted d s := by
  rw [countSeek_seeking (s := countStep d s) seeking, countMarker_plain (m := .bot) fun _ => (by exact bot),
    countMarker_plain (m := .eot) fun _ => (by exact eot)]
  rfl

theorem seekTooFar_counted {d : Direction} {s : State} (seeking : s.seeking = true) (fresh : s.sequencer.legMarked = false)
    (free : s.sequencer.fixed = none) (atLimit : s.sequencer.seekTravel = seekLimit s.sequencer.seekOrigin) :
    seekTooFar (seekCounted d s) = true := by
  have lt := seekLimit_lt s.sequencer.seekOrigin
  have past : seekLimit s.sequencer.seekOrigin < min (s.sequencer.seekTravel + 1) Config.seekCountCap := by omega
  have there : (seekCounted d s).seeking = true := seeking
  unfold seekTooFar
  rw [there]
  simp [seekCounted, travelled, countStep, free, fresh, past]

/-- Settles O16. -/
theorem seekLimitEndsTheSearch : Obligations.SeekLimitEndsTheSearch := by
  intro d s i l seeking leg fresh free running signals atLimit cruise bot eot
  obtain ⟨loading, phase⟩ := seeking_iff.mp seeking
  have lt := seekLimit_lt s.sequencer.seekOrigin
  have counts := countMarkers_seekCounted seeking bot eot
  have tooFar := seekTooFar_counted (d := d) seeking fresh free atLimit
  have runs : (seekCounted d s).intake.running.isSome = true := by
    show s.intake.running.isSome = true
    rw [running]
    rfl
  let +generalize (eq := isY) y := giveBack (outcomeFixed .failed .noLoadPoint (seekCounted d s))
  have fixes : fixOutcome .failed .noLoadPoint (seekCounted d s) = y :=
    fixOutcome_open _ _ runs free (by show s.sequencer.transport ≠ .stopped; rw [loading]; decide)
  have limit : checkSeekLimit (seekCounted d s) = stopRequest l.stopChain y := by
    unfold checkSeekLimit
    rw [if_pos tooFar, show (seekCounted d s).sequencer.seekLeg = some l from leg]
    exact congrArg (stopRequest l.stopChain) fixes
  have sequencerY : y.sequencer = { s.sequencer with
      seekTravel := min (s.sequencer.seekTravel + 1) Config.seekCountCap, fixed := some { outcome := .failed, reason := .noLoadPoint } } := by
    rw [isY, (giveBack_keeps _).1]
    rfl
  have deckY : y.generator = s.generator ∧ y.intake = s.intake ∧ y.links = s.links ∧ y.loader = s.loader ∧ y.signals = s.signals := by
    rw [isY]
    simp only [giveBack_keeps]
    exact ⟨rfl, rfl, rfl, rfl, rfl⟩
  obtain ⟨generatorY, intakeY, linksY, loaderY, signalsY⟩ := deckY
  obtain ⟨⟨run, working, reload, generator, -⟩, -, -, sequencer, -, links, -, intake, loader, -, signalsU⟩ :=
    stopRequest_slows (s := y) l.stopChain (.inr (by rw [generatorY]; exact cruise))
  have sequencerU := sequencer.trans ((onGenerator_sequencer _ _).trans sequencerY)
  have intakeU := intake.trans ((onGenerator_intake _ _).trans intakeY)
  obtain ⟨v, ended, settles⟩ := finishEvent_loading (s := stopRequest l.stopChain y)
    (signalsU.trans ((onGenerator_signals _ _).trans (signalsY.trans signals))) (by rw [sequencerU]; exact loading)
    (by rw [sequencerU]; exact phase) (by rw [generator, waitCancelled, onGenerator_generator])
    (handOverDue_of_running (by rw [intakeU, running]; rfl))
  have count : encoderCount d s = arbitrate v := by
    unfold encoderCount
    rw [counts, limit, ended]
  refine ⟨arbitrate v, congrArg Host.Outcome.next ?due, congrArg Host.Outcome.next count, ?_⟩
  case due =>
    have isDue : seekLimitDue d s = true := by
      unfold seekLimitDue
      rw [counts, tooFar]
    rw [isDue, doIf_true rfl, count]
  obtain ⟨ls, sequencerV⟩ := settles.sequencer
  obtain ⟨a, c, lset, generatorV⟩ := settles.generator
  simp only [arbitrate_keeps, sequencerV, generatorV, settles.intake, settles.links, settles.loader, sequencerU, generator, intakeU]
  refine ⟨trivial, by omega, trivial, loading, trivial, links.trans linksY, loader.trans loaderY⟩

end Sys2Proof.Machine
end

section
/-! Encoder counts of a motion, and the limits that they reach (R38, R40, R43, R47, R49, R50). -/

namespace Sys2Proof.Machine

/-! ### A count that brings one thing about -/

/-- A count at which no marker qualifies and one position condition is met. -/
theorem encoderCount_reaches {d : Direction} {s u : State} (plain : NoMarkerAt d s) (away : s.sequencer.transport ≠ .loading)
    (due : positionEvent (counted d s) = some u) (quiet : Quiet u) : exec (.encoderCount d) s = .next (arbitrate u) := by
  refine congrArg Host.Outcome.next ?_
  rw [encoderCount_plain (seeking_of_not_loading away) plain.bot plain.eot]
  refine finishEvent_of_once ?_ quiet
  unfold reactOnce
  rw [show (counted d s).signals = [] from plain.signals]
  show (positionEvent (counted d s) <|> settlementEvent (counted d s) <|> handOverEvent (counted d s)) = some u
  rw [due]
  rfl

/-! ### A motion under way -/

/-- STARTING or RUNNING in a direction with a purpose (R27, R28). -/
structure Moving (d : Direction) (p : Purpose) (s : State) : Prop where
  underway : s.sequencer.transport.underway = true
  phase : s.sequencer.phase = none
  dir : s.sequencer.dir = some d
  purpose : s.sequencer.purpose = some p

section
variable {d : Direction} {p : Purpose} {s : State}

theorem CountInMotion.moving (motion : CountInMotion d p s) : Moving d p (counted d s) :=
  ⟨motion.underway, motion.phase, motion.dir, motion.purpose⟩

theorem Moving.movingAs (motion : Moving d p s) {d' : Direction} {p' : Purpose} (other : ¬(d' = d ∧ p' = p)) :
    s.movingAs d' p' = false := by
  unfold State.movingAs
  rw [motion.underway, motion.dir, motion.purpose]
  simp only [Option.some.injEq, Bool.true_and, Bool.and_eq_false_iff, decide_eq_false_iff_not]
  exact Decidable.not_and_iff_or_not.mp fun both => other ⟨both.1.symm, both.2.symm⟩

theorem Moving.rewindStep (motion : Moving d p s) : s.rewindStep = none := by
  have underway := motion.underway
  unfold State.rewindStep
  cases transport : s.sequencer.transport <;> rw [transport] at underway <;> cases underway

theorem Moving.heldRelease_none (motion : Moving d p s)
    (off : d = .forward → ∀ r, s.sequencer.recordPoint = some r → s.holding = true → releaseCondition s = false) :
    heldRelease s = none := by
  refine heldRelease_none_iff.mpr ?_
  cases d with
  | forward => exact off rfl
  | backward =>
    intro r _ _
    simp [releaseCondition, motion.dir]

theorem Moving.decisionDue_none (motion : Moving d p s)
    (ahead : d = .forward → ∀ e ∈ s.sequencer.decisions, s.servos.t < e.2) : decisionDue s = none := by
  refine decisionDue_none_iff.mpr fun i x rest listed _ dir _ => ?_
  rw [motion.dir] at dir
  exact ahead (Option.some.inj dir) (i, x) (by rw [listed]; exact List.mem_cons_self)

theorem Moving.noShowDue_none (motion : Moving d p s) (other : p ≠ .write ∨ d ≠ .forward) : noShowDue s = none := by
  refine noShowDue_none_iff.mpr fun r _ writing => ?_
  rw [motion.movingAs (by rintro ⟨rfl, rfl⟩; simp at other)] at writing
  cases writing

theorem Moving.eraseDue_none (motion : Moving d p s) (other : p ≠ .erase ∨ d ≠ .forward) : eraseDue s = none := by
  refine eraseDue_none_iff.mpr fun r _ erasing => ?_
  rw [motion.movingAs (by rintro ⟨rfl, rfl⟩; simp at other)] at erasing
  cases erasing

theorem Moving.repositionDue_none (motion : Moving d p s) (other : p ≠ .reposition) : repositionDue s = none := by
  have away (x : Int) : ¬RepositionNear x s := by
    unfold RepositionNear
    rw [motion.movingAs (by rintro ⟨-, rfl⟩; exact other rfl), motion.movingAs (by rintro ⟨-, rfl⟩; exact other rfl)]
    simp
  exact repositionDue_none_iff.mpr ⟨fun r _ _ => away _, fun q _ => away q⟩

theorem Moving.readingUnderway (motion : Moving d p s) (other : p ≠ .read ∧ p ≠ .space) : s.readingUnderway = false := by
  unfold State.readingUnderway
  simp [motion.underway, motion.purpose, other]

theorem Moving.blankDue_none (motion : Moving d p s)
    (within : p = .read ∨ p = .space → ∀ b, s.sequencer.blankRef = some b → (s.servos.t - b).natAbs ≤ s.loader.groupB.blankLimit) :
    blankDue s = none := by
  refine blankDue_none_iff.mpr fun b ref reading _ => within ?_ b ref
  refine Decidable.byContradiction fun other => ?_
  rw [motion.readingUnderway (not_or.mp other)] at reading
  cases reading

theorem Moving.botDue_none (motion : Moving d p s) (forward : d = .forward) : botDue s = none := by
  refine botDue_none_iff.mpr fun _ dir => ?_
  rw [motion.dir, forward] at dir
  cases dir

theorem Moving.eotDue_none (motion : Moving d p s) (other : (p ≠ .read ∧ p ≠ .space) ∨ d ≠ .forward) : eotDue s = none := by
  refine eotDue_none_iff.mpr fun _ _ _ dir reads _ => ?_
  rw [motion.dir] at dir
  rw [motion.purpose] at reads
  simp_all

/-- No rewind and no leader is under way in a motion of an order. -/
theorem Moving.loadPoint_none (motion : Moving d p s) : rewindNear s = none ∧ rewindLimit s = none ∧ leaderDue s = none := by
  refine ⟨rewindNear_none_iff.mpr ?_, rewindLimit_none_iff.mpr ?_, leaderDue_none_iff.mpr ?_⟩
  · rw [motion.rewindStep]
    simp
  · rw [motion.rewindStep]
    simp
  · rw [motion.phase]
    simp

end

/-! ### The stop at a count (R28) -/

/-- What a count of the motion of an order needs unchanged up to the stop. -/
structure SameMotion (x y : State) : Prop where
  transport : y.sequencer.transport = x.sequencer.transport
  dir : y.sequencer.dir = x.sequencer.dir
  purpose : y.sequencer.purpose = x.sequencer.purpose
  generator : y.generator = x.generator
  servos : y.servos = x.servos
  sensors : y.sensors = x.sensors
  links : y.links = x.links
  loader : y.loader = x.loader
  intake : y.intake = x.intake
  signals : y.signals = x.signals

theorem SameMotion.refl (x : State) : SameMotion x x := ⟨rfl, rfl, rfl, rfl, rfl, rfl, rfl, rfl, rfl, rfl⟩

theorem SameMotion.trans {x y z : State} (a : SameMotion x y) (b : SameMotion y z) : SameMotion x z :=
  ⟨b.transport.trans a.transport, b.dir.trans a.dir, b.purpose.trans a.purpose, b.generator.trans a.generator, b.servos.trans a.servos,
    b.sensors.trans a.sensors, b.links.trans a.links, b.loader.trans a.loader, b.intake.trans a.intake, b.signals.trans a.signals⟩

/-- The stop of a motion at a count: what it leaves, and that the event ends with it. -/
structure StopsAtCount (d : Direction) (p : Purpose) (s y : State) : Prop where
  stops : MotionStops p y (stopMotion y)
  quiet : Quiet (stopMotion y)
  counted : Counted d s (arbitrate (stopMotion y))
  begun : StopBegun s (arbitrate (stopMotion y))

theorem CountInMotion.stops {d : Direction} {p : Purpose} {s y : State} (motion : CountInMotion d p s) (same : SameMotion (counted d s) y)
    (decision : d = .forward → ∀ e ∈ y.sequencer.decisions, s.servos.t + stepOf d < e.2)
    (reads : d = .forward → p = .read ∨ p = .space → y.sequencer.fixed ≠ none) : StopsAtCount d p s y := by
  obtain ⟨transport, dir, purpose, generator, servos, sensors, links, loader, intake, signals⟩ := same
  have dirY : y.sequencer.dir = some d := dir.trans motion.dir
  have purposeY : y.sequencer.purpose = some p := purpose.trans motion.purpose
  have stops : MotionStops p y (stopMotion y) :=
    stopMotion_stops (by rw [transport]; exact motion.underway) purposeY (by rw [generator]; exact motion.mode)
      (by rw [servos]; exact motion.drive)
  have forward (is : y.sequencer.dir = some .forward) : d = .forward := Option.some.inj (dirY.symm.trans is)
  refine ⟨stops, quiet_motionStops stops (signals.trans motion.signals) (by rw [generator]; exact motion.settled)
    (by rw [intake]; exact motion.order) ?_ ?_ purposeY, ?_, ?_⟩
  · intro is i x rest listed
    rw [servos]
    exact decision (forward is) (i, x) (by rw [listed]; exact List.mem_cons_self)
  · intro is reading _ free
    exact absurd free (reads (forward is) reading)
  · obtain ⟨-, -, -, -, servosU, linksU, sensorsU, -, loaderU, -⟩ := stops
    constructor <;> simp only [arbitrate_keeps]
    · exact servosU.trans servos
    · exact sensorsU.trans sensors
    · exact linksU.trans links
    · exact loaderU.trans loader
  · obtain ⟨run, working, reload, generatorU, -⟩ := stops.generator
    constructor <;> simp only [arbitrate_keeps, stops.sequencer, generatorU]
    · rfl
    · rw [generator]
      rfl
    · exact dir
    · exact stops.intake.trans intake

/-! ### Outcomes fixed in motion (R35) -/

theorem giveBack_record (s : State) (j : Fin 16) :
    (giveBack s).record j =
      if s.tracker.receiveCursor = j ∧ (s.record s.tracker.receiveCursor).state = .expecting then BlockRecord.blank else s.record j := by
  unfold giveBack freeRecord
  dsimp only
  split
  · next expecting => simp only [setRecord_record, expecting, and_true]
  · next other => simp only [other, and_false, if_false]

theorem giveBack_nothing {s : State} (nothing : NothingExpected s) : giveBack s = s := if_neg nothing

/-- What fixing an outcome in motion leaves. -/
structure FixedInMotion (o : Outcome) (r : Reason) (s y : State) : Prop where
  sequencer : y.sequencer = { s.sequencer with fixed := some { outcome := o, reason := r } }
  same : SameMotion s y
  pending : y.reporter.pendingClasses = s.reporter.pendingClasses
  path : y.path = s.path
  given : (s.record s.tracker.receiveCursor).state = .expecting → y.record s.tracker.receiveCursor = BlockRecord.blank
  others : ∀ j : Fin 16, j ≠ s.tracker.receiveCursor → y.record j = s.record j
  nothing : NothingExpected s → y.tracker = s.tracker

theorem fixOutcome_fixes {s : State} (o : Outcome) (r : Reason) (runs : s.intake.running.isSome = true) (free : s.sequencer.fixed = none)
    (away : s.sequencer.transport ≠ .stopped) : FixedInMotion o r s (fixOutcome o r s) := by
  rw [fixOutcome_open o r runs free away]
  have sequencer : (giveBack (outcomeFixed o r s)).sequencer = { s.sequencer with fixed := some { outcome := o, reason := r } } :=
    (giveBack_keeps _).1
  constructor
  case sequencer => exact sequencer
  case same => constructor <;> simp [outcomeFixed]
  case pending => exact giveBack_pending _
  case path => simp [outcomeFixed]
  case given =>
    intro expecting
    rw [giveBack_record]
    exact if_pos ⟨rfl, expecting⟩
  case others =>
    intro j other
    rw [giveBack_record]
    exact if_neg fun h => other h.1.symm
  case nothing =>
    intro nothing
    rw [giveBack_nothing (s := outcomeFixed o r s) nothing]
    rfl

theorem underway_ne_stopped {t : Transport} (underway : t.underway = true) : t ≠ .stopped := by
  rintro rfl
  cases underway

theorem underway_ne_loading {t : Transport} (underway : t.underway = true) : t ≠ .loading := by
  rintro rfl
  cases underway

/-- An outcome fixed at a count in motion. -/
theorem CountInMotion.fixes {d : Direction} {p : Purpose} {s y : State} (motion : CountInMotion d p s) (same : SameMotion (counted d s) y)
    (free : y.sequencer.fixed = none) (o : Outcome) (r : Reason) : FixedInMotion o r y (fixOutcome o r y) :=
  fixOutcome_fixes o r (by rw [same.intake]; exact motion.order) free
    (by rw [same.transport]; exact underway_ne_stopped motion.underway)

/-- The outcome fixed and the stop begun at a count, in one. -/
theorem CountInMotion.fixAndStop {d : Direction} {p : Purpose} {s y : State} (motion : CountInMotion d p s)
    (same : SameMotion (counted d s) y) (free : y.sequencer.fixed = none) (o : Outcome) (r : Reason)
    (decision : d = .forward → ∀ e ∈ y.sequencer.decisions, s.servos.t + stepOf d < e.2) :
    FixedInMotion o r y (fixOutcome o r y) ∧ StopsAtCount d p s (fixOutcome o r y) := by
  have fixes := motion.fixes same free o r
  refine ⟨fixes, motion.stops (same.trans fixes.same) ?_ ?_⟩
  · rw [fixes.sequencer]
    exact decision
  · rw [fixes.sequencer]
    simp

section
variable {d : Direction} {p : Purpose} {s y : State} (stops : StopsAtCount d p s y)
include stops

theorem StopsAtCount.sequencer : (arbitrate (stopMotion y)).sequencer = sequencerIn .stopping none y.sequencer := by
  rw [(arbitrate_keeps _).2.1, stops.stops.sequencer]

theorem StopsAtCount.tracker : (arbitrate (stopMotion y)).tracker = y.tracker := by
  rw [(arbitrate_keeps _).1, stops.stops.tracker]

theorem StopsAtCount.record (j : Fin 16) : (arbitrate (stopMotion y)).record j = y.record j := record_congr stops.tracker j

theorem StopsAtCount.pending :
    (arbitrate (stopMotion y)).reporter.pendingClasses = y.reporter.pendingClasses := by
  simp only [arbitrate_keeps, stops.stops.pending]

end

/-! ### The BOT rule (R49) -/

/-- The load point told, and the motion stopped. -/
def loadPointStop (s : State) : State := stopMotion (raise { name := .loadPointReached } s)

theorem botRule_reads {s : State} (reads : s.sequencer.purpose = some .read ∨ s.sequencer.purpose = some .space) :
    botRule s = fixOutcome .doneLoadPoint .none (loadPointStop s) := by
  unfold botRule
  obtain read | space := reads
  · rw [read]; rfl
  · rw [space]; rfl

theorem botRule_repositions {s : State} (purpose : s.sequencer.purpose = some .reposition) : botRule s = loadPointStop s := by
  unfold botRule
  rw [purpose]
  rfl

theorem sameMotion_raise (e : Event) (s : State) : SameMotion s (raise e s) := by
  constructor <;> simp

/-- A backward motion that has begun to stop brings nothing more about, whatever outcome is fixed. -/
theorem quiet_fixed_stopping {o : Outcome} {r : Reason} {u v : State} (quiet : Quiet u) (stopping : u.sequencer.transport = .stopping)
    (backward : u.sequencer.dir = some .backward) (phase : u.sequencer.phase = none) (fixes : FixedInMotion o r u v) : Quiet v := by
  obtain ⟨noSignal, -, noSettlement, noHandOver⟩ := quiet_iff_nothingDue.mp quiet
  have dir : v.sequencer.dir ≠ some .forward := by
    rw [fixes.same.dir, backward]
    simp
  exact quiet_iff_nothingDue.mpr ⟨fixes.same.signals.trans noSignal,
    nothingDue_of_stopping (fixes.same.transport.trans stopping) (fun _ _ _ _ forward => absurd forward dir)
      (fun _ _ forward => absurd forward dir) (.inl (by rw [fixes.sequencer]; simp [phase])),
    settlementDue_congr fixes.same.generator (by rw [fixes.path]) (by rw [fixes.path]) noSettlement,
    handOverDue_none_of noHandOver fixes.same.intake (by rw [fixes.path])⟩

/-! ### The limits -/

theorem blankDue_of {d : Direction} {p : Purpose} {s : State} {b : Int} (motion : Moving d p s) (reads : p = .read ∨ p = .space)
    (ref : s.sequencer.blankRef = some b) (past : s.loader.groupB.blankLimit < (s.servos.t - b).natAbs) (free : s.sequencer.fixed = none) :
    blankDue s = some (fixAndStop .failed .blankTape s) := by
  have reading : s.readingUnderway = true := by
    unfold State.readingUnderway
    simp [motion.underway, motion.purpose, reads]
  unfold blankDue State.tapePos State.groupB
  rw [ref]
  simp [reading, past, free]

theorem botDue_of {p : Purpose} {s : State} (motion : Moving .backward p s) (past : s.servos.t ≤ 0) : botDue s = some (botRule s) := by
  unfold botDue State.tapePos
  simp [motion.underway, motion.dir, past]

theorem underway_moves {t : Transport} (underway : t.underway = true) : t.moves = true := by
  cases t <;> cases underway <;> rfl

theorem eotDue_of {p : Purpose} {s : State} (motion : Moving .forward p s) (reads : p = .read ∨ p = .space)
    (order : s.runningOrder = some .readFwd ∨ s.runningOrder = some .spaceFwd) (taken : s.sequencer.held = false)
    (past : s.beyondEot = true) (free : s.sequencer.fixed = none) : eotDue s = some (fixAndStop .failed .endOfTape s) := by
  unfold eotDue
  simp [underway_moves motion.underway, motion.dir, motion.purpose, reads, order, taken, past, free]

theorem Moving.noPoint {d : Direction} {p : Purpose} {s : State} (motion : Moving d p s)
    (idle : d = .forward → s.sequencer.recordPoint = none ∧ s.sequencer.decisions = []) : heldRelease s = none ∧ decisionDue s = none := by
  refine ⟨motion.heldRelease_none fun forward r point => ?_, motion.decisionDue_none fun forward e listed => ?_⟩
  · rw [(idle forward).1] at point
    cases point
  · rw [(idle forward).2] at listed
    cases listed

theorem reads_not {p : Purpose} (reads : p = .read ∨ p = .space) : p ≠ .write ∧ p ≠ .erase ∧ p ≠ .reposition := by
  obtain rfl | rfl := reads <;> decide

/-- A count of backward motion at or behind the load point, short of the blank limit (R49). -/
theorem positionEvent_loadPoint {p : Purpose} {s : State} (moving : Moving .backward p s) (past : s.servos.t ≤ 0)
    (within : WithinBlankLimit s.servos.t s) (far : repositionDue s = none) : positionEvent s = some (botRule s) := by
  have backward : ¬Direction.backward = .forward := by decide
  unfold positionEvent
  rw [moving.heldRelease_none fun is => absurd is backward, moving.decisionDue_none fun is => absurd is backward,
    moving.noShowDue_none (.inr (by decide)), moving.eraseDue_none (.inr (by decide)), far, moving.blankDue_none fun _ => within,
    botDue_of moving past]
  rfl

theorem loadPoint_told (s : State) : (raise { name := .loadPointReached } s).reporter.pendingClasses =
    s.reporter.pendingClasses ||| 0x40#9 := (raise_pending _ _).1

/-- The marker records have no part in a REPOSITION move's end. -/
theorem repositionDue_counted {d : Direction} {s : State} (far : repositionDue (countStep d s) = none) :
    repositionDue (counted d s) = none := by
  have near (x : Int) : RepositionNear x (counted d s) ↔ RepositionNear x (countStep d s) := by
    unfold RepositionNear State.movingAs State.distance
    exact Iff.rfl
  obtain ⟨backup, approach⟩ := repositionDue_none_iff.mp far
  refine repositionDue_none_iff.mpr ⟨fun r open_ phase => ?_, fun q aim => ?_⟩
  · rw [near]
    exact backup r open_ phase
  · rw [near]
    exact approach q aim

section
variable {p : Purpose} {s : State} (motion : CountInMotion .backward p s)
include motion

/-- The stop at the load point, with its event. -/
theorem CountInMotion.loadPointStops :
    SameMotion (counted .backward s) (raise { name := .loadPointReached } (counted .backward s)) ∧
    StopsAtCount .backward p s (raise { name := .loadPointReached } (counted .backward s)) := by
  have same := sameMotion_raise { name := .loadPointReached } (counted .backward s)
  have backward : ¬Direction.backward = .forward := by decide
  exact ⟨same, motion.stops same (fun is => absurd is backward) (fun is => absurd is backward)⟩

/-- What the stop at the load point leaves. -/
theorem CountInMotion.loadPointStop_spec :
    (loadPointStop (counted .backward s)).sequencer = sequencerIn .stopping none s.sequencer ∧
    (loadPointStop (counted .backward s)).tracker = s.tracker ∧
    (loadPointStop (counted .backward s)).intake = s.intake ∧
    (loadPointStop (counted .backward s)).reporter.pendingClasses = s.reporter.pendingClasses ||| 0x40#9 := by
  obtain ⟨same, stops⟩ := motion.loadPointStops
  have motionStops : MotionStops p _ (loadPointStop (counted .backward s)) := stops.stops
  refine ⟨?_, motionStops.tracker.trans (raise_keeps _ _).1, motionStops.intake.trans same.intake,
    motionStops.pending.trans (loadPoint_told _)⟩
  rw [motionStops.sequencer, (raise_keeps _ _).2.1]
  rfl

/-- A read or space at the load point is over (R49). -/
theorem CountInMotion.loadPointEnds (reads : p = .read ∨ p = .space) (past : s.servos.t - 1 ≤ 0)
    (within : WithinBlankLimit (s.servos.t - 1) s) :
    ∃ t, exec (.encoderCount .backward) s = .next t ∧ Counted .backward s t ∧ StopBegun s t ∧
      t.sequencer.fixed = some { outcome := .doneLoadPoint, reason := .none } ∧
      t.reporter.pendingClasses = s.reporter.pendingClasses ||| 0x40#9 ∧
      ((s.record s.tracker.receiveCursor).state = .expecting → t.record s.tracker.receiveCursor = BlockRecord.blank) ∧
      (∀ j : Fin 16, j ≠ s.tracker.receiveCursor → t.record j = s.record j) := by
  have moving := motion.moving
  have due := positionEvent_loadPoint moving past within (moving.repositionDue_none (reads_not reads).2.2)
  rw [botRule_reads (by obtain rfl | rfl := reads; exact .inl moving.purpose; exact .inr moving.purpose)] at due
  obtain ⟨-, stops⟩ := motion.loadPointStops
  obtain ⟨sequencer, tracker, intake, pending⟩ := motion.loadPointStop_spec
  have quietU : Quiet (loadPointStop (counted .backward s)) := stops.quiet
  have counts : Counted .backward s (arbitrate (loadPointStop (counted .backward s))) := stops.counted
  have begun : StopBegun s (arbitrate (loadPointStop (counted .backward s))) := stops.begun
  generalize loadPointStop (counted .backward s) = u at *
  have fixes : FixedInMotion .doneLoadPoint .none u (fixOutcome .doneLoadPoint .none u) :=
    fixOutcome_fixes .doneLoadPoint .none (by rw [intake]; exact motion.order)
      (by rw [sequencer]; exact motion.free) (by rw [sequencer]; simp [sequencerIn])
  have quiet := quiet_fixed_stopping quietU (congrArg Sequencer.transport sequencer)
    ((congrArg Sequencer.dir sequencer).trans motion.dir) (congrArg Sequencer.phase sequencer) fixes
  have moved := fixes.same
  refine ⟨_, encoderCount_reaches motion.toNoMarkerAt (underway_ne_loading motion.underway) due quiet, ?_, ?_, ?_, ?_, ?_, ?_⟩
  · obtain ⟨servos, sensors, links, loader⟩ := counts
    simp only [arbitrate_keeps] at servos sensors links loader
    constructor <;> simp only [arbitrate_keeps]
    · exact moved.servos.trans servos
    · exact moved.sensors.trans sensors
    · exact moved.links.trans links
    · exact moved.loader.trans loader
  · obtain ⟨transport, mode, v, dir, order⟩ := begun
    simp only [arbitrate_keeps] at transport mode v dir order
    constructor <;> simp only [arbitrate_keeps]
    · exact moved.transport.trans transport
    · rw [moved.generator]; exact mode
    · rw [moved.generator]; exact v
    · exact moved.dir.trans dir
    · exact moved.intake.trans order
  · rw [(arbitrate_keeps _).2.1, fixes.sequencer]
  · simp only [arbitrate_keeps, fixes.pending]
    exact pending
  · intro expecting
    rw [record_congr (arbitrate_keeps _).1]
    have given := fixes.given
    rw [record_congr tracker, tracker] at given
    exact given expecting
  · intro j other
    rw [record_congr (arbitrate_keeps _).1, fixes.others j (by rw [tracker]; exact other), record_congr tracker]

/-- A REPOSITION move at the load point stops (R49). -/
theorem CountInMotion.loadPointStopsMove (move : p = .reposition) (past : s.servos.t - 1 ≤ 0)
    (within : WithinBlankLimit (s.servos.t - 1) s) (far : repositionDue (countStep .backward s) = none) :
    ∃ t, exec (.encoderCount .backward) s = .next t ∧ Counted .backward s t ∧ StopBegun s t ∧ t.sequencer.fixed = none ∧
      t.reporter.pendingClasses = s.reporter.pendingClasses ||| 0x40#9 ∧ t.tracker = s.tracker := by
  have moving := motion.moving
  have due := positionEvent_loadPoint moving past within (repositionDue_counted far)
  rw [botRule_repositions (moving.purpose.trans (congrArg some move))] at due
  obtain ⟨-, stops⟩ := motion.loadPointStops
  obtain ⟨sequencer, tracker, -, pending⟩ := motion.loadPointStop_spec
  have quiet : Quiet (loadPointStop (counted .backward s)) := stops.quiet
  have counts : Counted .backward s (arbitrate (loadPointStop (counted .backward s))) := stops.counted
  have begun : StopBegun s (arbitrate (loadPointStop (counted .backward s))) := stops.begun
  generalize loadPointStop (counted .backward s) = u at *
  refine ⟨_, encoderCount_reaches motion.toNoMarkerAt (underway_ne_loading motion.underway) due quiet, counts, begun, ?_, ?_, ?_⟩
  · rw [(arbitrate_keeps _).2.1, sequencer]
    exact motion.free
  · simp only [arbitrate_keeps, pending]
  · rw [(arbitrate_keeps _).1, tracker]

end

/-- Settles O18. -/
theorem countsReachTheLimits : Obligations.CountsReachTheLimits := by
  refine ⟨?blank, ?bot, ?eot⟩
  case blank =>
    intro d p s ref reads motion idle blankRef past
    have moving := motion.moving
    obtain ⟨notWrite, notErase, notReposition⟩ := reads_not reads
    obtain ⟨held, decision⟩ := moving.noPoint idle
    obtain ⟨fixes, stops⟩ := motion.fixAndStop (.refl _) motion.free .failed .blankTape (by
      intro forward e listed
      rw [show (counted d s).sequencer.decisions = [] from (idle forward).2] at listed
      cases listed)
    have due : positionEvent (counted d s) = some (stopMotion (fixOutcome .failed .blankTape (counted d s))) := by
      unfold positionEvent
      rw [held, decision, moving.noShowDue_none (.inl notWrite), moving.eraseDue_none (.inl notErase), moving.repositionDue_none notReposition,
        blankDue_of moving reads blankRef past motion.free]
      rfl
    refine ⟨_, encoderCount_reaches motion.toNoMarkerAt (underway_ne_loading motion.underway) due stops.quiet, stops.counted, stops.begun,
      ?_, ?_, ?_, ?_⟩
    · rw [stops.sequencer, sequencerIn, fixes.sequencer]
    · exact fun expecting => (stops.record _).trans (fixes.given expecting)
    · exact fun nothing => (stops.record _).trans (record_congr (fixes.nothing nothing) _)
    · exact fun j other => (stops.record _).trans (fixes.others j other)
  case bot =>
    exact fun p s motion past within =>
      ⟨fun reads => motion.loadPointEnds reads past within, fun move far => motion.loadPointStopsMove move past within far⟩
  case eot =>
    intro p s o c reads motion noPoint noDecision order forward taken eot past within
    have moving := motion.moving
    obtain ⟨notWrite, notErase, notReposition⟩ := reads_not reads
    obtain ⟨held, decision⟩ := moving.noPoint fun _ => ⟨noPoint, noDecision⟩
    obtain ⟨fixes, stops⟩ := motion.fixAndStop (.refl _) motion.free .failed .endOfTape (by
      intro _ e listed
      rw [show (counted .forward s).sequencer.decisions = [] from noDecision] at listed
      cases listed)
    have beyond : (counted .forward s).beyondEot = true := by
      unfold State.beyondEot
      rw [show (counted .forward s).sequencer.eot = some c from eot]
      exact decide_eq_true past
    have order' : (counted .forward s).runningOrder = some .readFwd ∨ (counted .forward s).runningOrder = some .spaceFwd := by
      obtain rfl | rfl := forward
      · exact .inl order
      · exact .inr order
    have due : positionEvent (counted .forward s) = some (stopMotion (fixOutcome .failed .endOfTape (counted .forward s))) := by
      unfold positionEvent
      rw [held, decision, moving.noShowDue_none (.inl notWrite), moving.eraseDue_none (.inl notErase), moving.repositionDue_none notReposition,
        moving.blankDue_none fun _ => within, moving.botDue_none rfl, eotDue_of moving reads order' taken beyond motion.free]
      rfl
    refine ⟨_, encoderCount_reaches motion.toNoMarkerAt (underway_ne_loading motion.underway) due stops.quiet, stops.counted, stops.begun,
      ?_, ?_, ?_, ?_⟩
    · rw [stops.sequencer, sequencerIn, fixes.sequencer]
    · rw [stops.sequencer, sequencerIn, fixes.sequencer]
      exact eot
    · exact fun expecting => (stops.record _).trans (fixes.given expecting)
    · exact fun j other => (stops.record _).trans (fixes.others j other)

end Sys2Proof.Machine
end

section
/-! Encoder counts that reach the points of a writing motion (R21, R37, R38, R40, R41, R43). -/

namespace Sys2Proof.Machine

/-! ### The held read released (R21) -/

theorem Moving.nothingDue {d : Direction} {p : Purpose} {s : State} (motion : Moving d p s)
    (held : heldRelease s = none) (decision : decisionDue s = none) (noShow : noShowDue s = none) (erase : eraseDue s = none)
    (reposition : repositionDue s = none) (blank : blankDue s = none) (bot : botDue s = none) (eot : eotDue s = none) : NothingDue s := by
  obtain ⟨near, limit, leader⟩ := motion.loadPoint_none
  refine positionEvent_none_iff_nothingDue.mp ?_
  unfold positionEvent
  rw [held, decision, noShow, erase, reposition, blank, bot, eot, near, limit, leader]
  rfl

/-- In a forward writing motion only its own points can be met. -/
theorem Moving.writing_nothingDue {s : State} (motion : Moving .forward .write s) (idle : s.holding = false)
    (decision : NoDecisionBy s.servos.t s)
    (window : ∀ r, s.sequencer.recordPoint = some r → s.servos.t ≤ r + s.loader.groupB.xExt) : NothingDue s := by
  refine motion.nothingDue (motion.heldRelease_none fun _ r _ holds => ?_) (motion.decisionDue_none fun _ => decision)
    (noShowDue_none_iff.mpr fun r point _ _ => window r point) (motion.eraseDue_none (.inl (by decide)))
    (motion.repositionDue_none (by decide)) (motion.blankDue_none fun reads => ?_) (motion.botDue_none rfl)
    (motion.eotDue_none (.inl (by decide)))
  · rw [idle] at holds
    cases holds
  · simp at reads

theorem CountInMotion.quiet {d : Direction} {p : Purpose} {s y : State} (motion : CountInMotion d p s) (same : SameMotion (counted d s) y)
    (nothing : NothingDue y) : Quiet y :=
  quiet_iff_nothingDue.mpr ⟨same.signals.trans motion.signals, nothing,
    settlementDue_of_none (by rw [same.generator]; exact motion.settled), handOverDue_of_running (by rw [same.intake]; exact motion.order)⟩

/-- The read of a count at which it is released. -/
theorem heldRelease_releases {s : State} {t : BusTxn} {ms : Nat} {r : Int} (held : s.path.upper = some { txn := t, stage := .held ms })
    (point : s.sequencer.recordPoint = some r) (now : releaseCondition s = true) :
    heldRelease s = some (releaseBlock s.tracker.recordCursor r (passClaim t s)) := by
  have holds : s.holding = true := by
    unfold State.holding
    rw [held]
  have released : releaseHeld s = passClaim t s := by
    unfold releaseHeld
    rw [held]
  unfold heldRelease
  rw [point, holds, now, released]
  rfl

theorem releaseCondition_window {s : State} {r : Int} (now : releaseCondition s = true) (point : s.sequencer.recordPoint = some r) :
    s.servos.t ≤ r + s.loader.groupB.xExt := by
  unfold releaseCondition at now
  rw [point] at now
  simp only [Bool.and_eq_true, decide_eq_true_eq] at now
  exact now.2.2

theorem countReleasesTheBlock {s : State} {txn : BusTxn} {ms : Nat} {r : Int} (motion : CountInMotion .forward .write s)
    (held : s.path.upper = some { txn := txn, stage := .held ms }) (point : s.sequencer.recordPoint = some r)
    (now : releaseCondition (countStep .forward s) = true) (long : 0 < (s.record s.tracker.recordCursor).tapeLength)
    (ahead : NoDecisionBy (s.servos.t + 1) s) (short : (countStep .forward s).beyondEot = false)
    (next : (s.record (s.tracker.recordCursor + 1)).state ≠ .filled) :
    ∃ t, exec (.encoderCount .forward) s = .next t ∧ Counted .forward s t ∧
      Released s.tracker.recordCursor r (countStep .forward s) t ∧
      (∃ stage, t.path.upper = some { txn := txn, stage := stage } ∧ (stage = .claimed ∨ stage = .atMemory)) ∧
      t.sequencer.recordPoint = none ∧ t.sequencer.fillWait = true ∧
      (∀ j : Fin 16, j ≠ s.tracker.recordCursor → t.record j = s.record j) ∧ t.intake = s.intake := by
  have moving := motion.moving
  have nowX : releaseCondition (counted .forward s) = true := now
  let +generalize (eq := isZ) z := passClaim txn (counted .forward s)
  have nothing : NothingDue z := by
    refine Moving.writing_nothingDue ⟨motion.underway, motion.phase, motion.dir, motion.purpose⟩ (holding_of_claimed rfl) ahead ?_
    intro r' point'
    exact releaseCondition_window nowX point'
  have quietZ : Quiet z := motion.quiet (by constructor <;> rfl) nothing
  have done := releaseBlock_done (s := z) s.tracker.recordCursor r short next
  have quietU := quiet_released quietZ done (releaseCondition_running nowX) long
  have due : positionEvent (counted .forward s) = some (releaseBlock s.tracker.recordCursor r z) := by
    unfold positionEvent
    rw [heldRelease_releases (s := counted .forward s) held point nowX]
    rfl
  obtain ⟨ρ, w, sequencer, -, waits⟩ := done.sequencer
  obtain ⟨tracker, sequencerT, generator, servos, links, sensors, intake, loader, reporter, -⟩ :=
    arbitrate_keeps (releaseBlock s.tracker.recordCursor r z)
  refine ⟨_, encoderCount_reaches motion.toNoMarkerAt (underway_ne_loading motion.underway) due quietU,
    ⟨servos.trans done.servos, sensors.trans done.sensors, links.trans done.links, loader.trans done.loader⟩,
    done.released.ofSame tracker sequencerT generator reporter ⟨rfl, rfl, rfl, rfl, rfl⟩,
    arbitrate_upper_claimed (congrArg Path.upper done.path), ?_, ?_,
    fun j other => (record_congr tracker j).trans (done.others j other), intake.trans done.intake⟩
  · rw [sequencerT, sequencer]
  · rw [sequencerT, sequencer]
    exact waits motion.free

/-! ### Decision points (R38) -/

/-- A record comes to its write check, and its entry leaves the list. -/
def checkBegun (i : Fin 16) (rest : List (Fin 16 × Int)) (s : State) : State :=
  setRecord i { s.record i with state := .awaitCheck, checkTimer := some s.loader.groupB.checkTime }
    (s.onSequencer fun q => { q with decisions := rest })

section
variable (i : Fin 16) (rest : List (Fin 16 × Int)) (s : State)

theorem checkBegun_sequencer : (checkBegun i rest s).sequencer = { s.sequencer with decisions := rest } := by
  simp [checkBegun]

theorem checkBegun_record (j : Fin 16) : (checkBegun i rest s).record j =
    if i = j then { s.record i with state := .awaitCheck, checkTimer := some s.loader.groupB.checkTime } else s.record j :=
  setRecord_record i j _ _

theorem sameMotion_checkBegun : SameMotion s (checkBegun i rest s) := by
  constructor <;> simp [checkBegun]

theorem checkBegun_holding : (checkBegun i rest s).holding = s.holding := holding_congr (by simp [checkBegun])

end

theorem decisionPoint_recording {i : Fin 16} {rest : List (Fin 16 × Int)} {s : State} (recording : (s.record i).state = .recording) :
    decisionPoint i rest s =
      if s.sequencer.transport = .running ∧ s.sequencer.purpose = some .write then streamOrStop (checkBegun i rest s)
      else checkBegun i rest s := by
  have request : decisionRequest i (s.onSequencer fun q => { q with decisions := rest }) = some (checkBegun i rest s) := if_pos recording
  have same := sameMotion_checkBegun i rest s
  unfold decisionPoint
  dsimp only
  rw [request]
  dsimp only
  rw [same.transport, same.purpose]

/-- The motion goes on for another listed block, or toward an ARMED one. -/
theorem streamOrStop_streams {s : State}
    (more : s.sequencer.decisions ≠ [] ∨ (s.record s.tracker.recordCursor).state = .armed) : streamOrStop s = s := by
  unfold streamOrStop
  dsimp only
  by_cases listed : s.sequencer.decisions = []
  · rw [if_neg (by simp [listed]), if_pos (more.resolve_left fun h => h listed)]
  · rw [if_pos (by simp [listed])]

/-- With nothing listed and the cursor record neither ARMED nor FILLED the motion stops. -/
theorem streamOrStop_stops {s : State} (nothing : s.sequencer.decisions = [])
    (idle : (s.record s.tracker.recordCursor).state ∉ [BlockState.armed, .filled]) :
    ∃ w, streamOrStop s = stopMotion (s.onSequencer fun q => { q with fillWait := w }) := by
  simp only [List.mem_cons, List.not_mem_nil, or_false, not_or] at idle
  unfold streamOrStop
  dsimp only
  rw [if_neg (by simp [nothing]), if_neg idle.1]
  split
  · exact ⟨s.sequencer.fillWait, rfl⟩
  · split
    · exact ⟨s.sequencer.fillWait, rfl⟩
    · rw [if_neg fun h => idle.2 h.2]
      split
      · exact ⟨true, rfl⟩
      · exact ⟨s.sequencer.fillWait, rfl⟩

theorem decisionDue_of {i : Fin 16} {x : Int} {rest : List (Fin 16 × Int)} {p : Purpose} {s : State} (motion : Moving .forward p s)
    (listed : s.sequencer.decisions = (i, x) :: rest) (reached : x ≤ s.servos.t) (normal : s.sequencer.startFallback = false) :
    decisionDue s = some (decisionPoint i rest s) := by
  unfold decisionDue State.tapePos
  rw [listed]
  simp [underway_moves motion.underway, motion.dir, reached, normal]

section
variable {s : State} {i : Fin 16} {x : Int} {rest : List (Fin 16 × Int)} (motion : CountInMotion .forward .write s)
  (normal : s.sequencer.startFallback = false) (listed : s.sequencer.decisions = (i, x) :: rest) (reached : x ≤ s.servos.t + 1)
  (ahead : ∀ e ∈ rest, s.servos.t + 1 < e.2) (recording : (s.record i).state = .recording) (idle : s.holding = false)
include motion normal listed reached recording idle

/-- A count at a decision point acts on it, no read being held. -/
theorem CountInMotion.decisionReached : positionEvent (counted .forward s) =
    some (if s.sequencer.transport = .running then streamOrStop (checkBegun i rest (counted .forward s))
      else checkBegun i rest (counted .forward s)) := by
  have moving := motion.moving
  have held : heldRelease (counted .forward s) = none := moving.heldRelease_none fun _ r _ holds => by
    rw [show (counted .forward s).holding = false from idle] at holds
    cases holds
  have purpose : (counted .forward s).sequencer.purpose = some .write := motion.purpose
  unfold positionEvent
  rw [held, decisionDue_of moving listed reached normal, decisionPoint_recording (s := counted .forward s) recording]
  simp only [purpose, and_true]
  rfl

include ahead

theorem CountInMotion.decisionStreams
    (window : ∀ r : Int, s.sequencer.recordPoint = some r → s.servos.t + 1 ≤ r + s.loader.groupB.xExt)
    (more : rest ≠ [] ∨ (s.record s.tracker.recordCursor).state = .armed) :
    ∃ t, exec (.encoderCount .forward) s = .next t ∧ Counted .forward s t ∧
      t.record i = { s.record i with state := .awaitCheck, checkTimer := some s.loader.groupB.checkTime } ∧
      (∀ j : Fin 16, j ≠ i → t.record j = s.record j) ∧ t.sequencer = { s.sequencer with decisions := rest } ∧
      t.tracker.recordCursor = s.tracker.recordCursor ∧ t.generator = s.generator ∧ t.intake = s.intake := by
  have due := motion.decisionReached normal listed reached recording idle
  have record := checkBegun_record i rest (counted .forward s)
  have sequencer := checkBegun_sequencer i rest (counted .forward s)
  have cursor : (checkBegun i rest (counted .forward s)).tracker.recordCursor = s.tracker.recordCursor := (setRecord_cursors _ _ _).1
  have same := sameMotion_checkBegun i rest (counted .forward s)
  have idleC := (checkBegun_holding i rest (counted .forward s)).trans idle
  rw [streamOrStop_streams, ite_self] at due
  · generalize checkBegun i rest (counted .forward s) = c at *
    have nothing : NothingDue c := by
      refine Moving.writing_nothingDue ⟨?_, ?_, ?_, ?_⟩ idleC ?_ ?_
      · rw [sequencer]; exact motion.underway
      · rw [sequencer]; exact motion.phase
      · rw [sequencer]; exact motion.dir
      · rw [sequencer]; exact motion.purpose
      · unfold NoDecisionBy
        rw [sequencer, same.servos]
        exact ahead
      · rw [sequencer, same.servos, same.loader]
        exact window
    refine ⟨_, encoderCount_reaches motion.toNoMarkerAt (underway_ne_loading motion.underway) due (motion.quiet same nothing), ?_⟩
    obtain ⟨tracker, sequencerT, generator, servos, links, sensors, intake, loader, -⟩ := arbitrate_keeps c
    refine ⟨⟨servos.trans same.servos, sensors.trans same.sensors, links.trans same.links, loader.trans same.loader⟩, ?_, ?_,
      sequencerT.trans sequencer, by rw [tracker]; exact cursor, generator.trans same.generator, intake.trans same.intake⟩
    · rw [record_congr tracker, record, if_pos rfl]
      rfl
    · intro j other
      rw [record_congr tracker, record, if_neg (Ne.symm other)]
      rfl
  · obtain some | armed := more
    · exact .inl (by rw [sequencer]; exact some)
    · refine .inr ?_
      have other : i ≠ s.tracker.recordCursor := by
        rintro rfl
        rw [recording] at armed
        cases armed
      rw [record, cursor, if_neg other]
      exact armed

theorem CountInMotion.decisionStops (none : rest = []) (running : s.sequencer.transport = .running)
    (last : (s.record s.tracker.recordCursor).state ∉ [BlockState.armed, .filled]) :
    ∃ t, exec (.encoderCount .forward) s = .next t ∧ Counted .forward s t ∧ StopBegun s t ∧
      t.record i = { s.record i with state := .awaitCheck, checkTimer := some s.loader.groupB.checkTime } ∧
      (∀ j : Fin 16, j ≠ i → t.record j = s.record j) ∧ t.sequencer.decisions = [] := by
  have due := motion.decisionReached normal listed reached recording idle
  have record := checkBegun_record i rest (counted .forward s)
  have sequencer := checkBegun_sequencer i rest (counted .forward s)
  have cursor : (checkBegun i rest (counted .forward s)).tracker.recordCursor = s.tracker.recordCursor := (setRecord_cursors _ _ _).1
  have same := sameMotion_checkBegun i rest (counted .forward s)
  subst none
  have lastC : ((checkBegun i [] (counted .forward s)).record
      (checkBegun i [] (counted .forward s)).tracker.recordCursor).state ∉ [BlockState.armed, .filled] := by
    rw [record, cursor]
    split
    · simp
    · exact last
  obtain ⟨w, stopsHere⟩ := streamOrStop_stops (congrArg Sequencer.decisions sequencer) lastC
  rw [if_pos running, stopsHere] at due
  let +generalize (eq := isY) y := (checkBegun i [] (counted .forward s)).onSequencer fun q => { q with fillWait := w }
  have sequencerY : y.sequencer = { s.sequencer with decisions := [], fillWait := w } := by
    rw [isY, onSequencer_sequencer, sequencer]
    rfl
  have sameY : SameMotion (counted .forward s) y :=
    same.trans (by constructor <;> rfl)
  have stops := motion.stops sameY (fun _ e more => by rw [sequencerY] at more; cases more) (fun _ reads => by simp at reads)
  refine ⟨_, encoderCount_reaches motion.toNoMarkerAt (underway_ne_loading motion.underway) due stops.quiet, stops.counted, stops.begun,
    ?_, ?_, ?_⟩
  · rw [stops.record]
    exact (record i).trans (if_pos rfl)
  · intro j other
    rw [stops.record]
    exact (record j).trans (if_neg (Ne.symm other))
  · rw [stops.sequencer, sequencerIn, sequencerY]

end

/-! ### No-shows (R40, R41) -/

/-- The no-show counted and told. -/
def noShowTold (s : State) : State :=
  raiseBlock .formatterNoShow s.tracker.recordCursor (wordOfNat (s.sequencer.noShow + 1)) 0
    (s.onSequencer fun q => { q with noShow := s.sequencer.noShow + 1, noShowStop := true })

theorem noShowTold_sequencer (s : State) :
    (noShowTold s).sequencer = { s.sequencer with noShow := s.sequencer.noShow + 1, noShowStop := true } := by
  simp [noShowTold]

theorem noShowTold_tracker (s : State) : (noShowTold s).tracker = s.tracker := by simp [noShowTold]

theorem noShowTold_path (s : State) : (noShowTold s).path = s.path := by simp [noShowTold]

theorem noShowTold_pending (s : State) : (noShowTold s).reporter.pendingClasses = s.reporter.pendingClasses ||| 0x100#9 :=
  (raiseBlock_pending _ _ _ _ _).1

theorem sameMotion_noShowTold (s : State) : SameMotion s (noShowTold s) := by
  constructor <;> simp [noShowTold]

theorem noShow_eq (s : State) : noShow s =
    if s.loader.groupB.noShowLimit < s.sequencer.noShow + 1 then
      stopMotion (unarm s.tracker.recordCursor (fixOutcome .failed .formatterSilent (noShowTold s)))
    else stopMotion (noShowTold s) := rfl

theorem noShowDue_of {r : Int} {s : State} (motion : Moving .forward .write s) (point : s.sequencer.recordPoint = some r)
    (past : r + s.loader.groupB.xExt < s.servos.t) (free : s.sequencer.fixed = none) : noShowDue s = some (noShow s) := by
  have writing : s.movingAs .forward .write = true := by
    unfold State.movingAs
    simp [motion.underway, motion.dir, motion.purpose]
  unfold noShowDue State.tapePos State.groupB
  rw [point, writing]
  simp [past, free]

/-- A record unarmed by its no-show: FILLED again, with its read retried (R41). -/
structure Unarmed (i : Fin 16) (s y : State) : Prop where
  same : SameMotion s y
  sequencer : y.sequencer = { s.sequencer with recordPoint := none }
  unarmed : y.record i = rolledBack (s.record i)
  others : ∀ j : Fin 16, j ≠ i → y.record j = s.record j
  pending : y.reporter.pendingClasses = s.reporter.pendingClasses
  retried : s.holding = true → y.path.upper = none ∧ y.path.answers = s.path.answers ++ [.retry]

theorem unarm_unarmed (i : Fin 16) (s : State) : Unarmed i s (unarm i s) := by
  have record (j : Fin 16) : (unarm i s).record j = if i = j then rolledBack (s.record i) else s.record j :=
    (record_congr (retryHeld_keeps _).1 j).trans (setRecord_record i j _ _)
  unfold unarm dropRecordPoint at *
  constructor
  case same => constructor <;> simp
  case sequencer => simp
  case unarmed => rw [record, if_pos rfl]
  case others => exact fun j other => by rw [record, if_neg (Ne.symm other)]
  case pending => simp [setRecord_reporter]
  case retried =>
    intro holds
    have holdsY : ((setRecord i (rolledBack (s.record i)) s).onSequencer fun q => { q with recordPoint := none }).holding = true :=
      (holding_congr (by simp)).trans holds
    unfold retryHeld
    rw [if_pos holdsY]
    exact ⟨rfl, by simp [answerUpper]⟩

section
variable {s : State} {r : Int} (motion : CountInMotion .forward .write s) (point : s.sequencer.recordPoint = some r)
  (past : s.servos.t = r + s.loader.groupB.xExt) (ahead : NoDecisionBy (s.servos.t + 1) s)
include motion point past ahead

theorem CountInMotion.noShowReached : positionEvent (counted .forward s) = some (noShow (counted .forward s)) := by
  have moving := motion.moving
  have late : r + s.loader.groupB.xExt < s.servos.t + 1 := by omega
  have held : heldRelease (counted .forward s) = none := moving.heldRelease_none fun _ r' point' _ => by
    rw [Bool.eq_false_iff]
    intro now
    have within : s.servos.t + 1 ≤ r' + s.loader.groupB.xExt := releaseCondition_window now point'
    have same : r = r' := Option.some.inj (point.symm.trans point')
    omega
  unfold positionEvent
  rw [held, moving.decisionDue_none fun _ => ahead, noShowDue_of moving point late motion.free]
  rfl

theorem CountInMotion.noShowStops (within : s.sequencer.noShow + 1 ≤ s.loader.groupB.noShowLimit) :
    ∃ t, exec (.encoderCount .forward) s = .next t ∧ Counted .forward s t ∧ StopBegun s t ∧
      t.sequencer.noShow = s.sequencer.noShow + 1 ∧ t.sequencer.recordPoint = some r ∧ t.sequencer.fixed = none ∧
      t.reporter.pendingClasses = s.reporter.pendingClasses ||| 0x100#9 ∧ t.tracker = s.tracker := by
  have due := motion.noShowReached point past ahead
  rw [noShow_eq, if_neg (show ¬(counted .forward s).loader.groupB.noShowLimit < (counted .forward s).sequencer.noShow + 1 from Nat.not_lt.mpr within)] at due
  have sequencer := noShowTold_sequencer (counted .forward s)
  have tracker := noShowTold_tracker (counted .forward s)
  have pending := noShowTold_pending (counted .forward s)
  have same := sameMotion_noShowTold (counted .forward s)
  generalize noShowTold (counted .forward s) = y at *
  have stops := motion.stops same (fun _ => by rw [sequencer]; exact ahead) (fun _ reads => by simp at reads)
  refine ⟨_, encoderCount_reaches motion.toNoMarkerAt (underway_ne_loading motion.underway) due stops.quiet, stops.counted, stops.begun,
    ?_, ?_, ?_, stops.pending.trans pending, stops.tracker.trans tracker⟩
  all_goals rw [stops.sequencer, sequencerIn, sequencer]
  · rfl
  · exact point
  · exact motion.free

theorem CountInMotion.noShowSilences (nothing : NothingExpected s) (beyond : s.loader.groupB.noShowLimit < s.sequencer.noShow + 1) :
    ∃ t, exec (.encoderCount .forward) s = .next t ∧ Counted .forward s t ∧ StopBegun s t ∧
      t.sequencer.noShow = s.sequencer.noShow + 1 ∧ t.sequencer.recordPoint = none ∧
      t.sequencer.fixed = some { outcome := .failed, reason := .formatterSilent } ∧
      t.record s.tracker.recordCursor = { s.record s.tracker.recordCursor with state := .filled, checkTimer := none } ∧
      (∀ j : Fin 16, j ≠ s.tracker.recordCursor → t.record j = s.record j) ∧
      t.reporter.pendingClasses = s.reporter.pendingClasses ||| 0x100#9 ∧
      (s.holding = true → t.path.upper = none ∧ t.path.answers = s.path.answers ++ [.retry]) := by
  have due := motion.noShowReached point past ahead
  rw [noShow_eq, if_pos (show (counted .forward s).loader.groupB.noShowLimit < (counted .forward s).sequencer.noShow + 1 from beyond)] at due
  have sequencer := noShowTold_sequencer (counted .forward s)
  have tracker := noShowTold_tracker (counted .forward s)
  have pending := noShowTold_pending (counted .forward s)
  have path := noShowTold_path (counted .forward s)
  have same := sameMotion_noShowTold (counted .forward s)
  generalize noShowTold (counted .forward s) = y at *
  have fixes := motion.fixes same (by rw [sequencer]; exact motion.free) .failed .formatterSilent
  have nothingY : NothingExpected y := by
    unfold NothingExpected
    rw [record_congr tracker, tracker]
    exact nothing
  have trackerF := (fixes.nothing nothingY).trans tracker
  have cursor : (counted .forward s).tracker.recordCursor = s.tracker.recordCursor := rfl
  rw [cursor] at due
  have unarmed := unarm_unarmed s.tracker.recordCursor (fixOutcome .failed .formatterSilent y)
  generalize fixOutcome .failed .formatterSilent y = f at *
  generalize unarm s.tracker.recordCursor f = z at *
  have sequencerZ : z.sequencer = { s.sequencer with
      noShow := s.sequencer.noShow + 1, noShowStop := true, recordPoint := none,
      fixed := some { outcome := .failed, reason := .formatterSilent } } := by
    rw [unarmed.sequencer, fixes.sequencer, sequencer]
    rfl
  have stops := motion.stops (same.trans (fixes.same.trans unarmed.same)) (fun _ => by rw [sequencerZ]; exact ahead)
    (fun _ reads => by simp at reads)
  refine ⟨_, encoderCount_reaches motion.toNoMarkerAt (underway_ne_loading motion.underway) due stops.quiet, stops.counted, stops.begun,
    ?_, ?_, ?_, ?_, ?_, ?_, ?_⟩
  · rw [stops.sequencer, sequencerIn, sequencerZ]
  · rw [stops.sequencer, sequencerIn, sequencerZ]
  · rw [stops.sequencer, sequencerIn, sequencerZ]
  · rw [stops.record, unarmed.unarmed, record_congr trackerF]
    rfl
  · intro j other
    rw [stops.record, unarmed.others j other, record_congr trackerF]
    rfl
  · rw [stops.pending, unarmed.pending, fixes.pending, pending]
    rfl
  · intro holds
    have holdsF : f.holding = true := (holding_congr (by rw [fixes.path, path]; rfl)).trans holds
    obtain ⟨upper, answers⟩ := unarmed.retried holdsF
    obtain ⟨cs, port, pathU⟩ := stops.stops.path
    refine ⟨arbitrate_upper_none (by rw [pathU]; exact upper), ?_⟩
    rw [(arbitrate_path _).2.2.2.2.2, pathU]
    show z.path.answers = _
    rw [answers, fixes.path, path]
    rfl

end

/-! ### The erase end (R43) -/

theorem eraseDue_of {e : Int} {s : State} (motion : Moving .forward .erase s) (lasts : s.sequencer.eraseEnd = some e)
    (near : e - s.distance .stop ≤ s.servos.t) (free : s.sequencer.fixed = none) : eraseDue s = some (eraseStop e s) := by
  have erasing : s.movingAs .forward .erase = true := by
    unfold State.movingAs
    simp [motion.underway, motion.dir, motion.purpose]
  unfold eraseDue State.tapePos
  rw [lasts, erasing]
  simp [near, free]

theorem CountInMotion.eraseEnds {s : State} {e : Int} (motion : CountInMotion .forward .erase s) (lasts : s.sequencer.eraseEnd = some e)
    (near : e - s.distance .stop ≤ s.servos.t + 1) (noPoint : s.sequencer.recordPoint = none) (ahead : NoDecisionBy (s.servos.t + 1) s)
    (nothing : NothingExpected s) :
    ∃ t, exec (.encoderCount .forward) s = .next t ∧ Counted .forward s t ∧ StopBegun s t ∧ t.sequencer.anchor = e ∧
      t.sequencer.gapKind = .nominal ∧ t.sequencer.fixed = some { outcome := .done, reason := .none } ∧ t.tracker = s.tracker := by
  have moving := motion.moving
  have due : positionEvent (counted .forward s) =
      some (stopMotion (fixOutcome .done .none (setAnchor e .nominal (counted .forward s)))) := by
    unfold positionEvent
    rw [moving.heldRelease_none fun _ r point => (by rw [show (counted .forward s).sequencer.recordPoint = none from noPoint] at point; cases point),
      moving.decisionDue_none fun _ => ahead, moving.noShowDue_none (.inl (by decide)), eraseDue_of moving lasts near motion.free]
    rfl
  have sequencer : (setAnchor e .nominal (counted .forward s)).sequencer = { s.sequencer with anchor := e, gapKind := .nominal } := rfl
  have tracker : (setAnchor e .nominal (counted .forward s)).tracker = s.tracker := rfl
  have same : SameMotion (counted .forward s) (setAnchor e .nominal (counted .forward s)) := by constructor <;> rfl
  generalize setAnchor e .nominal (counted .forward s) = y at *
  obtain ⟨fixes, stops⟩ := motion.fixAndStop same (by rw [sequencer]; exact motion.free) .done .none (fun _ => by rw [sequencer]; exact ahead)
  have nothingY : NothingExpected y := by
    unfold NothingExpected
    rw [record_congr tracker, tracker]
    exact nothing
  refine ⟨_, encoderCount_reaches motion.toNoMarkerAt (underway_ne_loading motion.underway) due stops.quiet, stops.counted, stops.begun,
    ?_, ?_, ?_, stops.tracker.trans ((fixes.nothing nothingY).trans tracker)⟩
  all_goals rw [stops.sequencer, sequencerIn, fixes.sequencer, sequencer]

/-- Settles O17. -/
theorem countsReachTheWritingPoints : Obligations.CountsReachTheWritingPoints := by
  refine ⟨?release, ?decision, ?noShow, ?erase⟩
  case release =>
    exact fun s txn ms r motion held point now _ long ahead short next => countReleasesTheBlock motion held point now long ahead short next
  case decision =>
    exact fun s i x rest motion normal listed reached ahead recording idle window =>
      ⟨fun more => motion.decisionStreams normal listed reached ahead recording idle window more,
        fun none running last => motion.decisionStops normal listed reached ahead recording idle none running last⟩
  case noShow =>
    exact fun s r motion point past ahead nothing =>
      ⟨fun within => motion.noShowStops point past ahead within, fun beyond => motion.noShowSilences point past ahead nothing beyond⟩
  case erase =>
    exact fun s e motion lasts near noPoint ahead nothing => motion.eraseEnds lasts near noPoint ahead nothing

end Sys2Proof.Machine
end

section
/-! Encoder counts that take a move near its target: REPOSITION moves, rewinds, the leader (R33, R136, R137, R139). -/

namespace Sys2Proof.Machine

/-! ### REPOSITION moves (R33, R113, R122) -/

theorem repositionDue_of {s : State} {q : Int}
    (aim : s.sequencer.approach = some q ∨ ∃ r, s.sequencer.recovery = some r ∧ r.phase = .backup ∧ r.target = q)
    (near : RepositionNear q s) : repositionDue s = some (stopMotion s) := by
  have due : repositionDue s ≠ none := by
    intro none
    obtain ⟨backup, approach⟩ := repositionDue_none_iff.mp none
    obtain point | ⟨r, open_, phase, rfl⟩ := aim
    · exact approach q point near
    · exact backup r open_ phase near
  unfold repositionDue at due ⊢
  simp only [ite_eq_right_iff, reduceCtorEq, imp_false, Decidable.not_not, ne_eq] at due
  exact if_pos due

theorem countEndsTheMove {d : Direction} {s : State} {q : Int} (motion : CountInMotion d .reposition s)
    (idle : d = .forward → s.sequencer.recordPoint = none ∧ s.sequencer.decisions = [])
    (aim : s.sequencer.approach = some q ∨ ∃ r, s.sequencer.recovery = some r ∧ r.phase = .backup ∧ r.target = q)
    (near : RepositionNear q (counted d s)) :
    ∃ t, exec (.encoderCount d) s = .next t ∧ Counted d s t ∧ StopBegun s t ∧ t.sequencer.fixed = none ∧
      t.sequencer.approach = s.sequencer.approach ∧ t.sequencer.recovery = s.sequencer.recovery ∧ t.tracker = s.tracker := by
  have moving := motion.moving
  obtain ⟨held, decision⟩ := moving.noPoint idle
  have due : positionEvent (counted d s) = some (stopMotion (counted d s)) := by
    unfold positionEvent
    rw [held, decision, moving.noShowDue_none (.inl (by decide)), moving.eraseDue_none (.inl (by decide)), repositionDue_of (s := counted d s) aim near]
    rfl
  have stops := motion.stops (.refl _) (fun forward e listed => by
    rw [show (counted d s).sequencer.decisions = [] from (idle forward).2] at listed
    cases listed) (fun _ reads => by simp at reads)
  refine ⟨_, encoderCount_reaches motion.toNoMarkerAt (underway_ne_loading motion.underway) due stops.quiet, stops.counted, stops.begun,
    ?_, ?_, ?_, stops.tracker⟩
  all_goals rw [stops.sequencer, sequencerIn]
  · exact motion.free
  · rfl
  · rfl

/-! ### Outside the motions of the sequencer's chapter -/

/-- In a rewind or an unload only the load point and the leader can be reached. -/
theorem positionEvent_still {s : State} (still : s.sequencer.transport.moves = false) :
    positionEvent s = (rewindNear s <|> rewindLimit s <|> leaderDue s) := by
  have notUnderway : s.sequencer.transport.underway = false := by
    cases e : s.sequencer.transport <;> simp_all [Transport.moves, Transport.underway]
  have notMoving (d : Direction) (p : Purpose) : s.movingAs d p = false := by simp [State.movingAs, notUnderway]
  have away (x : Int) : ¬RepositionNear x s := by simp [RepositionNear, notMoving]
  have held : heldRelease s = none := heldRelease_none_iff.mpr fun r _ _ => by
    cases e : s.sequencer.transport <;> simp_all [releaseCondition, Transport.moves]
  have decision : decisionDue s = none := decisionDue_none_iff.mpr fun _ _ _ _ moves => by simp [still] at moves
  have silent : noShowDue s = none := noShowDue_none_iff.mpr fun _ _ moving => by simp [notMoving] at moving
  have erase : eraseDue s = none := eraseDue_none_iff.mpr fun _ _ moving => by simp [notMoving] at moving
  have reposition : repositionDue s = none := repositionDue_none_iff.mpr ⟨fun _ _ _ => away _, fun _ _ => away _⟩
  have blank : blankDue s = none := blankDue_none_iff.mpr fun _ _ reading => by simp [State.readingUnderway, notUnderway] at reading
  have bot : botDue s = none := botDue_none_iff.mpr fun underway => by simp [notUnderway] at underway
  have eot : eotDue s = none := eotDue_none_iff.mpr fun _ _ moves => by simp [still] at moves
  unfold positionEvent
  rw [held, decision, silent, erase, reposition, blank, bot, eot]
  rfl

theorem rewindStep_transport {s : State} {r : RewindStep} (step : s.rewindStep = some r) :
    (s.sequencer.transport = .rewinding ∨ s.sequencer.transport = .unloading) ∧ s.sequencer.phase ≠ some .leader := by
  unfold State.rewindStep at step
  split at step
  case h_1 transport phase => exact ⟨.inl transport, by simp [phase]⟩
  case h_2 transport phase => exact ⟨.inr transport, by simp [phase]⟩
  case h_3 => cases step

theorem rewinding_moves {t : Transport} (rewinds : t = .rewinding ∨ t = .unloading) :
    t.moves = false ∧ t ≠ .loading ∧ t ≠ .stopped ∧ t ≠ .faulted := by
  obtain rfl | rfl := rewinds <;> decide

/-- A rewind rests after an event when its step asks for nothing. -/
theorem quiet_rewinding {s : State} {r : RewindStep} (signals : s.signals = []) (settled : s.generator.loadSet = none)
    (runs : s.intake.running.isSome = true) (step : s.rewindStep = some r)
    (done : r = .approach ∨ s.sequencer.fixed ≠ none) : Quiet s := by
  obtain ⟨rewinds, notLeader⟩ := rewindStep_transport step
  refine quiet_iff.mpr ⟨signals, ?_, settlementDue_of_none settled, handOverDue_of_running runs⟩
  have near : rewindNear s = none := rewindNear_none_iff.mpr fun fast _ free => by
    rw [step] at fast
    obtain rfl | fixed := done
    · simp at fast
    · exact absurd free fixed
  have limit : rewindLimit s = none := rewindLimit_none_iff.mpr fun creep _ free => by
    rw [step] at creep
    obtain rfl | fixed := done
    · simp at creep
    · exact absurd free fixed
  rw [positionEvent_still (rewinding_moves rewinds).1, near, limit, leaderDue_none_iff.mpr fun _ _ leader => absurd leader notLeader]
  rfl

/-! ### The approach distance of a rewind (R136) -/

theorem decelToCreep_slows {s : State}
    (fast : s.generator.mode = .cruise ∨ (s.generator.mode = .accel ∧ s.loader.groupB.vCreep < s.generator.v)) :
    Slows .rewindStop true s (decelToCreep s) := by
  unfold decelToCreep
  obtain cruise | ⟨accel, above⟩ := fast
  · rw [cruise]
    exact slows_stopFromCruise _ _ s
  · rw [accel]
    dsimp only
    rw [if_pos (show s.groupB.vCreep < s.generator.v from above)]
    exact slows_stopFromAccel _ _ s

/-- The rewind comes to another step, and nothing else does. -/
structure StepSet (r : RewindStep) (s u : State) : Prop where
  step : u.rewindStep = some r
  transport : u.sequencer.transport = s.sequencer.transport
  fixed : u.sequencer.fixed = s.sequencer.fixed
  tracker : u.tracker = s.tracker
  generator : u.generator = s.generator
  servos : u.servos = s.servos
  links : u.links = s.links
  sensors : u.sensors = s.sensors
  intake : u.intake = s.intake
  loader : u.loader = s.loader
  signals : u.signals = s.signals

theorem setRewindStep_sets {s : State} {old : RewindStep} (r : RewindStep) (step : s.rewindStep = some old)
    (drive : s.servos.driveMode = .follow) : StepSet r s (setRewindStep r s) := by
  unfold State.rewindStep at step
  split at step
  case h_1 transport phase =>
    have set : setRewindStep r s = setTransport .rewinding (some (.step r)) s := if_neg (by simp [transport])
    rw [set]
    constructor
    case step =>
      unfold State.rewindStep
      rw [setTransport_sequencer]
      rfl
    case transport => rw [setTransport_sequencer, transport]; rfl
    case fixed => rw [setTransport_sequencer]; rfl
    case servos => exact setTransport_servos (by rw [drive]; rfl)
    case sensors => exact setTransport_sensors (by decide) (by simp [transport])
    all_goals simp
  case h_2 transport phase =>
    have set : setRewindStep r s = markStatusIf (decide (s.sequencer.rewindStep ≠ some r))
        (s.onSequencer fun q => { q with rewindStep := some r }) := if_pos transport
    rw [set]
    constructor
    case step =>
      unfold State.rewindStep
      simp [transport, phase]
    all_goals simp
  case h_3 => cases step

theorem rewindNear_of {s : State} {r : RewindStep} (step : s.rewindStep = some r) (fast : r = .ramp ∨ r = .cruise)
    (near : s.servos.t ≤ s.loader.groupB.approachDistance) (goes : s.sequencer.haltStop = false) (free : s.sequencer.fixed = none) :
    rewindNear s = some (setRewindStep .approach (decelToCreep s)) := by
  have close : s.farFromLoadPoint = false := decide_eq_false (Int.not_lt.mpr near)
  unfold rewindNear
  rw [step, close, goes, free]
  simp [fast]

section
variable {d : Direction} {s : State} {step : RewindStep} (plain : NoMarkerAt d s) (rewinds : s.rewindStep = some step)
  (goes : s.sequencer.haltStop = false) (free : s.sequencer.fixed = none)
include plain rewinds goes free

theorem countSlowsTheRewind (drive : s.servos.driveMode = .follow) (fast : step = .ramp ∨ step = .cruise)
    (speed : s.generator.mode = .cruise ∨ (s.generator.mode = .accel ∧ s.loader.groupB.vCreep < s.generator.v))
    (near : s.servos.t + stepOf d ≤ s.loader.groupB.approachDistance) :
    ∃ t, exec (.encoderCount d) s = .next t ∧ Counted d s t ∧ t.rewindStep = some .approach ∧
      t.sequencer.transport = s.sequencer.transport ∧ t.generator.mode = .decel ∧
      (∃ r, t.generator.run = some r ∧ r.toCreep = true ∧ r.target = s.loader.groupB.vCreep) ∧ t.generator.v = s.generator.v ∧
      t.sequencer.fixed = none ∧ t.tracker = s.tracker ∧ t.intake = s.intake := by
  obtain ⟨transport, -⟩ := rewindStep_transport rewinds
  obtain ⟨still, away, -, -⟩ := rewinding_moves transport
  have due : positionEvent (counted d s) = some (setRewindStep .approach (decelToCreep (counted d s))) := by
    rw [positionEvent_still (s := counted d s) still, rewindNear_of (s := counted d s) rewinds fast near goes free]
    rfl
  have slows := decelToCreep_slows (s := counted d s) speed
  generalize decelToCreep (counted d s) = y at *
  obtain ⟨⟨run, working, reload, generator, -, creep, target⟩, -, tracker, sequencer, servos, links, sensors, intake, loader, -, signals⟩ := slows
  have stepY : y.rewindStep = some step := by
    rw [← rewinds]
    unfold State.rewindStep
    rw [sequencer]
    rfl
  have sets := setRewindStep_sets (s := y) .approach stepY (by rw [servos]; exact drive)
  generalize setRewindStep .approach y = u at *
  have quiet : Quiet u := quiet_rewinding (sets.signals.trans (signals.trans plain.signals))
    (by rw [sets.generator, generator]; exact plain.settled) (by rw [sets.intake, intake]; exact plain.order) sets.step (.inl rfl)
  refine ⟨_, encoderCount_reaches plain away due quiet, ?_⟩
  obtain ⟨trackerT, sequencerT, generatorT, servosT, linksT, sensorsT, intakeT, loaderT, -⟩ := arbitrate_keeps u
  refine ⟨⟨servosT.trans (sets.servos.trans servos), sensorsT.trans (sets.sensors.trans sensors), linksT.trans (sets.links.trans links),
    loaderT.trans (sets.loader.trans loader)⟩, ?_, ?_, ?_, ⟨run, ?_, creep, ?_⟩, ?_, ?_, trackerT.trans (sets.tracker.trans tracker),
    intakeT.trans (sets.intake.trans intake)⟩
  · unfold State.rewindStep
    rw [sequencerT]
    exact sets.step
  · rw [sequencerT, sets.transport, sequencer]
    rfl
  · rw [generatorT, sets.generator, generator]
  · rw [generatorT, sets.generator, generator]
  · exact target
  · rw [generatorT, sets.generator, generator]
    rfl
  · rw [sequencerT, sets.fixed, sequencer]
    exact free

/-! ### The limit of a rewind's creep (R137) -/

omit plain rewinds goes free in
theorem rewindLimit_of (creep : s.rewindStep = some .creep) (past : s.servos.t < -(s.loader.groupB.approachDistance : Int))
    (goes : s.sequencer.haltStop = false) (free : s.sequencer.fixed = none) :
    rewindLimit s = some (stopRequest .creepStop (fixOutcome .failed .noLoadPoint s)) := by
  unfold rewindLimit State.tapePos State.groupB
  rw [creep, goes, free]
  simp [past]

theorem countEndsTheRewind (creep : step = .creep) (speed : s.generator.mode = .accel ∨ s.generator.mode = .cruise)
    (past : s.servos.t + stepOf d < -(s.loader.groupB.approachDistance : Int)) (nothing : NothingExpected s) :
    ∃ t, exec (.encoderCount d) s = .next t ∧ Counted d s t ∧ t.rewindStep = some .creep ∧
      t.sequencer = { s.sequencer with fixed := some { outcome := .failed, reason := .noLoadPoint } } ∧
      t.generator.mode = .decel ∧ (∃ r, t.generator.run = some r ∧ r.chain = .creepStop ∧ r.toCreep = false) ∧
      t.generator.v = s.generator.v ∧ t.tracker = s.tracker ∧ t.intake = s.intake := by
  subst creep
  obtain ⟨transport, -⟩ := rewindStep_transport rewinds
  obtain ⟨still, away, notStopped, -⟩ := rewinding_moves transport
  have due : positionEvent (counted d s) = some (stopRequest .creepStop (fixOutcome .failed .noLoadPoint (counted d s))) := by
    rw [positionEvent_still (s := counted d s) still, rewindNear_none_iff.mpr, rewindLimit_of (s := counted d s) rewinds past goes free]
    · rfl
    · rw [show (counted d s).rewindStep = some .creep from rewinds]
      simp
  have fixes := fixOutcome_fixes (s := counted d s) .failed .noLoadPoint plain.order free notStopped
  have tracker := fixes.nothing nothing
  have same := fixes.same
  have sequencerY := fixes.sequencer
  generalize fixOutcome .failed .noLoadPoint (counted d s) = y at *
  have slows := stopRequest_slows (s := y) .creepStop (by rw [same.generator]; exact speed)
  generalize stopRequest .creepStop y = u at *
  obtain ⟨⟨run, working, reload, generator, chain, toCreep, -⟩, -, trackerU, sequencer, servos, links, sensors, intake, loader, -, signals⟩ := slows
  have sequencerU : u.sequencer = { s.sequencer with fixed := some { outcome := .failed, reason := .noLoadPoint } } :=
    sequencer.trans sequencerY
  have stepU : u.rewindStep = some .creep := by
    rw [← rewinds]
    unfold State.rewindStep
    rw [sequencerU]
  have generatorU : u.generator.loadSet = none := by
    rw [generator]
    show y.generator.loadSet = none
    rw [same.generator]
    exact plain.settled
  have intakeU : u.intake = s.intake := intake.trans same.intake
  have quiet : Quiet u := quiet_rewinding (signals.trans (same.signals.trans plain.signals)) generatorU (by rw [intakeU]; exact plain.order)
    stepU (.inr (by rw [sequencerU]; simp))
  refine ⟨_, encoderCount_reaches plain away due quiet, ?_⟩
  obtain ⟨trackerT, sequencerT, generatorT, servosT, linksT, sensorsT, intakeT, loaderT, -⟩ := arbitrate_keeps u
  refine ⟨⟨servosT.trans (servos.trans same.servos), sensorsT.trans (sensors.trans same.sensors), linksT.trans (links.trans same.links),
    loaderT.trans (loader.trans same.loader)⟩, ?_, sequencerT.trans sequencerU, ?_, ⟨run, ?_, chain, toCreep⟩, ?_,
    trackerT.trans (trackerU.trans tracker), intakeT.trans intakeU⟩
  · unfold State.rewindStep
    rw [sequencerT]
    exact stepU
  · rw [generatorT, generator]
  · rw [generatorT, generator]
  · rw [generatorT, generator]
    show y.generator.v = _
    rw [same.generator]
    rfl

end

/-! ### The leader (R139) -/

theorem leaderDue_of {s : State} {l : Int} (leader : s.sequencer.phase = some .leader) (began : s.sequencer.leaderStart = some l)
    (near : s.servos.t ≤ l - 40000 + s.distance .creepStop) (speed : s.generator.mode = .accel ∨ s.generator.mode = .cruise)
    (free : s.sequencer.fixed = none) : leaderDue s = some (stopRequest .creepStop s) := by
  have driven : s.generator.mode ≠ .decel ∧ s.generator.mode ≠ .fallback := by
    obtain mode | mode := speed <;> simp [mode]
  unfold leaderDue State.tapePos Config.leaderSteps
  rw [began]
  simp [leader, near, driven, free]

theorem countEndsTheLeader {d : Direction} {s : State} {l : Int} (plain : NoMarkerAt d s) (unloads : s.sequencer.transport = .unloading)
    (leader : s.sequencer.phase = some .leader) (began : s.sequencer.leaderStart = some l) (free : s.sequencer.fixed = none)
    (speed : s.generator.mode = .accel ∨ s.generator.mode = .cruise)
    (near : s.servos.t + stepOf d ≤ l - 40000 + s.distance .creepStop) :
    ∃ t, exec (.encoderCount d) s = .next t ∧ Counted d s t ∧ t.sequencer = s.sequencer ∧ t.generator.mode = .decel ∧
      (∃ r, t.generator.run = some r ∧ r.chain = .creepStop ∧ r.toCreep = false) ∧ t.generator.v = s.generator.v ∧
      t.tracker = s.tracker ∧ t.intake = s.intake := by
  have noStep : (counted d s).rewindStep = none := by
    unfold State.rewindStep
    rw [show (counted d s).sequencer = s.sequencer from rfl, unloads, leader]
  have still : s.sequencer.transport.moves = false := by
    rw [unloads]
    rfl
  have due : positionEvent (counted d s) = some (stopRequest .creepStop (counted d s)) := by
    rw [positionEvent_still (s := counted d s) still, rewindNear_none_iff.mpr (by rw [noStep]; simp), rewindLimit_none_iff.mpr (by rw [noStep]; simp),
      leaderDue_of (s := counted d s) leader began near speed free]
    rfl
  have slows := stopRequest_slows (s := counted d s) .creepStop speed
  generalize stopRequest .creepStop (counted d s) = u at *
  obtain ⟨⟨run, working, reload, generator, chain, toCreep, -⟩, -, tracker, sequencer, servos, links, sensors, intake, loader, -, signals⟩ := slows
  have sequencerU : u.sequencer = s.sequencer := sequencer
  have quiet : Quiet u := by
    refine quiet_iff.mpr ⟨signals.trans plain.signals, ?_, settlementDue_of_none (by rw [generator]; exact plain.settled),
      handOverDue_of_running (by rw [show u.intake = s.intake from intake]; exact plain.order)⟩
    have noStepU : u.rewindStep = none := by
      unfold State.rewindStep
      rw [sequencerU, unloads, leader]
    have slowing : u.generator.mode = .decel := by rw [generator]
    rw [positionEvent_still (by rw [sequencerU]; exact still), rewindNear_none_iff.mpr (by rw [noStepU]; simp),
      rewindLimit_none_iff.mpr (by rw [noStepU]; simp), leaderDue_none_iff.mpr fun _ _ _ notSlowing => absurd slowing notSlowing]
    rfl
  refine ⟨_, encoderCount_reaches plain (by rw [unloads]; decide) due quiet, ?_⟩
  obtain ⟨trackerT, sequencerT, generatorT, servosT, linksT, sensorsT, intakeT, loaderT, -⟩ := arbitrate_keeps u
  refine ⟨⟨servosT.trans servos, sensorsT.trans sensors, linksT.trans links, loaderT.trans loader⟩, sequencerT.trans sequencerU, ?_,
    ⟨run, ?_, chain, toCreep⟩, ?_, trackerT.trans tracker, intakeT.trans intake⟩
  · rw [generatorT, generator]
  · rw [generatorT, generator]
  · rw [generatorT, generator]
    rfl

/-- Settles O19. -/
theorem countsReachTheApproachPoints : Obligations.CountsReachTheApproachPoints := by
  refine ⟨?move, ?rewind, ?leader⟩
  case move =>
    intro d s q motion idle aim within
    refine countEndsTheMove motion idle aim ?_
    have moves : (counted d s).movingAs d .reposition = true := by
      unfold State.movingAs
      simp [motion.moving.underway, motion.moving.dir, motion.moving.purpose]
    cases d with
    | backward => exact .inl ⟨moves, within⟩
    | forward => exact .inr ⟨moves, within⟩
  case rewind =>
    exact fun d s step plain rewinds goes free drive =>
      ⟨fun fast speed near => countSlowsTheRewind plain rewinds goes free drive fast speed near,
        fun creep speed past nothing => countEndsTheRewind plain rewinds goes free creep speed past nothing⟩
  case leader =>
    exact fun d s l plain unloads leader began free speed near => countEndsTheLeader plain unloads leader began free speed near

end Sys2Proof.Machine
end

section
/-! Servo samples: the generator's work, the converter, the drive laws and the counts (R57, R58, R68 to R71, R83 to R89, R95 to R98). -/

namespace Sys2Proof.Machine

/-! ### The generator's work without a report -/

theorem outstanding_urgeFetch (f : OwnAccess → Bool) (s : State) : outstanding f (urgeFetch s) = outstanding f s := by
  have same (c : OwnClaim) : f (if c.access.isFetch then { c with urgent := true } else c).access = f c.access := by
    split <;> rfl
  unfold outstanding urgeFetch
  simp only [onPath_path, List.any_map]
  refine congrArg (· || _) (congrArg (List.any s.path.claims) ?_)
  funext c
  exact same c

theorem outstanding_refreshUrgency (f : OwnAccess → Bool) (s : State) : outstanding f (refreshUrgency s) = outstanding f s := by
  unfold refreshUrgency
  dsimp only
  split <;> split
  · exact outstanding_urgeFetch f s
  · exact rfl
  · exact outstanding_urgeFetch f s
  · exact rfl

theorem fetching_refreshUrgency (s : State) : fetching (refreshUrgency s) = fetching s := by
  unfold fetching
  rw [outstanding_refreshUrgency, (refreshUrgency_keeps s).2.2.1]

/-- The generator's work of a sample that reports nothing and begins or ends no motion. -/
structure Works (s u : State) : Prop where
  sequencer : u.sequencer = s.sequencer
  tracker : u.tracker = s.tracker
  servos : u.servos = s.servos
  links : u.links = s.links
  sensors : u.sensors = s.sensors
  intake : u.intake = s.intake
  loader : u.loader = s.loader
  signals : u.signals = s.signals
  slowing : s.generator.mode = .decel ∨ s.generator.mode = .fallback → u.generator.mode = .decel ∨ u.generator.mode = .fallback
  active : u.generator.active = s.generator.active
  charact : u.generator.charact = s.generator.charact
  loadSet : u.generator.loadSet = s.generator.loadSet
  upper : u.path.upper = s.path.upper
  sweep : u.path.sweep = s.path.sweep
  fetching : fetching s = true → fetching u = true

theorem Works.quiet {s u : State} (works : Works s u) (quiet : Quiet s) : Quiet u := by
  refine quiet_of_samePlace quiet ⟨works.sequencer, works.slowing, works.active, by rw [works.servos], by rw [works.loader],
    order_congr works.intake, holding_congr works.upper⟩ works.signals (fun none => ?_)
    fun none => handOverDue_none_of none works.intake (by rw [works.sweep])
  refine settlementDue_none_of none works.loadSet fun p settles => ?_
  unfold canSettle at settles ⊢
  rw [works.charact] at settles
  simp only [Bool.and_eq_true, Bool.or_eq_true, Bool.not_eq_true'] at settles ⊢
  refine ⟨settles.1, settles.2.imp id fun idle => ?_⟩
  rw [Bool.eq_false_iff]
  intro fetches
  rw [works.fetching fetches] at idle
  cases idle

/-- After the generator's work a sample closes the interval, sends the commands and takes its counts. -/
def sampleEnded (vacuum : Bool) (g : State) : State := takeWindow (takeTracking (sendCommands vacuum (closeInterval g)))

/-- A calm sample whose generator reports nothing. -/
theorem servoSample_works (b : Bool) {s : State} (works : Works s (generatorSample s)) (quiet : Quiet s) (calm : Calm (sampleCounts s)) :
    servoSample b s = arbitrate (sampleEnded s.sequencer.vacuumRequest (generatorSample s)) := by
  obtain ⟨sample, counts⟩ := servoSample_of_calm b (works.quiet quiet) calm
  exact sample.trans (congrArg arbitrate counts)

/-! ### Converter, commands and counts (R83 to R89, R95 to R98) -/

theorem windowCount_eq (armed : Bool) (g : GroupC) (c : ColumnRecord) : windowCount armed g c =
    { c with
      outside := if armed then (if c.x < g.xLo ∨ g.xHi < c.x then c.outside + 1 else 0) else c.outside
      cut := if c.x < g.xLo ∨ g.xHi < c.x then c.cut.map (· + 1) else none } := by
  have outside : outsideWindow g c.x = decide (c.x < g.xLo ∨ g.xHi < c.x) := by simp [outsideWindow, Bool.decide_or]
  have cut : cutCount g c = if c.x < g.xLo ∨ g.xHi < c.x then c.cut.map (· + 1) else none := by
    unfold cutCount
    rw [outside]
    cases c.cut <;> simp
  unfold windowCount
  rw [cut, outside]
  simp

theorem sampleEnded_sensors (v : Bool) (g : State) : (sampleEnded v g).sensors = { g.sensors with
    supply := windowCount g.sensors.windowArmed g.loader.groupC (closeColumn g.sensors.intervalN g.sensors.supply)
    takeup := windowCount g.sensors.windowArmed g.loader.groupC (closeColumn g.sensors.intervalN g.sensors.takeup)
    taken := 0
    intervalN := g.loader.groupB.conversions } := rfl

theorem sampleEnded_servos (v : Bool) (g : State) : (sampleEnded v g).servos = { g.servos with tracking := trackingCount g } := rfl

theorem sampleEnded_links (v : Bool) (g : State) : (sampleEnded v g).links = driveCommands v (closeInterval g) := rfl

/-- The capstan and the reels are driven by their laws in LOOP_HOLD and FOLLOW. -/
theorem driveCommands_tracks {s : State} (v : Bool) (driven : s.servos.driveMode.tracks = true) : driveCommands v s =
    { capstan := capstanLaw s.loader.groupB.kp s.loader.groupB.kv s.trackingError (signedV s.generator.v s.generator.dir)
      supply := reelLaw s.loader.groupB .supply s.generator.dir s.generator.v s.sensors.supply.x s.servos.supply.w
      takeup := reelLaw s.loader.groupB .takeup s.generator.dir s.generator.v s.sensors.takeup.x s.servos.takeup.w
      vacuum := v } := by
  unfold driveCommands
  cases mode : s.servos.driveMode
  case loopHold | follow => rfl
  case off | wind => exact absurd driven (by rw [mode]; decide)

/-! ### In HOLD (R58) -/

theorem refreshUrgency_still {s : State} (hold : s.generator.mode = .hold) (idle : s.generator.working = none) : refreshUrgency s = s := by
  have onTime : s.generator.isLate = false := by simp [Generator.isLate, hold]
  unfold refreshUrgency
  simp [idle, onTime]

theorem fetching_hold {s : State} (hold : s.generator.mode = .hold) : fetching (generatorSample s) = fetching s := by
  have steps : stepV s = s := by
    unfold stepV
    rw [hold]
  have generator := generatorSample_hold hold
  have access : outstanding OwnAccess.isFetch (generatorSample s) = outstanding OwnAccess.isFetch s := by
    unfold generatorSample
    rw [outstanding_refreshUrgency, steps]
    refine outstanding_congr _ ?_ ?_ <;> unfold followTape <;> split <;> rfl
  unfold fetching
  rw [access, generator]

theorem works_hold {s : State} (hold : s.generator.mode = .hold) : Works s (generatorSample s) := by
  obtain ⟨tracker, sequencer, servos, links, sensors, intake, loader, -, signals, upper, sweep⟩ := generatorSample_hold_keeps hold
  have generator := generatorSample_hold hold
  exact {
    sequencer, tracker, servos, links, sensors, intake, loader, signals, upper, sweep
    slowing := fun slows => by rw [generator]; exact slows
    active := by rw [generator]
    charact := by rw [generator]
    loadSet := by rw [generator]
    fetching := fun fetches => (fetching_hold hold).trans fetches }

theorem generatorSample_hold_path {s : State} (hold : s.generator.mode = .hold) (idle : s.generator.working = none) :
    (generatorSample s).path = s.path := by
  have steps : stepV s = s := by
    unfold stepV
    rw [hold]
  have same : (followTape (advanceP s)).generator.mode = .hold ∧ (followTape (advanceP s)).generator.working = none := by
    unfold followTape
    split <;> simp [advanceP_generator, hold, idle]
  unfold generatorSample
  rw [steps, refreshUrgency_still same.1 same.2]
  unfold followTape
  split <;> rfl

/-- Settles O6. -/
theorem servoSampleInHold : Obligations.ServoSampleInHold := by
  intro b s hold quiet calm
  have works := works_hold hold
  have generator := generatorSample_hold hold
  have sample := servoSample_works b works quiet calm
  have path := generatorSample_hold_path hold
  have reporter : (generatorSample s).reporter = s.reporter := (generatorSample_hold_keeps hold).2.2.2.2.2.2.2.1
  generalize generatorSample s = g at *
  obtain ⟨sequencer, tracker, servos, links, sensors, intake, loader, -⟩ := works
  refine ⟨_, congrArg Host.Outcome.next sample, ?_⟩
  simp only [arbitrate_keeps]
  refine ⟨generator, ?_, ?_, ?_, tracker, sequencer, intake, loader, reporter, ?_⟩
  · rw [sampleEnded_sensors, sensors, loader, windowCount_eq, windowCount_eq]
    rfl
  · rw [sampleEnded_links]
    cases mode : s.servos.driveMode
    case off =>
      unfold driveCommands
      rw [show (closeInterval g).servos = s.servos from servos, mode]
    case wind =>
      unfold driveCommands
      rw [show (closeInterval g).servos = s.servos from servos, mode]
      rfl
    all_goals
      rw [mode] at generator
      rw [driveCommands_tracks _ (by rw [show (closeInterval g).servos = s.servos from servos, mode]; rfl)]
      unfold State.trackingError
      rw [show (closeInterval g).servos = s.servos from servos, show (closeInterval g).loader = s.loader from loader,
        show (closeInterval g).generator = _ from generator]
      unfold closeInterval
      rw [onSensors_sensors, sensors]
      rfl
  · rw [sampleEnded_servos]
    unfold trackingCount State.trackingError State.groupB
    rw [servos, generator, loader]
    refine congrArg (fun n => { s.servos with tracking := n }) ?_
    cases mode : s.servos.driveMode <;> rfl
  · intro busy idle
    obtain ⟨x, there⟩ := Option.isSome_iff_exists.mp busy
    have same : (sampleEnded s.sequencer.vacuumRequest g).path = s.path := path idle
    rw [arbitrate_of_busy (x := x) (by rw [same]; exact there), same]

end Sys2Proof.Machine
end

section
/-! Servo samples of running chains: within a segment, at its end, and at the late limit (R57, R69, R71, R72). -/

namespace Sys2Proof.Machine

/-! ### The step of V (R68, R69) -/

theorem stepV_segment {s : State} {r : RunningChain} {w : Segment} (moves : s.generator.mode = .accel ∨ s.generator.mode = .decel)
    (run : s.generator.run = some r) (working : s.generator.working = some w) (noTrim : r.trim = false) :
    stepV s = segmentSample r w s := by
  unfold stepV
  obtain mode | mode := moves <;> simp only [mode, run, working, noTrim] <;> rfl

/-- A sample of a start chain's segment before its last sample. -/
theorem segmentSample_within {s : State} {r : RunningChain} {w : Segment} (starts : r.chain.isStart = true) (away : r.toCreep = false)
    (more : 1 < w.duration) :
    segmentSample r w s =
      (setV ((s.generator.v : Int) + w.slope) s).onGenerator fun g => { g with working := some { w with duration := w.duration - 1 } } := by
  have left : ¬(w.duration - 1 = 0) := by omega
  unfold segmentSample
  simp [starts, away, left]

/-- The last sample of a start chain's segment of the store, with the next at hand. -/
theorem segmentSample_next {s : State} {r : RunningChain} {w : Segment} {q : Reload} (starts : r.chain.isStart = true)
    (away : r.toCreep = false) (stored : r.builtIn = false) (few : r.segments < 32) (notLast : w.last = false) (ends : w.duration ≤ 1)
    (atHand : s.generator.reload = some q) :
    segmentSample r w s = beginSegment q.segment (setV ((s.generator.v : Int) + w.slope) s) := by
  have left : w.duration - 1 = 0 := by omega
  have goesOn : (w.last || decide (Config.maxSegments ≤ r.segments)) = false := by
    have room : ¬Config.maxSegments ≤ r.segments := by
      show ¬32 ≤ r.segments
      omega
    simp [notLast, room]
  have reload : (setV ((s.generator.v : Int) + w.slope) s).generator.reload = some q := by rw [setV_generator]; exact atHand
  unfold segmentSample
  simp only [starts, away, stored, left, Bool.not_true, Bool.false_and, Bool.false_eq_true, if_false, if_true]
  unfold segmentOver
  rw [goesOn, if_neg (by decide), reload]

/-- The generator has a chain that fetches. -/
def Generator.fetches (g : Generator) : Bool :=
  (decide (g.mode ≠ .hold) || g.run.isSome) && (g.active.source.isSome || g.run.any fun r => !r.builtIn)

theorem fetching_eq (s : State) : fetching s = (outstanding OwnAccess.isFetch s || s.generator.fetches) := rfl

theorem fetches_congr {a b : Generator} (mode : b.mode = a.mode) (run : b.run = a.run) (active : b.active = a.active) :
    b.fetches = a.fetches := by
  unfold Generator.fetches
  rw [mode, run, active]

/-- What the generator's work leaves when the step of V reports nothing and stays in a chain. -/
theorem works_of_stepV {s : State} (moves : (stepV s).generator.mode ≠ .hold) (works : Works s (stepV s)) :
    Works s (generatorSample s) ∧
    (generatorSample s).generator =
      { (stepV s).generator with p := (stepV s).generator.p + signedV (stepV s).generator.v (stepV s).generator.dir } := by
  rw [generatorSample_moving s moves]
  obtain ⟨sequencer, tracker, servos, links, sensors, intake, loader, signals, slowing, active, charact, loadSet, upper, sweep, fetches⟩ := works
  have generator : (refreshUrgency (advanceP (stepV s))).generator =
      { (stepV s).generator with p := (stepV s).generator.p + signedV (stepV s).generator.v (stepV s).generator.dir } := by
    rw [(refreshUrgency_keeps _).2.2.1, advanceP_generator]
  refine ⟨?_, generator⟩
  constructor
  case slowing => rw [generator]; exact slowing
  case active => rw [generator]; exact active
  case charact => rw [generator]; exact charact
  case loadSet => rw [generator]; exact loadSet
  case upper => rw [(refreshUrgency_ports _).1]; exact upper
  case sweep => rw [(refreshUrgency_ports _).2]; exact sweep
  case fetching =>
    intro busy
    have before := fetches busy
    have access : outstanding OwnAccess.isFetch (advanceP (stepV s)) = outstanding OwnAccess.isFetch (stepV s) := outstanding_congr _ rfl rfl
    rw [fetching_refreshUrgency]
    rw [fetching_eq] at before ⊢
    rw [access, advanceP_generator]
    exact before
  all_goals simp only [refreshUrgency_keeps]
  · exact sequencer
  · exact tracker
  · exact servos
  · exact links
  · exact sensors
  · exact intake
  · exact loader
  · exact signals

theorem works_setV {s : State} (v : Int) (f : Generator → Generator)
    (kept : ∀ g : Generator, (f g).mode = g.mode ∧ (f g).run = g.run ∧ (f g).active = g.active ∧ (f g).charact = g.charact ∧
      (f g).loadSet = g.loadSet) : Works s ((setV v s).onGenerator f) := by
  obtain ⟨mode, run, active, charact, loadSet⟩ := kept (setV v s).generator
  obtain ⟨path, loader, intake, sequencer, tracker, servos, signals⟩ := setV_others v s
  have links : (setV v s).links = s.links := by simp
  have sensors : (setV v s).sensors = s.sensors := by simp
  constructor
  case slowing =>
    rw [onGenerator_generator, mode, setV_generator]
    exact id
  case active => rw [onGenerator_generator, active, setV_generator]
  case charact => rw [onGenerator_generator, charact, setV_generator]
  case loadSet => rw [onGenerator_generator, loadSet, setV_generator]
  case upper => rw [onGenerator_path, path]
  case sweep => rw [onGenerator_path, path]
  case fetching =>
    intro busy
    have access : outstanding OwnAccess.isFetch ((setV v s).onGenerator f) = outstanding OwnAccess.isFetch s :=
      outstanding_congr _ (congrArg Path.claims path) (congrArg Path.port path)
    have same : ((setV v s).onGenerator f).generator.fetches = s.generator.fetches :=
      fetches_congr (mode.trans (by rw [setV_generator])) (run.trans (by rw [setV_generator])) (active.trans (by rw [setV_generator]))
    rw [fetching_eq] at busy ⊢
    rw [access, same]
    exact busy
  all_goals assumption

theorem outstanding_beginSegment {f : OwnAccess → Bool} (w : Segment) {s : State} (wanted : outstanding f s = true) :
    outstanding f (beginSegment w s) = true := by
  unfold beginSegment
  dsimp only
  split
  · exact wanted
  · unfold claimFetch makeClaim
    unfold outstanding at wanted ⊢
    simp only [onPath_path, onGenerator_path, List.any_append]
    simp only [Bool.or_eq_true] at wanted ⊢
    exact wanted.imp .inl id

theorem works_beginSegment {s : State} (v : Int) (w : Segment) : Works s (beginSegment w (setV v s)) := by
  obtain ⟨sequencer, tracker, servos, links, sensors, intake, loader, signals, slowing, active, charact, loadSet, upper, sweep, fetches⟩ :=
    works_setV (s := s) v id fun g => ⟨rfl, rfl, rfl, rfl, rfl⟩
  obtain ⟨generator, upperB, sweepB⟩ := beginSegment_spec w (setV v s)
  constructor
  case slowing => rw [generator]; exact slowing
  case active => rw [generator]; exact active
  case charact => rw [generator]; exact charact
  case loadSet => rw [generator]; exact loadSet
  case upper => exact upperB.trans upper
  case sweep => exact sweepB.trans sweep
  case fetching =>
    intro busy
    have before := fetches busy
    have same : (beginSegment w (setV v s)).generator.fetches = (setV v s).generator.fetches := by
      rw [generator]
      unfold Generator.fetches
      cases (setV v s).generator.run <;> rfl
    rw [fetching_eq, Bool.or_eq_true] at before ⊢
    exact before.imp (outstanding_beginSegment w) same.trans
  all_goals simp only [beginSegment_keeps]
  · exact sequencer
  · exact tracker
  · exact servos
  · exact links
  · exact sensors
  · exact intake
  · exact loader
  · exact signals

/-- Settles O7. -/
theorem servoSamplesFollowTheSegments : Obligations.ServoSamplesFollowTheSegments := by
  refine ⟨?within, ?expiry⟩
  case within =>
    intro b s r w mode run working starts away noTrim more quiet calm
    have step := (stepV_segment (.inl mode) run working noTrim).trans (segmentSample_within starts away more)
    have generator : (stepV s).generator = { s.generator with
        v := (clampInt 0 12800 ((s.generator.v : Int) + w.slope)).toNat, working := some { w with duration := w.duration - 1 } } := by
      rw [step, onGenerator_generator, setV_generator]
    obtain ⟨works, generatorG⟩ := works_of_stepV (s := s) (by rw [generator]; simp [mode]) (by
      rw [step]
      exact works_setV _ _ fun g => ⟨rfl, rfl, rfl, rfl, rfl⟩)
    have sample := servoSample_works b works quiet calm
    rw [generator] at generatorG
    generalize generatorSample s = g at *
    obtain ⟨sequencer, tracker, servos, links, sensors, intake, loader, -⟩ := works
    refine ⟨_, congrArg Host.Outcome.next sample, ?_⟩
    simp only [arbitrate_keeps]
    have generatorT : (sampleEnded s.sequencer.vacuumRequest g).generator = _ := generatorG
    have tape : g.servos.t = s.servos.t := by rw [servos]
    rw [generatorT]
    exact ⟨rfl, rfl, mode, run, rfl, tracker, sequencer, intake, loader, tape⟩
  case expiry =>
    intro s r w q mode run working starts away noTrim stored few notLast ends atHand quiet calm
    have step := (stepV_segment (.inl mode) run working noTrim).trans
      (segmentSample_next starts away stored few notLast ends atHand)
    have generator : (stepV s).generator = { s.generator with
        v := (clampInt 0 12800 ((s.generator.v : Int) + w.slope)).toNat, working := some q.segment, reload := none,
        run := some { r with segments := r.segments + 1, lateRaised := false } } := by
      rw [step, (beginSegment_spec _ _).1, setV_generator]
      simp [run]
    obtain ⟨works, generatorG⟩ := works_of_stepV (s := s) (by rw [generator]; simp [mode]) (by
      rw [step]
      exact works_beginSegment _ _)
    have sample := servoSample_works false works quiet calm
    have due : durationDue s = true := by
      unfold durationDue
      simp [mode, run, working, noTrim, ends]
    rw [generator] at generatorG
    generalize generatorSample s = g at *
    obtain ⟨sequencer, tracker, servos, links, sensors, intake, loader, -⟩ := works
    have command : exec (.servoSample false) s = .next (arbitrate (sampleEnded s.sequencer.vacuumRequest g)) :=
      congrArg Host.Outcome.next sample
    refine ⟨_, (congrArg Host.Outcome.next (doIf_true due _ _)).trans command, command, ?_⟩
    simp only [arbitrate_keeps]
    have generatorT : (sampleEnded s.sequencer.vacuumRequest g).generator = _ := generatorG
    have tape : g.servos.t = s.servos.t := by rw [servos]
    rw [generatorT]
    exact ⟨rfl, mode, rfl, rfl, rfl, tracker, sequencer, intake, loader, tape⟩

end Sys2Proof.Machine
end

section
/-! Servo samples at which the sequencer is told something: the late limit, the tracking and column faults, the settle count
(R71, R72, R84, R91, R98, R131). -/

namespace Sys2Proof.Machine

/-- A calm sample whose event runs to rest in a state. -/
theorem servoSample_of_react (b : Bool) {s u : State} (ends : react reactFuel (generatorSample s) = u) (quiet : Quiet u)
    (calm : Calm (sampleCounts s)) : servoSample b s = arbitrate (sampleEnded s.sequencer.vacuumRequest u) := by
  have view := sampleCounts_view s
  rw [ends] at view
  have counts : sampleCounts s = sampleEnded s.sequencer.vacuumRequest u := by
    unfold sampleCounts
    rw [ends]
    rfl
  unfold servoSample
  rw [sampleFaults_of_calm b calm, settleTest_of_calm calm, finishEvent_of_quiet (quiet_of_sameView view quiet), counts]

/-! ### The late limit (R71, R72) -/

/-- The eighth late sample of a chain: what it leaves. -/
structure LateAbandoned (r : RunningChain) (s u : State) : Prop where
  generator : u.generator = { s.generator with
    run := none, working := none, reload := none, mode := .fallback, fallSlope := (s.generator.v + 15) / 16 }
  signals : u.signals = s.signals ++ [.profileFault (!r.chain.isStart && !r.toCreep)]
  upper : u.path.upper = s.path.upper
  sweep : u.path.sweep = s.path.sweep
  sequencer : u.sequencer = s.sequencer
  tracker : u.tracker = s.tracker
  servos : u.servos = s.servos
  intake : u.intake = s.intake
  loader : u.loader = s.loader
  told : u.reporter.pendingClasses.getLsbD 3 = true

/-- PROFILE_LATE is told once until the next segment. -/
def lateTold (r : RunningChain) (e : Event) (s : State) : State :=
  let counted := s.onGenerator fun g => { g with run := some { r with late := r.late + 1, lateRaised := true } }
  if r.lateRaised then counted else raise e counted

theorem lateTold_keeps (r : RunningChain) (e : Event) (s : State) :
    (lateTold r e s).generator = { s.generator with run := some { r with late := r.late + 1, lateRaised := true } } ∧
    (lateTold r e s).signals = s.signals ∧ (lateTold r e s).path = s.path ∧ (lateTold r e s).sequencer = s.sequencer ∧
    (lateTold r e s).tracker = s.tracker ∧ (lateTold r e s).servos = s.servos ∧ (lateTold r e s).intake = s.intake ∧
    (lateTold r e s).loader = s.loader := by
  unfold lateTold
  dsimp only
  split <;> simp

theorem lateSample_last {r : RunningChain} {s : State} (seven : r.late = 7) : ∃ e e' : Event, e'.name = .profileLate ∧
    lateSample r s = abandonChain (raise e' (lateTold r e s)) := by
  refine ⟨_, _, ?_, if_pos ?_⟩
  · rfl
  · show 8 ≤ r.late + 1
    omega

theorem lateSample_abandons {r : RunningChain} {s : State} (seven : r.late = 7) (moves : s.generator.v ≠ 0) :
    LateAbandoned r s (lateSample r s) := by
  obtain ⟨e, e', name, last⟩ := lateSample_last (r := r) (s := s) seven
  obtain ⟨generator, signals, path, sequencer, tracker, servos, intake, loader⟩ := lateTold_keeps r e s
  rw [last]
  generalize lateTold r e s = y at *
  have generatorR : (raise e' y).generator = { s.generator with run := some { r with late := r.late + 1, lateRaised := true } } :=
    (raise_keeps _ _).2.2.1.trans generator
  obtain ⟨generatorU, signalsU, upperU, sweepU, reporterU, servosU⟩ := abandonChain_spec (s := raise e' y)
    (r := { r with late := r.late + 1, lateRaised := true }) (by rw [generatorR]; exact moves) (by rw [generatorR])
  constructor
  case generator => rw [generatorU, generatorR]
  case signals => rw [signalsU, (raise_keeps _ _).2.2.2.2.2.2.2.2.2.1, signals]
  case upper => rw [upperU, ← path]; simp
  case sweep => rw [sweepU, ← path]; simp
  case told =>
    rw [reporterU]
    have told := raise_makes_pending e' y
    rw [name] at told
    exact told
  case servos => rw [servosU, ← servos]; simp
  all_goals simp only [abandonChain_keeps, raise_keeps]
  all_goals assumption

theorem stepV_late {s : State} {r : RunningChain} (moves : s.generator.mode = .accel ∨ s.generator.mode = .decel)
    (run : s.generator.run = some r) (working : s.generator.working = none) (reload : s.generator.reload = none) (noTrim : r.trim = false) :
    stepV s = lateSample r s := by
  unfold stepV
  obtain mode | mode := moves <;> simp only [mode, run, working, reload, noTrim] <;> rfl

/-- Settles O8. -/
theorem lateCountLimitFallsBack : Obligations.LateCountLimitFallsBack := by
  intro s r mode run working reload stops away noTrim seven above bounded stopping quiet calm
  have late := lateSample_abandons (s := s) seven (by omega)
  rw [← stepV_late (.inr mode) run working reload noTrim] at late
  have moving := generatorSample_moving s (by rw [late.generator]; simp)
  obtain ⟨noSignal, nothing, -, noHandOver⟩ := quiet_iff_nothingDue.mp quiet
  have generatorG : (generatorSample s).generator = { (stepV s).generator with
      p := (stepV s).generator.p + signedV (stepV s).generator.v (stepV s).generator.dir } := by
    rw [moving, (refreshUrgency_keeps _).2.2.1, advanceP_generator]
  have reporterG : (generatorSample s).reporter = (stepV s).reporter := by rw [moving, (refreshUrgency_keeps _).2.2.2.2.2.2.2.2.1]; rfl
  have signalsG : (generatorSample s).signals = [.profileFault true] := by
    rw [moving, (refreshUrgency_keeps _).2.2.2.2.2.2.2.2.2.1]
    show (stepV s).signals = _
    rw [late.signals, noSignal, stops, away]
    rfl
  have keptG : (generatorSample s).sequencer = s.sequencer ∧ (generatorSample s).tracker = s.tracker ∧
      (generatorSample s).servos = s.servos ∧ (generatorSample s).intake = s.intake ∧ (generatorSample s).loader = s.loader ∧
      (generatorSample s).path.upper = s.path.upper ∧ (generatorSample s).path.sweep = s.path.sweep := by
    rw [moving]
    simp only [refreshUrgency_keeps, refreshUrgency_ports]
    exact ⟨late.sequencer, late.tracker, late.servos, late.intake, late.loader, late.upper, late.sweep⟩
  have lateG : lateDue s = true := by
    unfold lateDue Generator.isLate
    simp only [mode, run, working, reload, noTrim, seven]
    rfl
  have told : (generatorSample s).reporter.pendingClasses.getLsbD 3 = true := by rw [reporterG]; exact late.told
  rw [late.generator] at generatorG
  generalize hg : generatorSample s = g at generatorG signalsG keptG told
  obtain ⟨sequencer, tracker, servos, intake, loader, upper, sweep⟩ := keptG
  -- PROFILE_FAULT in STOPPING changes nothing: the fallback stop goes on
  have reported : reactOnce g = some (g.setSignals []) := by
    unfold reactOnce
    rw [signalsG]
    show some (profileFaulted true (g.setSignals [])) = _
    unfold profileFaulted
    rw [show (g.setSignals []).sequencer = s.sequencer from sequencer, stopping]
  have nothingG : NothingDue (g.setSignals []) := nothing.of_samePlace ⟨sequencer,
    fun _ => .inr (by rw [show (g.setSignals []).generator = _ from generatorG]), by rw [show (g.setSignals []).generator = _ from generatorG],
    congrArg (fun x : Servos => x.t) servos, congrArg (fun x : Loader => x.groupB) loader, order_congr intake, holding_congr upper⟩
  have still (u : State) (settles : Settles (g.setSignals []) u) : positionEvent u = none := by
    obtain ⟨l, sequencerU⟩ := settles.sequencer
    rw [show (g.setSignals []).sequencer = s.sequencer from sequencer] at sequencerU
    have servosU : u.servos = s.servos := settles.servos.trans servos
    have loaderU : u.loader = s.loader := settles.loader.trans loader
    refine positionEvent_none_iff_nothingDue.mpr (nothingDue_of_stopping (by rw [sequencerU]; exact stopping) ?_ ?_ ?_)
    · rw [sequencerU, servosU]
      exact fun i d rest listed dir => nothing.decision i d rest listed (by rw [stopping]; rfl) dir
    · unfold State.beyondEot State.tapePos State.groupB
      rw [order_congr (settles.intake.trans intake), sequencerU, servosU, loaderU]
      exact fun order held => nothing.eot order held (by rw [stopping]; rfl)
    · obtain ⟨a, c, generatorU⟩ := settles.generator
      exact .inr (by rw [generatorU, show (g.setSignals []).generator = _ from generatorG])
  obtain ⟨u, ends, quietU, settles⟩ := react_settling (s := g.setSignals []) rfl (positionEvent_none_iff_nothingDue.mpr nothingG)
    (handOverDue_none_of noHandOver intake (by rw [show (g.setSignals []).path = g.path from rfl, sweep]))
    (.inl (by rw [show (g.setSignals []).sequencer = s.sequencer from sequencer, stopping]; decide))
    (.inr (by rw [show (g.setSignals []).generator = _ from generatorG]; simp)) still
  have toRest : react reactFuel (generatorSample s) = u := by
    rw [hg, show reactFuel = 63 + 1 from rfl, react_succ _ reported]
    exact ends 61
  have command : exec (.servoSample false) s = .next (arbitrate (sampleEnded s.sequencer.vacuumRequest u)) :=
    congrArg Host.Outcome.next (servoSample_of_react false toRest quietU calm)
  refine ⟨_, (congrArg Host.Outcome.next (doIf_true lateG _ _)).trans command, command, ?_⟩
  simp only [arbitrate_keeps]
  obtain ⟨a, c, ls, generatorU⟩ := settles.generator
  obtain ⟨l, sequencerU⟩ := settles.sequencer
  have generatorT : (sampleEnded s.sequencer.vacuumRequest u).generator = _ :=
    generatorU.trans (by rw [show (g.setSignals []).generator = _ from generatorG])
  have sequencerT : (sampleEnded s.sequencer.vacuumRequest u).sequencer = _ :=
    sequencerU.trans (by rw [show (g.setSignals []).sequencer = _ from sequencer])
  have tape : u.servos.t = s.servos.t := by rw [settles.servos, show (g.setSignals []).servos = s.servos from servos]
  rw [generatorT, sequencerT]
  exact ⟨rfl, rfl, rfl, rfl, settles.classes 3 told, stopping, settles.tracker.trans tracker, tape, settles.intake.trans intake,
    settles.loader.trans loader⟩

/-! ### Tracking and column faults (R84, R91, R98) -/

/-- What an emergency stop is known by stands. -/
structure EmergencyStands (m v : State) : Prop where
  intake : v.intake = m.intake
  transport : v.sequencer.transport = m.sequencer.transport
  trusted : v.sequencer.trusted = m.sequencer.trusted
  servos : v.servos = m.servos
  speed : v.generator.v = m.generator.v
  mode : v.generator.mode = m.generator.mode
  dir : v.generator.dir = m.generator.dir
  window : v.sensors.windowArmed = m.sensors.windowArmed
  links : v.links = m.links
  loader : v.loader = m.loader
  classes : ∀ c : Nat, m.reporter.pendingClasses.getLsbD c = true → v.reporter.pendingClasses.getLsbD c = true

theorem EmergencyMade.stands {a m v : State} (made : EmergencyMade a m) (stands : EmergencyStands m v) : EmergencyMade a v := by
  obtain ⟨intake, transport, trusted, servos, speed, mode, dir, window, links, loader, classes⟩ := stands
  obtain ⟨⟨running, result, suspended⟩, transportM, trustedM, driveM, brakeM, vM, modeM, dirM, windowM, tapeM, noticeM, queueM, linksM,
    loaderM⟩ := made
  refine ⟨⟨?_, ?_, ?_⟩, transport.trans transportM, trusted.trans trustedM, ?_, ?_, speed.trans vM, mode.trans modeM, dir.trans dirM,
    window.trans windowM, ?_, classes 0 noticeM, ?_, links.trans linksM, loader.trans loaderM⟩
  · rw [intake]; exact running
  · rw [intake]; exact result
  · rw [intake]; exact suspended
  · rw [servos]; exact driveM
  · rw [servos]; exact brakeM
  · rw [servos]; exact tapeM
  · rw [intake]; exact queueM

/-- The event that goes before the stop is no part of it. -/
theorem EmergencyMade.ofRaised {e : Event} {a m : State} (made : EmergencyMade (raise e a) m) : EmergencyMade a m := by
  obtain ⟨⟨running, result, suspended⟩, transport, trusted, drive, brake, v, mode, dir, window, tape, notice, queue, links, loader⟩ := made
  simp only [raise_keeps] at result suspended tape queue links loader
  exact ⟨⟨running, result, suspended⟩, transport, trusted, drive, brake, v, mode, dir, window, tape, notice, queue, links, loader⟩

theorem MaySettle.emergencyStands {m v : State} (settles : MaySettle m v) : EmergencyStands m v := by
  obtain ⟨-, servos, links, sensors, intake, loader, ⟨l, sequencer⟩, ⟨a, c, ls, generator⟩, -, classes, -⟩ := settles
  exact ⟨intake, by rw [sequencer], by rw [sequencer], servos, by rw [generator], by rw [generator], by rw [generator], by rw [sensors],
    links, loader, classes⟩

theorem emergencyStands_arbitrate (m : State) : EmergencyStands m (arbitrate m) := by
  constructor <;> simp only [arbitrate_keeps]
  exact fun _ => id

/-- From `m` to `v` column events have been raised and cut counts ended: the deck stays. -/
structure ColumnsTold (m v : State) : Prop extends EmergencyStands m v where
  sequencer : v.sequencer = m.sequencer
  generator : v.generator = m.generator
  path : v.path = m.path
  signals : v.signals = m.signals

theorem ColumnsTold.refl (m : State) : ColumnsTold m m :=
  ⟨⟨rfl, rfl, rfl, rfl, rfl, rfl, rfl, rfl, rfl, rfl, fun _ => id⟩, rfl, rfl, rfl, rfl⟩

theorem ColumnsTold.cutEnded {m v : State} (told : ColumnsTold m v) (c : Reel) : ColumnsTold m (endCut c v) := by
  obtain ⟨⟨intake, transport, trusted, servos, speed, mode, dir, window, links, loader, classes⟩, sequencer, generator, path, signals⟩ := told
  have armed : (endCut c v).sensors.windowArmed = v.sensors.windowArmed := by cases c <;> rfl
  refine ⟨⟨?_, ?_, ?_, ?_, ?_, ?_, ?_, armed.trans window, ?_, ?_, ?_⟩, ?_, ?_, ?_, ?_⟩ <;> simp only [endCut_keeps] <;> assumption

theorem ColumnsTold.raised {m v : State} (told : ColumnsTold m v) (e : Event) : ColumnsTold m (raise e v) := by
  obtain ⟨⟨intake, transport, trusted, servos, speed, mode, dir, window, links, loader, classes⟩, sequencer, generator, path, signals⟩ := told
  refine ⟨⟨?_, ?_, ?_, ?_, ?_, ?_, ?_, ?_, ?_, ?_, fun c pending => raise_keeps_class e v (classes c pending)⟩, ?_, ?_, ?_, ?_⟩ <;>
    simp only [raise_keeps] <;> assumption

theorem emergencyStop_faulted {s : State} (faulted : s.sequencer.transport = .faulted) : emergencyStop s = s := if_pos (.inr faulted)

/-- A column's fault in FAULTED is told alone. -/
theorem ColumnsTold.columnFaulted {m v : State} (told : ColumnsTold m v) (faulted : m.sequencer.transport = .faulted) (c : Reel) (x : Nat) :
    ColumnsTold m (columnFault c x v) := by
  unfold columnFault
  dsimp only
  rw [emergencyStop_faulted]
  · exact (told.raised _).cutEnded c
  · rw [(raise_keeps _ _).2.1, told.sequencer]
    exact faulted

/-- An emergency stop, with the events of the columns told behind it, ends its event. -/
theorem emergencyEnd_told {e : Event} {a v : State} (sound : Sound a) (threaded : a.sequencer.transport ≠ .unthreaded)
    (sane : a.sequencer.transport ≠ .faulted) (noHandOver : handOverDue a = none) (first : e.name.noticeClass = 0)
    (told : ColumnsTold (emergencyStop (raise e a)) v) :
    v.sequencer.transport = .faulted ∧ EmergencyMade a (finishEvent v) ∧ (finishEvent v).sensors = v.sensors := by
  have soundR : Sound (raise e a) := (sound_raise (pq := a.pending) e { sound with queue := rfl }).toSound
  have pending := raise_makes_pending e a
  rw [first] at pending
  have transport : (raise e a).sequencer.transport = a.sequencer.transport := by simp
  obtain ⟨made, waiting, signals, position, handOver⟩ := emergencyStop_spec soundR (by rw [transport]; exact threaded)
    (by rw [transport]; exact sane) (handOverDue_none_of noHandOver (by simp) (by simp)) pending
  have phase := emergencyStop_phase (a := raise e a) (by rw [transport]; exact threaded) (by rw [transport]; exact sane)
  generalize emergencyStop (raise e a) = m at *
  have faulted : v.sequencer.transport = .faulted := by rw [told.sequencer, made.transport]
  have stillAt (u : State) (transportU : u.sequencer.transport = .faulted) (phaseU : u.sequencer.phase = m.sequencer.phase) :
      positionEvent u = none := positionEvent_of_still (.inr (.inr (.inl transportU))) (by rw [phaseU]; exact phase)
  obtain ⟨u, ends, -, settles⟩ := react_settling (told.signals.trans signals) (stillAt v faulted (by rw [told.sequencer]))
    (handOverDue_none_of handOver told.intake (by rw [told.path])) (.inl (by rw [faulted]; decide))
    (.inl (by rw [told.generator, waiting])) fun u settles => by
      obtain ⟨l, sequencer⟩ := settles.sequencer
      exact stillAt u (by rw [sequencer]; exact faulted) (by rw [sequencer, told.sequencer])
  refine ⟨faulted, ?_⟩
  rw [show finishEvent v = arbitrate u from congrArg arbitrate (ends 62)]
  exact ⟨(((made.stands told.toEmergencyStands).stands settles.emergencyStands).stands (emergencyStands_arbitrate u)).ofRaised,
    (arbitrate_keeps u).2.2.2.2.2.1.trans settles.sensors⟩

theorem settleTest_away {s : State} (away : s.sequencer.transport ≠ .loading) : settleTest s = s := by
  unfold settleTest State.looping
  simp [away]

/-- The other column's verdict behind a first one. -/
def otherColumn : Reel → Reel
  | .supply => .takeup
  | .takeup => .supply

theorem sampleFaults_column {c : Reel} {a : State} (noTracking : decide (Config.trackingLimit ≤ a.servos.tracking) = false)
    (due : columnDue c a = true) :
    sampleFaults (decide (c = .takeup)) a =
      if columnDue (otherColumn c) a then
        columnFault (otherColumn c) (a.sensors.column (otherColumn c)).x (columnFault c (a.sensors.column c).x a)
      else columnFault c (a.sensors.column c).x a := by
  unfold sampleFaults
  cases c <;> simp [noTracking, due, otherColumn] <;> rfl

theorem sampleFaults_tracking {a : State} (due : decide (Config.trackingLimit ≤ a.servos.tracking) = true)
    (noSupply : columnDue .supply a = false) (noTakeup : columnDue .takeup a = false) :
    sampleFaults false a = trackingFaulted a.trackingError a := by
  unfold sampleFaults
  simp [due, noSupply, noTakeup]

/-- Settles O9. -/
theorem sampleFaultsStopTheDeck : Obligations.SampleFaultsStopTheDeck := by
  intro s sound threaded sane noHandOver
  have soundA : Sound (sampleCounts s) := (sound_sampleCounts (pq := s.pending) { sound with queue := rfl }).toSound
  refine ⟨?tracking, ?column⟩
  case tracking =>
    intro due noSupply noTakeup
    have limit : decide (Config.trackingLimit ≤ (sampleCounts s).servos.tracking) = true := due
    have stops : sampleFaults false (sampleCounts s) = trackingFaulted (sampleCounts s).trackingError (sampleCounts s) := by
      exact sampleFaults_tracking limit noSupply noTakeup
    obtain ⟨faulted, made, -⟩ := emergencyEnd_told (v := sampleFaults false (sampleCounts s))
      (e := { name := .trackingFault, d0 := wordOfInt (Int.tdiv (sampleCounts s).trackingError 256) }) soundA threaded sane noHandOver rfl
      (by rw [stops]; exact .refl _)
    rw [← settleTest_away (s := sampleFaults false (sampleCounts s)) (by rw [faulted]; decide)] at made
    exact ⟨_, congrArg Host.Outcome.next (doIf_true due _ _), rfl, made⟩
  case column =>
    intro c noTracking due
    have stops := sampleFaults_column (a := sampleCounts s) noTracking due
    obtain ⟨e, first, stopped⟩ : ∃ e : Event, e.name.noticeClass = 0 ∧
        columnFault c ((sampleCounts s).sensors.column c).x (sampleCounts s) = endCut c (emergencyStop (raise e (sampleCounts s))) :=
      ⟨_, rfl, rfl⟩
    have once : ColumnsTold (emergencyStop (raise e (sampleCounts s)))
        (columnFault c ((sampleCounts s).sensors.column c).x (sampleCounts s)) := by
      rw [stopped]
      exact (ColumnsTold.refl _).cutEnded c
    have faultedM : (emergencyStop (raise e (sampleCounts s))).sequencer.transport = .faulted := by
      rw [← once.sequencer]
      exact (emergencyEnd_told soundA threaded sane noHandOver first once).1
    have told : ColumnsTold (emergencyStop (raise e (sampleCounts s))) (sampleFaults (decide (c = .takeup)) (sampleCounts s)) := by
      rw [stops]
      split
      · exact once.columnFaulted faultedM _ _
      · exact once
    obtain ⟨faulted, made, -⟩ := emergencyEnd_told soundA threaded sane noHandOver first told
    rw [← settleTest_away (s := sampleFaults (decide (c = .takeup)) (sampleCounts s)) (by rw [faulted]; decide)] at made
    exact ⟨_, congrArg Host.Outcome.next (doIf_true due _ _), made⟩

end Sys2Proof.Machine
end

section
/-! The settle count and the beginning of SEEK (R131 to R133). -/

namespace Sys2Proof.Machine

/-! ### Start requests (R74) -/

/-- What a start request leaves. -/
structure StartAsked (s u : State) : Prop where
  tracker : u.tracker = s.tracker
  sequencer : u.sequencer = s.sequencer
  links : u.links = s.links
  sensors : u.sensors = s.sensors
  intake : u.intake = s.intake
  loader : u.loader = s.loader
  reporter : u.reporter = s.reporter
  signals : u.signals = s.signals
  drive : u.servos.driveMode = s.servos.driveMode
  tape : u.servos.t = s.servos.t
  brake : u.servos.brake = s.servos.brake
  sweep : u.path.sweep = s.path.sweep
  upper : u.path.upper = s.path.upper
  active : u.generator.active = s.generator.active
  loadSet : u.generator.loadSet = s.generator.loadSet
  settlement : settlementDue s = none → settlementDue u = none

/-- Only the generator's waiting request changes. -/
theorem startAsked_waiting (q : Option StartRequest) (s : State) : StartAsked s (s.onGenerator fun g => { g with waiting := q }) := by
  constructor
  case settlement => exact fun none => settlementDue_none_of none rfl fun p => id
  all_goals rfl

theorem setGenDir_servos (d : Option Direction) (s : State) :
    (setGenDir d s).servos.driveMode = s.servos.driveMode ∧ (setGenDir d s).servos.t = s.servos.t ∧
    (setGenDir d s).servos.brake = s.servos.brake ∧ ∃ x, (setGenDir d s).generator = { s.generator with dir := x } := by
  unfold setGenDir
  split
  · exact ⟨rfl, rfl, rfl, s.generator.dir, rfl⟩
  · exact ⟨rfl, rfl, rfl, d, rfl⟩

/-- With no settlement waiting a start request begins its chain in HOLD. -/
theorem startAsked_beginStart (q : StartRequest) {s : State} (settled : s.generator.loadSet = none) : StartAsked s (beginStart q s) := by
  obtain ⟨drive, tape, brake, x, generator⟩ := setGenDir_servos (some q.dir) (dropChain s)
  have path : (setGenDir (some q.dir) (dropChain s)).path = (dropChain s).path := by simp
  have sweep : (setGenDir (some q.dir) (dropChain s)).path.sweep = s.path.sweep := by rw [path]; rfl
  have upper : (setGenDir (some q.dir) (dropChain s)).path.upper = s.path.upper := by rw [path]; rfl
  have loadSet : (beginStart q s).generator.loadSet = none := by
    unfold beginStart
    dsimp only
    split
    · rw [onGenerator_generator, generator]; exact settled
    · show (setGenDir (some q.dir) (dropChain s)).generator.loadSet = none
      rw [generator]
      exact settled
  constructor
  case drive => unfold beginStart; dsimp only; split <;> exact drive
  case tape => unfold beginStart; dsimp only; split <;> exact tape
  case brake => unfold beginStart; dsimp only; split <;> exact brake
  case sweep => unfold beginStart; dsimp only; split <;> exact sweep
  case upper => unfold beginStart; dsimp only; split <;> exact upper
  case active =>
    unfold beginStart
    dsimp only
    split
    · rw [onGenerator_generator, generator]
      rfl
    · show (setGenDir (some q.dir) (dropChain s)).generator.active = _
      rw [generator]
      rfl
  case loadSet => rw [loadSet, settled]
  case settlement => exact fun _ => settlementDue_of_none loadSet
  all_goals simp only [beginStart_keeps]

theorem startAsked_refl (s : State) : StartAsked s s := startAsked_waiting s.generator.waiting s

theorem startRequest_asked (c : Chain) (d : Direction) (s : State) : StartAsked s (startRequest c d s) := by
  unfold startRequest
  dsimp only
  cases s.generator.mode
  case hold =>
    dsimp only
    split
    · exact startAsked_waiting _ s
    · next idle =>
      refine startAsked_beginStart _ ?_
      unfold Generator.settling at idle
      simp only [Bool.or_eq_true, not_or] at idle
      exact Option.not_isSome_iff_eq_none.mp idle.2
  case decel => exact startAsked_waiting _ s
  case fallback => exact startAsked_waiting _ s
  all_goals exact startAsked_refl s

/-! ### SEEK (R131 to R133) -/

/-- What the beginning of SEEK leaves. -/
structure SeekBegun (s u : State) : Prop where
  transport : u.sequencer.transport = .loading
  phase : u.sequencer.phase = some .seek
  timer : u.sequencer.phaseTimer = none
  travel : u.sequencer.seekTravel = 0
  armed : u.sensors.windowArmed = true
  drive : u.servos.driveMode = .follow
  leg : u.sequencer.seekLeg = some (if s.sequencer.seekOrigin = some .fromFault then .outward else .finalCreep)
  intake : u.intake = s.intake
  sweep : u.path.sweep = s.path.sweep
  signals : u.signals = s.signals
  settlement : settlementDue s = none → settlementDue u = none

/-- LOADING in SEEK, with the window armed. -/
def seekEntered (s : State) : State :=
  setTransport .loading (some .seek) (armWindow true (s.onSequencer fun q => { q with phaseTimer := none, seekTravel := 0 }))

theorem enterSeek_eq (s : State) : enterSeek s =
    if s.sequencer.seekOrigin = some .fromFault then
      startRequest .rewindStart .backward ((seekEntered s).onSequencer fun q =>
        { q with seekLeg := some .outward, legMarked := false, botAtLeg := s.sensors.bot.level })
    else beginFinalCreep (seekEntered s) := by
  unfold enterSeek
  split
  · next origin => exact (if_pos origin).symm
  · next other => exact (if_neg fun origin => other origin).symm

theorem armWindow_armed (b : Bool) (s : State) : (armWindow b s).sensors.windowArmed = b := by
  unfold armWindow clearWindowCounts
  simp

/-- The sequencer as SEEK begins in it. -/
structure SeekEntered (s u : State) : Prop where
  sequencer : u.sequencer = sequencerIn .loading (some .seek) { s.sequencer with phaseTimer := none, seekTravel := 0 }
  armed : u.sensors.windowArmed = true
  drive : u.servos.driveMode = .follow
  generator : u.generator = s.generator
  intake : u.intake = s.intake
  path : u.path = s.path
  signals : u.signals = s.signals

theorem seekEntered_spec {s : State} (loading : s.sequencer.transport = .loading) : SeekEntered s (seekEntered s) := by
  unfold seekEntered
  constructor
  case sequencer => rw [setTransport_sequencer, (armWindow_keeps _ _).2.1]; rfl
  case armed =>
    rw [setTransport_sensors (by decide) (by rw [(armWindow_keeps _ _).2.1]; exact fun faulted => by rw [show s.sequencer.transport = _ from faulted] at loading; cases loading)]
    exact armWindow_armed _ _
  case drive => rw [setTransport_drive]; rfl
  all_goals simp

theorem seekBegun_of {s x u : State} (entered : SeekEntered s (seekEntered s))
    (leg : SeekLeg) (isLeg : leg = if s.sequencer.seekOrigin = some .fromFault then .outward else .finalCreep)
    (sequencer : ∃ marked bot, x = (seekEntered s).onSequencer fun q => { q with seekLeg := some leg, legMarked := marked, botAtLeg := bot })
    (asked : StartAsked x u) : SeekBegun s u := by
  obtain ⟨marked, bot, rfl⟩ := sequencer
  have sequencerU := asked.sequencer
  rw [onSequencer_sequencer, entered.sequencer] at sequencerU
  refine ⟨?_, ?_, ?_, ?_, by rw [asked.sensors]; exact entered.armed, asked.drive.trans entered.drive, ?_, asked.intake.trans entered.intake,
    asked.sweep.trans (congrArg Path.sweep entered.path), asked.signals.trans entered.signals, fun none => asked.settlement ?_⟩
  · rw [sequencerU]; rfl
  · rw [sequencerU]; rfl
  · rw [sequencerU]; simp [sequencerIn]
  · rw [sequencerU]; rfl
  · rw [sequencerU, ← isLeg]
  · exact settlementDue_congr (a := s) entered.generator (congrArg Path.claims entered.path) (congrArg Path.port entered.path) none

theorem enterSeek_begins {s : State} (loading : s.sequencer.transport = .loading) : SeekBegun s (enterSeek s) := by
  have entered := seekEntered_spec loading
  rw [enterSeek_eq]
  split
  · next origin =>
    exact seekBegun_of entered .outward (by rw [if_pos origin]) ⟨_, _, rfl⟩ (startRequest_asked _ _ _)
  · next other =>
    exact seekBegun_of entered .finalCreep (by rw [if_neg other]) ⟨false, (seekEntered s).sequencer.botAtLeg, rfl⟩
      (startRequest_asked _ _ _)

/-! ### The settle count (R131) -/

theorem sampleFaults_none {a : State} (noTracking : decide (Config.trackingLimit ≤ a.servos.tracking) = false)
    (noSupply : columnDue .supply a = false) (noTakeup : columnDue .takeup a = false) (b : Bool) : sampleFaults b a = a := by
  unfold sampleFaults
  simp [noTracking, noSupply, noTakeup]

theorem settleTest_complete {a : State} (looping : a.looping = true) (settled : loopsSettled a = true)
    (last : a.sequencer.settleCount = 999) : settleTest a = enterSeek (a.onSequencer fun q => { q with settleCount := 1000 }) := by
  unfold settleTest
  simp only [looping, settled, if_true, last]
  rfl

/-- Settles O10. -/
theorem settleCountCompleteBeginsSeek : Obligations.SettleCountCompleteBeginsSeek := by
  intro s noTracking noSupply noTakeup looping settled last quiet
  have faults := sampleFaults_none (a := sampleCounts s) noTracking noSupply noTakeup false
  have loading : (sampleCounts s).sequencer.transport = .loading := by
    unfold State.looping at looping
    simp only [Bool.and_eq_true, decide_eq_true_eq] at looping
    exact looping.1
  have due : settleDue s = true := by
    unfold settleDue
    simp only [faults, looping, settled, last]
    rfl
  have test := settleTest_complete looping settled last
  have begun := enterSeek_begins (s := (sampleCounts s).onSequencer fun q => { q with settleCount := 1000 }) loading
  obtain ⟨noSignal, -, noSettlement, noHandOver⟩ := quiet_iff.mp quiet
  have sample : servoSample false s = finishEvent (settleTest (sampleCounts s)) := by
    unfold servoSample
    rw [faults]
  rw [test] at sample
  have quietU : Quiet (enterSeek ((sampleCounts s).onSequencer fun q => { q with settleCount := 1000 })) :=
    quiet_iff.mpr ⟨begun.signals.trans noSignal,
      positionEvent_of_still (.inr (.inr (.inr begun.transport))) (by rw [begun.phase]; simp),
      begun.settlement (settlementDue_congr (a := sampleCounts s) rfl rfl rfl noSettlement),
      handOverDue_none_of noHandOver begun.intake (by rw [begun.sweep]; rfl)⟩
  rw [finishEvent_of_quiet quietU] at sample
  generalize enterSeek ((sampleCounts s).onSequencer fun q => { q with settleCount := 1000 }) = u at *
  have command : exec (.servoSample false) s = .next (arbitrate u) := congrArg Host.Outcome.next sample
  refine ⟨_, (congrArg Host.Outcome.next (doIf_true due _ _)).trans command, command, ?_⟩
  simp only [arbitrate_keeps]
  exact ⟨begun.transport, begun.phase, begun.timer, begun.travel, begun.armed, begun.drive, begun.leg⟩

end Sys2Proof.Machine
end

section
/-! Servo samples that end a motion (R28, R35, R69, R72). -/

namespace Sys2Proof.Machine

/-! ### The generator comes to rest (R69, R72) -/

/-- The state in which the sequencer takes the report that a stop has ended. -/
structure StopReported (s a : State) : Prop where
  generator : ∃ p, a.generator =
    { s.generator with v := 0, p := p, dir := none, mode := .hold, run := none, working := none, reload := none }
  signals : a.signals = []
  sequencer : a.sequencer = s.sequencer
  tracker : a.tracker = s.tracker
  links : a.links = s.links
  sensors : a.sensors = s.sensors
  intake : a.intake = s.intake
  loader : a.loader = s.loader
  tape : a.servos.t = s.servos.t
  drive : a.servos.driveMode = s.servos.driveMode
  brake : a.servos.brake = s.servos.brake
  sweep : a.path.sweep = s.path.sweep

/-- The end of a stop, with no start request waiting behind it. -/
structure StopEnded (s u : State) : Prop where
  generator : u.generator = { s.generator with v := 0, dir := none, mode := .hold, run := none, working := none, reload := none }
  signals : u.signals = s.signals ++ [.stopEnd]
  sequencer : u.sequencer = s.sequencer
  tracker : u.tracker = s.tracker
  links : u.links = s.links
  sensors : u.sensors = s.sensors
  intake : u.intake = s.intake
  loader : u.loader = s.loader
  tape : u.servos.t = s.servos.t
  drive : u.servos.driveMode = s.servos.driveMode
  brake : u.servos.brake = s.servos.brake
  sweep : u.path.sweep = s.path.sweep

theorem setGenDir_none_generator (s : State) : (setGenDir none s).generator = { s.generator with dir := none } := by
  unfold setGenDir
  split
  · next same => rw [same]
  · rfl

theorem endStop_ends {s : State} (nobody : s.generator.waiting = none) : StopEnded s (endStop s) := by
  let +generalize (eq := isX) x := setGenDir none (setV 0 (dropChain s))
  have generator : x.generator = { s.generator with v := 0, dir := none, run := none, working := none, reload := none } := by
    rw [isX, setGenDir_none_generator, setV_generator, dropChain_generator]
    rfl
  obtain ⟨drive, tape, brake, -⟩ := setGenDir_servos none (setV 0 (dropChain s))
  have servos : (setV 0 (dropChain s)).servos = s.servos := (setV_others 0 (dropChain s)).2.2.2.2.2.1
  have sweep : x.path.sweep = s.path.sweep := by
    rw [isX, (setGenDir_keeps _ _).2.2.2.2.2.1, (setV_others 0 _).1]
    rfl
  have ends : endStop s = (x.onGenerator fun g => { g with mode := .hold }).signal .stopEnd := by
    unfold endStop
    rw [← isX]
    exact takeWaiting_of_none (by
      show x.generator.waiting = none
      rw [generator]
      exact nobody)
  rw [ends]
  constructor
  case generator =>
    show { x.generator with mode := .hold } = _
    rw [generator]
  case tape => exact tape.trans (by rw [servos])
  case drive => exact drive.trans (by rw [servos])
  case brake => exact brake.trans (by rw [servos])
  case sweep => exact sweep
  case signals =>
    show x.signals ++ [.stopEnd] = _
    rw [isX, (setGenDir_keeps _ _).2.2.2.2.2.2.2.2.1, (setV_others 0 _).2.2.2.2.2.2]
    rfl
  all_goals
    simp only [isX, State.signal]
    simp

theorem clampInt_nonpos {x : Int} (low : x ≤ 0) : (clampInt 0 12800 x).toNat = 0 := by
  unfold clampInt
  omega

/-- V falls to 0 in the sample, and the stop ends. -/
theorem stepV_stopEnds {s : State} (ends : StopEnds s) : ∃ v, stepV s = endStop (setV v s) := by
  obtain ⟨-, ⟨mode, small⟩ | ⟨r, w, mode, run, working, stops, away, noTrim, falls⟩⟩ := ends
  · refine ⟨(s.generator.v : Int) - s.generator.fallSlope, ?_⟩
    have zero : (setV ((s.generator.v : Int) - s.generator.fallSlope) s).generator.v = 0 := by
      rw [setV_generator]
      exact clampInt_nonpos (by omega)
    unfold stepV
    rw [mode]
    exact if_pos zero
  · refine ⟨(s.generator.v : Int) + w.slope, ?_⟩
    have zero : (setV ((s.generator.v : Int) + w.slope) s).generator.v = 0 := by
      rw [setV_generator]
      exact clampInt_nonpos falls
    rw [stepV_segment (.inr mode) run working noTrim]
    unfold segmentSample
    simp only [stops, away, zero]
    rfl

theorem followTape_others (s : State) : (followTape s).path = s.path ∧ (followTape s).sequencer = s.sequencer ∧
    (followTape s).tracker = s.tracker ∧ (followTape s).servos = s.servos ∧ (followTape s).links = s.links ∧
    (followTape s).sensors = s.sensors ∧ (followTape s).intake = s.intake ∧ (followTape s).loader = s.loader ∧
    (followTape s).signals = s.signals ∧ ∃ p, (followTape s).generator = { s.generator with p := p } := by
  unfold followTape
  split
  · exact ⟨rfl, rfl, rfl, rfl, rfl, rfl, rfl, rfl, rfl, _, rfl⟩
  · exact ⟨rfl, rfl, rfl, rfl, rfl, rfl, rfl, rfl, rfl, s.generator.p, rfl⟩

/-- The generator's work in a sample that ends a stop: it reports the end, and nothing else. -/
theorem generatorSample_stopEnds {s : State} (ends : StopEnds s) (signals : s.signals = []) :
    (generatorSample s).signals = [.stopEnd] ∧ StopReported s ((generatorSample s).setSignals []) := by
  obtain ⟨v, step⟩ := stepV_stopEnds ends
  obtain ⟨generatorE, signalsE, sequencerE, trackerE, linksE, sensorsE, intakeE, loaderE, tapeE, driveE, brakeE, sweepE⟩ :=
    endStop_ends (s := setV v s) (by rw [setV_generator]; exact ends.1)
  obtain ⟨pathV, loaderV, intakeV, sequencerV, trackerV, servosV, signalsV⟩ := setV_others v s
  unfold generatorSample
  rw [step]
  generalize endStop (setV v s) = e at *
  obtain ⟨pathF, sequencerF, trackerF, servosF, linksF, sensorsF, intakeF, loaderF, signalsF, p, generatorF⟩ := followTape_others (advanceP e)
  rw [advanceP_generator, generatorE, setV_generator] at generatorF
  generalize followTape (advanceP e) = f at *
  have still := refreshUrgency_still (s := f) (by rw [generatorF]) (by rw [generatorF])
  rw [still]
  refine ⟨by rw [signalsF]; exact signalsE.trans (by rw [signalsV, signals]; rfl), ?_⟩
  constructor
  case generator => exact ⟨p, generatorF⟩
  case signals => rfl
  case sequencer => exact sequencerF.trans (sequencerE.trans sequencerV)
  case tracker => exact trackerF.trans (trackerE.trans trackerV)
  case links => exact linksF.trans (linksE.trans (by simp))
  case sensors => exact sensorsF.trans (sensorsE.trans (by simp))
  case intake => exact intakeF.trans (intakeE.trans intakeV)
  case loader => exact loaderF.trans (loaderE.trans loaderV)
  case tape => show f.servos.t = _; rw [servosF]; exact tapeE.trans (by rw [servosV])
  case drive => show f.servos.driveMode = _; rw [servosF]; exact driveE.trans (by rw [servosV])
  case brake => show f.servos.brake = _; rw [servosF]; exact brakeE.trans (by rw [servosV])
  case sweep => show f.path.sweep = _; rw [pathF]; exact sweepE.trans (by rw [pathV])

/-- A sample that ends a motion, with what the sequencer makes of it. -/
theorem endingSample_next (b : Bool) {s y : State} (ending : EndingSample s) (acts : stopEnded ((generatorSample s).setSignals []) = y)
    (quiet : Quiet y) : exec (.servoSample b) s = .next (arbitrate (sampleEnded s.sequencer.vacuumRequest y)) := by
  obtain ⟨reports, -⟩ := generatorSample_stopEnds ending.ends ending.signals
  have once : reactOnce (generatorSample s) = some y := by
    unfold reactOnce
    rw [reports, ← acts]
    rfl
  have toRest : react reactFuel (generatorSample s) = y := by
    rw [show reactFuel = 63 + 1 from rfl, react_succ _ once, react_of_quiet _ quiet]
  exact congrArg Host.Outcome.next (servoSample_of_react b toRest quiet ending.calm)

end Sys2Proof.Machine
end

section
/-! The end of an order in STOPPED (R24, R28, R35, R148, R151). -/

namespace Sys2Proof.Machine

/-! ### The result of an order that ends (R148, R151) -/

theorem finishResult_told (i : Fin 8) (o : Outcome) (r : Reason) (n : Nat) (s : State) :
    (finishResult i o r n s).reporter.pendingClasses.getLsbD (outcomeEvent o).noticeClass = true :=
  raise_makes_pending _ _

/-- An order's end is its result's end, but for the running slot and the queue's state. -/
theorem reportEnd_running {i : Fin 8} {s : State} (running : s.intake.running = some i) (o : Outcome) (r : Reason) (n : Nat) :
    (reportEnd o r n s).intake.results = (finishResult i o r n s).intake.results ∧
    (reportEnd o r n s).intake.suspended = (s.intake.suspended || o.suspends) ∧
    (reportEnd o r n s).reporter.pendingClasses = (finishResult i o r n s).reporter.pendingClasses := by
  have suspended : (finishResult i o r n s).intake.suspended = s.intake.suspended := by
    unfold finishResult
    simp
  unfold reportEnd
  rw [running]
  dsimp only
  cases o.suspends <;> simp [setSuspended, setRunning, suspended]

/-- What the end of the order of slot i leaves at the intake, with its event. -/
theorem reportEnd_reports {i : Fin 8} {s : State} (running : s.intake.running = some i) (o : Outcome) (r : Reason) (n : Nat) :
    (((reportEnd o r n s).intake.results[i]).blocks = n ∧ ((reportEnd o r n s).intake.results[i]).finalT = s.servos.t) ∧
    (reportEnd o r n s).intake.suspended = (s.intake.suspended || o.suspends) ∧
    (reportEnd o r n s).reporter.pendingClasses.getLsbD (outcomeEvent o).noticeClass = true := by
  obtain ⟨results, suspended, pending⟩ := reportEnd_running running o r n
  have result : (reportEnd o r n s).intake.results[i] =
      { s.intake.results[i] with outcome := o, reason := r, blocks := n, finalT := s.tapePos } :=
    (congrArg (fun v : Vector OrderResult 8 => v[i]) results).trans ((finishResult_results i i o r n s).trans (if_pos rfl))
  refine ⟨⟨congrArg OrderResult.blocks result, congrArg OrderResult.finalT result⟩, suspended, ?_⟩
  rw [pending]
  exact finishResult_told i o r n s

theorem orderEnds_endOrder {i : Fin 8} {s : State} (running : s.intake.running = some i) (o : Outcome) (r : Reason) (k : Bool) :
    OrderEnds i o r s (endOrder o r k s) := by
  have ended := (endOrder_spec o r k s).toEnded
  let +generalize (eq := isX) x := ((settleRecords o k s).onSequencer clearOrderState).onTracker fun z => { z with context := none }
  have eq : endOrder o r k s = reportEnd o r (settleRecords o k s).blocksCounted x := rfl
  have intake : x.intake = s.intake := by simp [isX]
  obtain ⟨⟨-, finalT⟩, suspended, told⟩ := reportEnd_reports (s := x) (by rw [intake]; exact running) o r (settleRecords o k s).blocksCounted
  rw [← eq] at finalT suspended told
  have servos : x.servos = s.servos := by simp [isX]
  obtain ⟨outcome, reason⟩ := ended.result i running
  refine ⟨ended.running, outcome, reason, ?_, fun j other => ended.others j ?_, ended.queue, ?_, told⟩
  · rw [finalT, servos, (endOrder_keeps o r k s).2.1]
  · rw [running]
    exact fun same => other (Option.some.inj same).symm
  · rw [suspended, intake]

/-- The counted blocks of an order without a context are none. -/
theorem endOrder_blocks {i : Fin 8} {s : State} (running : s.intake.running = some i) (context : s.tracker.context = none) (o : Outcome)
    (r : Reason) (k : Bool) : ((endOrder o r k s).intake.results[i]).blocks = 0 := by
  have settled : settleRecords o k s = s := by
    unfold settleRecords
    rw [context]
  let +generalize (eq := isX) x := ((settleRecords o k s).onSequencer clearOrderState).onTracker fun z => { z with context := none }
  have eq : endOrder o r k s = reportEnd o r (settleRecords o k s).blocksCounted x := rfl
  have intake : x.intake = s.intake := by simp [isX]
  obtain ⟨⟨blocks, -⟩, -⟩ := reportEnd_reports (s := x) (by rw [intake]; exact running) o r (settleRecords o k s).blocksCounted
  rw [eq, blocks, settled]
  unfold State.blocksCounted
  rw [context]

/-- An order's end is the same behind a sample's counts. -/
theorem OrderEnds.sampled {i : Fin 8} {o : Outcome} {r : Reason} {s a y : State} (ends : OrderEnds i o r a y) (intake : a.intake = s.intake)
    (v : Bool) : OrderEnds i o r s (arbitrate (sampleEnded v y)) := by
  obtain ⟨running, outcome, reason, finalT, others, queue, suspended, event⟩ := ends
  rw [intake] at others queue suspended
  constructor <;> simp only [arbitrate_keeps]
  · exact running
  · exact outcome
  · exact reason
  · exact finalT
  · exact others
  · exact queue
  · exact suspended
  · exact event

/-! ### The records of an order that ends (R24, R35) -/

theorem foldl_rolledBack_record (is : List (Fin 16)) (s : State) (j : Fin 16) :
    (is.foldl (fun a i => setRecord i (rolledBack (a.record i)) a) s).record j =
      if j ∈ is then rolledBack (s.record j) else s.record j := by
  induction is generalizing s with
  | nil => rfl
  | cons i rest ih =>
    rw [List.foldl_cons, ih, setRecord_record]
    by_cases same : i = j
    · subst same
      simp [rolledBack]
    · simp [same, Ne.symm same]

theorem rollBackAll_record (is : List (Fin 16)) (s : State) (j : Fin 16) :
    (rollBackAll is s).record j = if j ∈ is then rolledBack (s.record j) else s.record j :=
  (record_congr (retryHeld_keeps _).1 j).trans (foldl_rolledBack_record is s j)

theorem rollBackOrder_record (s : State) (j : Fin 16) :
    (rollBackOrder s).record j = if j ∈ unfinishedRecords s then rolledBack (s.record j) else s.record j := by
  unfold rollBackOrder
  split
  · next none =>
    rw [none]
    simpa using record_congr (retryHeld_keeps s).1 j
  · next i rest some =>
    rw [some]
    exact rollBackAll_record (i :: rest) s j

theorem mem_unfinishedRecords {s : State} {j : Fin 16} :
    j ∈ unfinishedRecords s ↔ (∃ c, s.tracker.context = some c ∧ c.write = true ∧ j ∈ c.indexes) ∧
      (s.record j).state ∈ [BlockState.armed, .recording, .awaitCheck] := by
  have unfinished : (s.record j).state.unfinished = true ↔ (s.record j).state ∈ [BlockState.armed, .recording, .awaitCheck] := by
    cases (s.record j).state <;> decide
  unfold unfinishedRecords State.orderIndexes
  rw [List.mem_filter, unfinished]
  refine and_congr_left fun _ => ?_
  split
  · next c context =>
    split
    · next writes => exact ⟨fun listed => ⟨c, context, writes, listed⟩, fun ⟨c', same, _, listed⟩ => by
        rw [context] at same
        cases same
        exact listed⟩
    · next reads => exact ⟨fun listed => (by cases listed), fun ⟨c', same, writes, _⟩ => by
        rw [context] at same
        cases same
        exact absurd writes reads⟩
  · next context => exact ⟨fun listed => (by cases listed), fun ⟨c', same, _⟩ => by rw [context] at same; cases same⟩

theorem settleRecords_nothing {s : State} (context : s.tracker.context = none) (o : Outcome) (k : Bool) : settleRecords o k s = s := by
  unfold settleRecords
  rw [context]

/-- What an order's end makes of a record. -/
theorem settleRecords_record (o : Outcome) (k : Bool) (s : State) (j : Fin 16) :
    ((∃ c, s.tracker.context = some c ∧ c.write = true ∧ j ∈ c.indexes) → o ≠ .done →
      (s.record j).state ∈ [BlockState.armed, .recording, .awaitCheck] → ((settleRecords o k s).record j).state = .filled) ∧
    ((s.record j).state ∉ [BlockState.armed, .recording, .awaitCheck, .expecting] → (settleRecords o k s).record j = s.record j) := by
  cases context : s.tracker.context with
  | none =>
    rw [settleRecords_nothing context]
    exact ⟨fun ⟨_, same, _⟩ => (by cases same), fun _ => rfl⟩
  | some c =>
    by_cases writes : c.write = true
    · by_cases done : o = .done
      · have settled : settleRecords o k s = s := by
          unfold settleRecords
          rw [context]
          simp [writes, done]
        rw [settled]
        exact ⟨fun _ other => absurd done other, fun _ => rfl⟩
      · have rolled : (settleRecords o k s).record j = (rollBackOrder s).record j := by
          unfold settleRecords
          rw [context]
          dsimp only
          rw [if_pos writes, if_neg done]
          split
          · split <;> rfl
          · rfl
        rw [rolled, rollBackOrder_record]
        constructor
        · intro listed _ unfinished
          rw [if_pos (mem_unfinishedRecords.mpr ⟨by rw [context]; exact listed, unfinished⟩)]
          rfl
        · intro finished
          refine if_neg fun listed => finished ?_
          have open_ := (mem_unfinishedRecords.mp listed).2
          simp only [List.mem_cons, List.not_mem_nil, or_false] at open_ ⊢
          exact open_.imp id (Or.imp id .inl)
    · have given : settleRecords o k s = giveBack s := by
        unfold settleRecords
        rw [context]
        simp [writes]
      rw [given, giveBack_record]
      constructor
      · rintro ⟨c', same, writes', -⟩
        cases same
        exact absurd writes' writes
      · intro finished
        refine if_neg fun h => finished ?_
        obtain ⟨rfl, expecting⟩ := h
        rw [expecting]
        simp

theorem endOrder_record (o : Outcome) (r : Reason) (k : Bool) (s : State) (j : Fin 16) :
    (endOrder o r k s).record j = (settleRecords o k s).record j := by
  have tracker : (endOrder o r k s).tracker =
      (((settleRecords o k s).onSequencer clearOrderState).onTracker fun z => { z with context := none }).tracker := (reportEnd_keeps _ _ _ _).1
  exact record_congr tracker j

theorem endOrder_tracker {s : State} (context : s.tracker.context = none) (o : Outcome) (r : Reason) (k : Bool) :
    (endOrder o r k s).tracker = s.tracker := by
  have tracker : (endOrder o r k s).tracker =
      (((settleRecords o k s).onSequencer clearOrderState).onTracker fun z => { z with context := none }).tracker := (reportEnd_keeps _ _ _ _).1
  rw [tracker, settleRecords_nothing context]
  show { s.tracker with context := none } = s.tracker
  rw [← context]

/-- The sequencer at an order's end: its order state goes, and the anchor may be set. -/
theorem endOrder_sequencer (o : Outcome) (r : Reason) (k : Bool) (s : State) :
    ∃ a g, (endOrder o r k s).sequencer = clearOrderState { s.sequencer with anchor := a, gapKind := g } := by
  have sequencer : (endOrder o r k s).sequencer = clearOrderState (settleRecords o k s).sequencer := (reportEnd_keeps _ _ _ _).2.1
  rw [sequencer]
  suffices settled : ∃ a g, (settleRecords o k s).sequencer = { s.sequencer with anchor := a, gapKind := g } by
    obtain ⟨a, g, settled⟩ := settled
    exact ⟨a, g, congrArg clearOrderState settled⟩
  have plain (x : State) (same : x.sequencer = s.sequencer) :
      ∃ a g, x.sequencer = { s.sequencer with anchor := a, gapKind := g } := ⟨s.sequencer.anchor, s.sequencer.gapKind, same⟩
  unfold settleRecords
  split
  · exact plain s rfl
  · split
    · split
      · exact plain s rfl
      · dsimp only
        split
        · split
          · exact plain _ (rollBackOrder_keeps s).1
          · exact ⟨_, _, by rw [setAnchor, onSequencer_sequencer, (rollBackOrder_keeps s).1]⟩
        · exact plain _ (rollBackOrder_keeps s).1
    · exact plain _ (giveBack_keeps s).1

/-- With no context the anchor stays. -/
theorem endOrder_sequencer_plain {s : State} (context : s.tracker.context = none) (o : Outcome) (r : Reason) (k : Bool) :
    (endOrder o r k s).sequencer = clearOrderState s.sequencer := by
  have sequencer : (endOrder o r k s).sequencer = clearOrderState (settleRecords o k s).sequencer := (reportEnd_keeps _ _ _ _).2.1
  rw [sequencer, settleRecords_nothing context]

/-! ### STOPPED (R28) -/

/-- A state of rest brings nothing about while the queue holds back. -/
theorem quiet_atRest {s : State} (signals : s.signals = [])
    (still : s.sequencer.transport = .unthreaded ∨ s.sequencer.transport = .stopped ∨ s.sequencer.transport = .faulted)
    (phase : s.sequencer.phase = none) (settled : s.generator.loadSet = none)
    (held : s.intake.queue = [] ∨ s.intake.suspended = true ∨ s.intake.running.isSome = true) : Quiet s := by
  refine quiet_iff.mpr ⟨signals, positionEvent_of_still (still.imp id (Or.imp id .inl)) (by rw [phase]; simp), settlementDue_of_none settled, ?_⟩
  unfold handOverDue
  obtain none | suspended | runs := held
  · rw [none]
    split <;> rfl
  · rw [suspended]
    rfl
  · rw [runs, Bool.or_true]
    rfl

/-- STOPPED, with direction, purpose and WRITE MODE gone. -/
def stoppedAt (s : State) : State :=
  (setTransport .stopped none s).onSequencer fun q => { q with writeMode := false, startFallback := false }

theorem stoppedAt_sequencer (s : State) :
    (stoppedAt s).sequencer = { sequencerIn .stopped none s.sequencer with writeMode := false, startFallback := false } := by
  rw [stoppedAt, onSequencer_sequencer, setTransport_sequencer]

/-- The rest of the deck in STOPPED. -/
theorem stoppedAt_keeps {s : State} (drive : s.servos.driveMode = .follow) :
    (stoppedAt s).servos = s.servos ∧ (stoppedAt s).generator = s.generator ∧ (stoppedAt s).tracker = s.tracker ∧
    (stoppedAt s).intake = s.intake ∧ (stoppedAt s).loader = s.loader ∧ (stoppedAt s).signals = s.signals := by
  unfold stoppedAt
  simp only [onSequencer_servos, onSequencer_generator, onSequencer_tracker, onSequencer_intake, onSequencer_loader, onSequencer_signals,
    setTransport_keeps, and_true]
  exact setTransport_servos (by rw [drive]; rfl)

/-- The order whose outcome is fixed, ended in STOPPED. -/
theorem reachStopped_fixed {s : State} {f : FixedOutcome} (running : s.intake.running.isSome = true) (fixed : s.sequencer.fixed = some f)
    (taken : s.sequencer.held = false) (drive : s.servos.driveMode = .follow) : reachStopped s = endAtStopped f (stoppedAt s) := by
  have intake := (stoppedAt_keeps drive).2.2.2.1
  have sequencer := stoppedAt_sequencer s
  have eq : reachStopped s = orderAtStopped (stoppedAt s) := rfl
  rw [eq]
  unfold orderAtStopped
  rw [if_neg (by rw [intake]; simpa [Option.isSome_iff_ne_none] using running), if_neg (by rw [sequencer]; simp [sequencerIn, taken])]
  have fixedX : (stoppedAt s).sequencer.fixed = some f := by
    rw [sequencer]
    exact fixed
  rw [fixedX]

theorem reachStopped_idle {s : State} (idle : s.intake.running = none) (drive : s.servos.driveMode = .follow) :
    reachStopped s = stoppedAt s := by
  have intake := (stoppedAt_keeps drive).2.2.2.1
  exact if_pos (by rw [show ((setTransport .stopped none s).onSequencer fun q => { q with writeMode := false, startFallback := false }).intake = _
    from intake, idle]; rfl)

/-- A no-show's stop sets the anchor before a FORMATTER_SILENT order ends. -/
def anchoredAtEnd (f : FixedOutcome) (s : State) : State :=
  if s.sequencer.noShowStop && decide (f.reason = .formatterSilent) then anchorAtStop s else s

theorem anchoredAtEnd_keeps (f : FixedOutcome) (s : State) :
    (anchoredAtEnd f s).tracker = s.tracker ∧ (anchoredAtEnd f s).generator = s.generator ∧ (anchoredAtEnd f s).servos = s.servos ∧
    (anchoredAtEnd f s).intake = s.intake ∧ (anchoredAtEnd f s).loader = s.loader ∧ (anchoredAtEnd f s).signals = s.signals ∧
    ∃ a g n, (anchoredAtEnd f s).sequencer = { s.sequencer with anchor := a, gapKind := g, noShowStop := n } := by
  unfold anchoredAtEnd
  split
  · exact ⟨rfl, rfl, rfl, rfl, rfl, rfl, _, _, _, rfl⟩
  · exact ⟨rfl, rfl, rfl, rfl, rfl, rfl, s.sequencer.anchor, s.sequencer.gapKind, s.sequencer.noShowStop, rfl⟩

theorem endAtStopped_eq (f : FixedOutcome) (s : State) : endAtStopped f s = endOrder f.outcome f.reason false (anchoredAtEnd f s) := rfl

/-- Settles O11. -/
theorem stopEndsTheTapeOrder : Obligations.StopEndsTheTapeOrder := by
  intro b s ending stopping
  obtain ⟨-, reported⟩ := generatorSample_stopEnds ending.ends ending.signals
  obtain ⟨p, generatorA⟩ := reported.generator
  have drive : ((generatorSample s).setSignals []).servos.driveMode = .follow := by
    rw [reported.drive, ending.drive, stopping]
    rfl
  have acts : stopEnded ((generatorSample s).setSignals []) = reachStopped ((generatorSample s).setSignals []) := by
    unfold stopEnded
    rw [reported.sequencer, stopping]
  have sample (y : State) (eq : reachStopped ((generatorSample s).setSignals []) = y) := endingSample_next b (y := y) ending (acts.trans eq)
  clear acts
  generalize (generatorSample s).setSignals [] = a at *
  obtain ⟨servosX, generatorX, trackerX, intakeX, loaderX, signalsX⟩ := stoppedAt_keeps drive
  have sequencerX := stoppedAt_sequencer a
  rw [reported.sequencer] at sequencerX
  refine ⟨?fixed, ?idle⟩
  case fixed =>
    intro i f running fixed taken held
    have ends := (reachStopped_fixed (by rw [reported.intake, running]; rfl) (by rw [reported.sequencer]; exact fixed)
      (by rw [reported.sequencer]; exact taken) drive).trans (endAtStopped_eq f _)
    obtain ⟨trackerZ, generatorZ, servosZ, intakeZ, loaderZ, signalsZ, n, g, m, sequencerZ⟩ := anchoredAtEnd_keeps f (stoppedAt a)
    rw [sequencerX] at sequencerZ
    have intake : (anchoredAtEnd f (stoppedAt a)).intake = s.intake := intakeZ.trans (intakeX.trans reported.intake)
    have tracker : (anchoredAtEnd f (stoppedAt a)).tracker = s.tracker := trackerZ.trans (trackerX.trans reported.tracker)
    generalize anchoredAtEnd f (stoppedAt a) = z at *
    have orderEnds := orderEnds_endOrder (s := z) (by rw [intake]; exact running) f.outcome f.reason false
    have ended := endOrder_spec f.outcome f.reason false z
    have records := settleRecords_record f.outcome false z
    obtain ⟨x, k, sequencerY⟩ := endOrder_sequencer f.outcome f.reason false z
    rw [sequencerZ] at sequencerY
    have generatorY : (endOrder f.outcome f.reason false z).generator = a.generator :=
      (endOrder_keeps _ _ _ _).1.trans (generatorZ.trans generatorX)
    rw [generatorA] at generatorY
    have servosY : (endOrder f.outcome f.reason false z).servos = a.servos := (endOrder_keeps _ _ _ _).2.1.trans (servosZ.trans servosX)
    have quiet : Quiet (endOrder f.outcome f.reason false z) := by
      refine quiet_atRest ((endOrder_keeps _ _ _ _).2.2.2.2.2.1.trans (signalsZ.trans (signalsX.trans reported.signals)))
        (.inr (.inl (by rw [sequencerY]; rfl))) (by rw [sequencerY]; rfl) (by rw [generatorY]; exact ending.settled) ?_
      rw [orderEnds.queue, orderEnds.suspended, intake]
      refine held.imp id fun held => .inl ?_
      obtain suspended | suspends := held
      · rw [suspended, Bool.true_or]
      · rw [suspends, Bool.or_true]
    have record (j : Fin 16) : (arbitrate (sampleEnded s.sequencer.vacuumRequest (endOrder f.outcome f.reason false z))).record j =
        (settleRecords f.outcome false z).record j := (record_congr (arbitrate_keeps _).1 j).trans (endOrder_record _ _ _ _ j)
    refine ⟨_, sample _ ends quiet, ?_⟩
    have orderEndsT := orderEnds.sampled intake s.sequencer.vacuumRequest
    have sequencerT : (arbitrate (sampleEnded s.sequencer.vacuumRequest (endOrder f.outcome f.reason false z))).sequencer = _ :=
      (arbitrate_keeps _).2.1.trans sequencerY
    have generatorT : (arbitrate (sampleEnded s.sequencer.vacuumRequest (endOrder f.outcome f.reason false z))).generator = _ :=
      (arbitrate_keeps _).2.2.1.trans generatorY
    have servosT : (arbitrate (sampleEnded s.sequencer.vacuumRequest (endOrder f.outcome f.reason false z))).servos =
        { a.servos with tracking := trackingCount (endOrder f.outcome f.reason false z) } :=
      (arbitrate_keeps _).2.2.2.1.trans ((sampleEnded_servos _ _).trans (by rw [servosY]))
    have trackerT : (arbitrate (sampleEnded s.sequencer.vacuumRequest (endOrder f.outcome f.reason false z))).tracker.context = none :=
      (congrArg Tracker.context (arbitrate_keeps _).1).trans ended.context
    have loaderT : (arbitrate (sampleEnded s.sequencer.vacuumRequest (endOrder f.outcome f.reason false z))).loader = s.loader :=
      (arbitrate_keeps _).2.2.2.2.2.2.2.1.trans ((endOrder_keeps _ _ _ _).2.2.2.2.1.trans (loaderZ.trans (loaderX.trans reported.loader)))
    generalize arbitrate (sampleEnded s.sequencer.vacuumRequest (endOrder f.outcome f.reason false z)) = t at *
    refine ⟨?_, ?_, ?_, ?_, ?_, ⟨?_, ?_, ?_⟩, orderEndsT, trackerT, ?_, ?_, ?_, ?_, ?_, ?_, ?_, ?_, loaderT⟩
    case refine_1 => rw [sequencerT]; rfl
    case refine_2 => rw [sequencerT]; rfl
    case refine_3 => rw [sequencerT]; rfl
    case refine_4 => rw [sequencerT]; rfl
    case refine_5 => rw [sequencerT]; rfl
    case refine_6 => rw [generatorT]
    case refine_7 => rw [generatorT]
    case refine_8 => rw [generatorT]
    case refine_9 => unfold NoOrderState; rw [sequencerT]; rfl
    case refine_10 => rw [sequencerT]; simp [clearOrderState, sequencerIn]
    case refine_11 => rw [sequencerT]; rfl
    case refine_12 =>
      intro c context writes open_ j listed unfinished
      rw [record]
      exact (records j).1 ⟨c, by rw [tracker]; exact context, writes, listed⟩ open_ (by rw [record_congr tracker]; exact unfinished)
    case refine_13 =>
      intro j finished
      rw [record, ← record_congr tracker]
      exact (records j).2 (by rw [record_congr tracker]; exact finished)
    case refine_14 => rw [servosT]; exact reported.tape
    case refine_15 => rw [servosT]; exact drive
    case refine_16 => rw [servosT]; exact reported.brake
  case idle =>
    intro idle held
    have ends := reachStopped_idle (s := a) (by rw [reported.intake]; exact idle) drive
    generalize stoppedAt a = y at *
    rw [generatorA] at generatorX
    have quiet : Quiet y := by
      refine quiet_atRest (signalsX.trans reported.signals) (.inr (.inl (by rw [sequencerX]; rfl))) (by rw [sequencerX]; rfl)
        (by rw [generatorX]; exact ending.settled) ?_
      rw [intakeX, reported.intake]
      exact held.imp id .inl
    refine ⟨_, sample _ ends quiet, ?_⟩
    simp only [arbitrate_keeps]
    rw [show (sampleEnded s.sequencer.vacuumRequest y).sequencer = _ from sequencerX, sampleEnded_servos, servosX]
    refine ⟨rfl, rfl, rfl, rfl, rfl, ⟨?_, ?_, ?_⟩, rfl, rfl, ?_, rfl, trackerX.trans reported.tracker, intakeX.trans reported.intake,
      reported.tape, drive, loaderX.trans reported.loader⟩
    · rw [(arbitrate_keeps _).2.2.1]; exact (congrArg Generator.mode generatorX)
    · rw [(arbitrate_keeps _).2.2.1]; exact (congrArg Generator.v generatorX)
    · rw [(arbitrate_keeps _).2.2.1]; exact (congrArg Generator.dir generatorX)
    · simp [sequencerIn]

end Sys2Proof.Machine
end

section
/-! Servo samples that end a stop of LOAD, REWIND and UNLOAD (R135, R137 to R142). -/

namespace Sys2Proof.Machine

/-! ### The brake (R82) -/

/-- BRAKE follows a change of the drive mode. -/
theorem setDriveMode_brake_changed {d : DriveMode} {s : State} (changes : s.servos.driveMode ≠ d) :
    (setDriveMode d s).servos.brake = decide (d = .off) := by
  unfold setDriveMode
  rw [if_neg (Ne.symm changes)]
  dsimp only
  split <;> simp [clearCaptures]

theorem setTransport_brake_changed {t : Transport} {p : Option Phase} {s : State} (changes : s.servos.driveMode ≠ driveModeOf t p) :
    (setTransport t p s).servos.brake = decide (driveModeOf t p = .off) := by
  have before (c : Bool) : (markStatusIf c (s.onSequencer (sequencerIn t p))).servos.driveMode ≠ driveModeOf t p := by simpa using changes
  unfold setTransport
  dsimp only
  split <;> simp [setDriveMode_brake_changed (before _)]

/-! ### An order without a context ends (R135, R137, R140, R142) -/

/-- What a change of the transport and its events leave alone. -/
structure DeckKept (a z : State) : Prop where
  tracker : z.tracker = a.tracker
  intake : z.intake = a.intake
  signals : z.signals = a.signals
  generator : z.generator = a.generator
  loader : z.loader = a.loader

/-- What the sample leaves that ends the order of slot i in a state `z` of rest. -/
structure OrderEndsIn (i : Fin 8) (o : Outcome) (r : Reason) (s z t : State) : Prop where
  sequencer : t.sequencer = clearOrderState z.sequencer
  ends : OrderEnds i o r s t
  tracker : t.tracker = s.tracker
  drive : t.servos.driveMode = z.servos.driveMode
  brake : t.servos.brake = z.servos.brake
  tape : t.servos.t = z.servos.t
  rest : AtRestIn t
  loader : t.loader = s.loader
  classes : ∀ c : Nat, z.reporter.pendingClasses.getLsbD c = true → t.reporter.pendingClasses.getLsbD c = true
  blocks : (t.intake.results[i]).blocks = 0

theorem StopReported.loadSet {s a : State} (reported : StopReported s a) : a.generator.loadSet = s.generator.loadSet := by
  obtain ⟨p, generator⟩ := reported.generator
  rw [generator]

/-- The references stay at rest behind a sample's counts. -/
theorem StopReported.atRest {s a t : State} (reported : StopReported s a) (generator : t.generator = a.generator) : AtRestIn t := by
  obtain ⟨p, generatorA⟩ := reported.generator
  exact ⟨by rw [generator, generatorA], by rw [generator, generatorA], by rw [generator, generatorA]⟩

/-- A sample that ends the order of slot i, in the state of rest that `f` makes of the deck. -/
theorem endingSample_order (b : Bool) {s : State} {i : Fin 8} {o : Outcome} {r : Reason} (f : State → State) (ending : EndingSample s)
    (running : s.intake.running = some i) (context : s.tracker.context = none) (held : s.intake.queue = [] ∨ s.intake.suspended = true)
    (acts : ∀ a, StopReported s a → stopEnded a = endOrder o r false (f a)) (kept : ∀ a, StopReported s a → DeckKept a (f a))
    (still : ∀ a, StopReported s a → (f a).sequencer.transport = .unthreaded ∨ (f a).sequencer.transport = .stopped ∨
      (f a).sequencer.transport = .faulted)
    (phase : ∀ a, StopReported s a → (f a).sequencer.phase = none) :
    ∃ a t, StopReported s a ∧ exec (.servoSample b) s = .next t ∧ OrderEndsIn i o r s (f a) t := by
  obtain ⟨-, reported⟩ := generatorSample_stopEnds ending.ends ending.signals
  have sample (y : State) := endingSample_next b (y := y) ending
  generalize (generatorSample s).setSignals [] = a at *
  obtain ⟨tracker, intake, signals, generator, loader⟩ := kept a reported
  have contextZ : (f a).tracker.context = none := by rw [tracker, reported.tracker]; exact context
  have runningZ : (f a).intake.running = some i := by rw [intake, reported.intake]; exact running
  have ends := orderEnds_endOrder runningZ o r false
  have sequencer := endOrder_sequencer_plain contextZ o r false
  obtain ⟨generatorE, servosE, -, -, loaderE, signalsE, -⟩ := endOrder_keeps o r false (f a)
  have quiet : Quiet (endOrder o r false (f a)) := by
    refine quiet_atRest (signalsE.trans (signals.trans reported.signals)) (by rw [sequencer]; exact still a reported)
      (by rw [sequencer]; exact phase a reported) (by rw [generatorE, generator, reported.loadSet]; exact ending.settled) ?_
    rw [ends.queue, ends.suspended, intake, reported.intake]
    exact held.imp id fun suspended => .inl (by rw [suspended, Bool.true_or])
  have generatorT : (arbitrate (sampleEnded s.sequencer.vacuumRequest (endOrder o r false (f a)))).generator = a.generator :=
    (arbitrate_keeps _).2.2.1.trans (generatorE.trans generator)
  refine ⟨a, _, reported, sample _ (acts a reported) quiet, ?_⟩
  constructor
  case rest => exact reported.atRest generatorT
  case sequencer => exact (arbitrate_keeps _).2.1.trans sequencer
  case ends => exact ends.sampled (intake.trans reported.intake) _
  case tracker => exact (arbitrate_keeps _).1.trans ((endOrder_tracker contextZ o r false).trans (tracker.trans reported.tracker))
  case loader => exact (arbitrate_keeps _).2.2.2.2.2.2.2.1.trans (loaderE.trans (loader.trans reported.loader))
  case drive => rw [(arbitrate_keeps _).2.2.2.1, sampleEnded_servos, servosE]
  case brake => rw [(arbitrate_keeps _).2.2.2.1, sampleEnded_servos, servosE]
  case tape => rw [(arbitrate_keeps _).2.2.2.1, sampleEnded_servos, servosE]
  case classes =>
    intro c pending
    simp only [arbitrate_keeps]
    exact (endOrder_spec o r false (f a)).classes c pending
  case blocks =>
    simp only [arbitrate_keeps]
    exact endOrder_blocks runningZ contextZ o r false

/-! ### What the sequencer makes of a stop's end (R135, R137 to R142) -/

section
variable {s : State}

theorem stopEnded_seeking (seeking : s.seeking = true) : stopEnded s = seekStopEnded s := by
  have loading := (seeking_iff.mp seeking).1
  unfold stopEnded
  rw [loading]
  exact if_pos seeking

theorem seekStopEnded_completes (leg : s.sequencer.seekLeg = some .finalCreep) (marked : s.sequencer.legMarked = true)
    (free : s.sequencer.fixed = none) : seekStopEnded s = completeLoad s := by
  unfold seekStopEnded
  rw [free]
  dsimp only
  rw [if_pos marked, leg]

theorem seekStopEnded_fixed {f : FixedOutcome} (fixed : s.sequencer.fixed = some f) :
    seekStopEnded s = endOrder f.outcome f.reason false (setTransport .faulted none s) := by
  unfold seekStopEnded
  rw [fixed]

theorem stopEnded_rewinding (rewinding : s.sequencer.transport = .rewinding) (goes : s.sequencer.haltStop = false) :
    (∀ f, s.sequencer.fixed = some f → stopEnded s = endOrder f.outcome f.reason false (setTransport .stopped none s)) ∧
    (s.sequencer.fixed = none → s.rewindStep = some .final → stopEnded s = completeRewind s) := by
  unfold stopEnded
  rw [rewinding]
  dsimp only
  unfold rewindStopEnded
  rw [goes]
  refine ⟨fun f fixed => ?_, fun free final => ?_⟩
  · rw [fixed]
    rfl
  · rw [free, final]
    rfl

theorem stopEnded_unloading (unloading : s.sequencer.transport = .unloading) (goes : s.sequencer.haltStop = false) :
    (∀ f, s.sequencer.fixed = some f → stopEnded s = endOrder f.outcome f.reason false (setTransport .faulted none s)) ∧
    (s.sequencer.fixed = none → s.sequencer.phase = some .leader → stopEnded s = enterRelease s) ∧
    (s.sequencer.fixed = none → s.sequencer.phase = some .rewind → s.sequencer.rewindStep = some .final → stopEnded s = enterLeader s) := by
  unfold stopEnded
  rw [unloading]
  dsimp only
  unfold unloadStopEnded
  rw [goes]
  refine ⟨fun f fixed => ?_, fun free leader => ?_, fun free rewind final => ?_⟩
  · rw [fixed]
    rfl
  · rw [free, leader]
    rfl
  · have step : s.rewindStep = some .final := by
      unfold State.rewindStep
      rw [unloading, rewind]
      exact final
    rw [free, rewind, step]
    rfl

end

/-! ### The states that the orders end in (R135, R137, R140) -/

/-- The LOAD at the load point, before its order ends. -/
def loadedAt (s : State) : State :=
  raiseLoadPoint ((anchorAtLoadPoint (setTransport .stopped none s)).onSequencer fun q => { q with trusted := true, eot := none })

theorem completeLoad_eq (s : State) : completeLoad s = endOrder .done .none false (loadedAt s) := rfl

/-- The REWIND at the load point, before its order ends. -/
def rewoundAt (s : State) : State := raiseLoadPoint (anchorAtLoadPoint (setTransport .stopped none s))

theorem completeRewind_eq (s : State) : completeRewind s = endOrder .done .none false (rewoundAt s) := rfl

/-- The tape is out, before the UNLOAD's order ends. -/
def unloadedAt (s : State) : State := (setTransport .unthreaded none s).onSequencer fun q => { q with trusted := false, eot := none }

theorem completeUnload_eq (s : State) : completeUnload s = endOrder .done .none false (unloadedAt s) := rfl

/-- RELEASE, before its path is looked at. -/
def releaseBegun (s : State) : State :=
  startPhaseTimer Config.releaseMs
    (setTransport .unloading (some .release) (armWindow false (s.onSequencer fun q => { q with vacuumRequest := false })))

theorem enterRelease_eq (s : State) : enterRelease s =
    if (releaseBegun s).sensors.tapeInPath.debounced then releaseBegun s else completeUnload (releaseBegun s) := rfl

theorem raiseLoadPoint_tells (s : State) : (raiseLoadPoint s).reporter.pendingClasses.getLsbD 6 = true := raise_makes_pending _ _

theorem loadedAt_sequencer (s : State) : (loadedAt s).sequencer = { sequencerIn .stopped none s.sequencer with
    anchor := 0, gapKind := .loadPoint, trusted := true, eot := none } := by
  simp [loadedAt, anchorAtLoadPoint, setAnchor, setTransport_sequencer]

theorem rewoundAt_sequencer (s : State) : (rewoundAt s).sequencer = { sequencerIn .stopped none s.sequencer with
    anchor := 0, gapKind := .loadPoint } := by
  simp [rewoundAt, anchorAtLoadPoint, setAnchor, setTransport_sequencer]

theorem unloadedAt_sequencer (s : State) : (unloadedAt s).sequencer = { sequencerIn .unthreaded none s.sequencer with
    trusted := false, eot := none } := by
  simp [unloadedAt, setTransport_sequencer]

theorem releaseBegun_sequencer (s : State) : (releaseBegun s).sequencer =
    { sequencerIn .unloading (some .release) { s.sequencer with vacuumRequest := false } with phaseTimer := some Config.releaseMs } := by
  simp [releaseBegun, startPhaseTimer, setTransport_sequencer]

theorem setTransport_deck (t : Transport) (p : Option Phase) (s : State) : DeckKept s (setTransport t p s) := by
  constructor <;> simp

theorem loadedAt_deck (s : State) : DeckKept s (loadedAt s) := by
  constructor <;> simp [loadedAt, anchorAtLoadPoint, setAnchor]

theorem rewoundAt_deck (s : State) : DeckKept s (rewoundAt s) := by
  constructor <;> simp [rewoundAt, anchorAtLoadPoint, setAnchor]

theorem unloadedAt_deck (s : State) : DeckKept s (unloadedAt s) := by
  constructor <;> simp [unloadedAt]

theorem releaseBegun_deck (s : State) : DeckKept s (releaseBegun s) := by
  constructor <;> simp [releaseBegun, startPhaseTimer]

theorem DeckKept.trans {a b c : State} (x : DeckKept a b) (y : DeckKept b c) : DeckKept a c :=
  ⟨y.tracker.trans x.tracker, y.intake.trans x.intake, y.signals.trans x.signals, y.generator.trans x.generator, y.loader.trans x.loader⟩

theorem loadedAt_tape (s : State) : (loadedAt s).servos.t = s.servos.t := by
  simp [loadedAt, anchorAtLoadPoint, setAnchor, setTransport_tape]

theorem rewoundAt_tape (s : State) : (rewoundAt s).servos.t = s.servos.t := by
  simp [rewoundAt, anchorAtLoadPoint, setAnchor, setTransport_tape]

theorem unloadedAt_servos {s : State} (driven : s.servos.driveMode ≠ .off) : (unloadedAt s).servos.driveMode = .off ∧
    (unloadedAt s).servos.brake = true ∧ (unloadedAt s).servos.t = s.servos.t := by
  unfold unloadedAt
  refine ⟨?_, ?_, ?_⟩
  · rw [onSequencer_servos, setTransport_drive]; rfl
  · rw [onSequencer_servos, setTransport_brake_changed driven]; rfl
  · rw [onSequencer_servos, setTransport_tape]

theorem releaseBegun_servos {s : State} (driven : s.servos.driveMode ≠ .wind) : (releaseBegun s).servos.driveMode = .wind ∧
    (releaseBegun s).servos.brake = false ∧ (releaseBegun s).servos.t = s.servos.t := by
  unfold releaseBegun startPhaseTimer
  refine ⟨?_, ?_, ?_⟩
  · rw [onSequencer_servos, setTransport_drive]; rfl
  · rw [onSequencer_servos, setTransport_brake_changed]
    · rfl
    · rw [(armWindow_keeps _ _).2.2.2.1]; exact driven
  · rw [onSequencer_servos, setTransport_tape, (armWindow_keeps _ _).2.2.2.1]
    rfl

theorem clearWindowCounts_path (b : Bool) (s : State) : (armWindow b s).sensors.tapeInPath = s.sensors.tapeInPath := by
  unfold armWindow clearWindowCounts
  simp

theorem releaseBegun_sensors {s : State} (sane : s.sequencer.transport ≠ .faulted) :
    (releaseBegun s).sensors.windowArmed = false ∧ (releaseBegun s).sensors.tapeInPath = s.sensors.tapeInPath := by
  have sensors : (releaseBegun s).sensors = (armWindow false (s.onSequencer fun q => { q with vacuumRequest := false })).sensors :=
    setTransport_sensors (by decide) (by rw [(armWindow_keeps _ _).2.1]; exact sane)
  rw [sensors]
  exact ⟨armWindow_armed _ _, clearWindowCounts_path _ _⟩

/-! ### The stops' ends -/

section
variable {s : State} {i : Fin 8} (b : Bool) (ending : EndingSample s) (running : s.intake.running = some i)
  (context : s.tracker.context = none) (held : s.intake.queue = [] ∨ s.intake.suspended = true)
  (goes : s.sequencer.haltStop = false)
include ending running context held

theorem stopEnds_load (seeking : s.seeking = true) (leg : s.sequencer.seekLeg = some .finalCreep) (marked : s.sequencer.legMarked = true)
    (free : s.sequencer.fixed = none) :
    ∃ t, exec (.servoSample b) s = .next t ∧ t.sequencer.transport = .stopped ∧ t.sequencer.phase = none ∧
      t.sequencer.seekOrigin = none ∧ t.sequencer.trusted = true ∧ t.sequencer.anchor = 0 ∧ t.sequencer.gapKind = .loadPoint ∧
      t.sequencer.eot = none ∧ OrderEnds i .done .none s t ∧ t.reporter.pendingClasses.getLsbD 6 = true ∧
      (t.intake.results[i]).blocks = 0 ∧ AtRestIn t ∧ t.tracker = s.tracker ∧ t.servos.t = s.servos.t ∧ t.loader = s.loader := by
  obtain ⟨loading, phase⟩ := seeking_iff.mp seeking
  obtain ⟨a, t, reported, sample, ends⟩ := endingSample_order b (o := .done) (r := .none) loadedAt ending running context held
    (fun a reported => by
      rw [stopEnded_seeking (seeking_iff.mpr ⟨by rw [reported.sequencer]; exact loading, by rw [reported.sequencer]; exact phase⟩),
        seekStopEnded_completes (by rw [reported.sequencer]; exact leg) (by rw [reported.sequencer]; exact marked)
          (by rw [reported.sequencer]; exact free), completeLoad_eq])
    (fun a _ => loadedAt_deck a) (fun a _ => by rw [loadedAt_sequencer]; exact .inr (.inl rfl)) (fun a _ => by rw [loadedAt_sequencer]; rfl)
  have sequencer := ends.sequencer
  rw [loadedAt_sequencer, reported.sequencer] at sequencer
  refine ⟨t, sample, ?_, ?_, ?_, ?_, ?_, ?_, ?_, ends.ends, ends.classes 6 (raiseLoadPoint_tells _), ends.blocks, ends.rest, ends.tracker,
    (ends.tape.trans (loadedAt_tape a)).trans reported.tape, ends.loader⟩
  all_goals rw [sequencer]
  case refine_3 => simp [clearOrderState, sequencerIn, loading]
  all_goals rfl

theorem stopEnds_seekFixed (seeking : s.seeking = true) {f : FixedOutcome} (fixed : s.sequencer.fixed = some f) :
    ∃ a t, StopReported s a ∧ exec (.servoSample b) s = .next t ∧
      OrderEndsIn i f.outcome f.reason s (setTransport .faulted none a) t := by
  obtain ⟨loading, phase⟩ := seeking_iff.mp seeking
  refine endingSample_order b _ ending running context held (fun a reported => ?_) (fun a _ => setTransport_deck _ _ a)
    (fun a _ => by rw [setTransport_sequencer]; exact .inr (.inr rfl)) (fun a _ => by rw [setTransport_sequencer]; rfl)
  rw [stopEnded_seeking (seeking_iff.mpr ⟨by rw [reported.sequencer]; exact loading, by rw [reported.sequencer]; exact phase⟩),
    seekStopEnded_fixed (by rw [reported.sequencer]; exact fixed)]

include goes

theorem stopEnds_unloadFixed (unloading : s.sequencer.transport = .unloading) {f : FixedOutcome} (fixed : s.sequencer.fixed = some f) :
    ∃ a t, StopReported s a ∧ exec (.servoSample b) s = .next t ∧
      OrderEndsIn i f.outcome f.reason s (setTransport .faulted none a) t := by
  refine endingSample_order b _ ending running context held (fun a reported => ?_) (fun a _ => setTransport_deck _ _ a)
    (fun a _ => by rw [setTransport_sequencer]; exact .inr (.inr rfl)) (fun a _ => by rw [setTransport_sequencer]; rfl)
  exact (stopEnded_unloading (by rw [reported.sequencer]; exact unloading) (by rw [reported.sequencer]; exact goes)).1 f
    (by rw [reported.sequencer]; exact fixed)

theorem stopEnds_rewind (rewinding : s.sequencer.transport = .rewinding) (final : s.sequencer.phase = some (.step .final))
    (free : s.sequencer.fixed = none) :
    ∃ t, exec (.servoSample b) s = .next t ∧ t.sequencer.transport = .stopped ∧ t.sequencer.phase = none ∧
      t.sequencer.trusted = s.sequencer.trusted ∧ t.sequencer.anchor = 0 ∧ t.sequencer.gapKind = .loadPoint ∧
      t.sequencer.eot = s.sequencer.eot ∧ OrderEnds i .done .none s t ∧ t.reporter.pendingClasses.getLsbD 6 = true ∧
      AtRestIn t ∧ t.tracker = s.tracker ∧ t.servos.t = s.servos.t ∧ t.loader = s.loader := by
  obtain ⟨a, t, reported, sample, ends⟩ := endingSample_order b (o := .done) (r := .none) rewoundAt ending running context held
    (fun a reported => by
      have step : a.rewindStep = some .final := by
        unfold State.rewindStep
        rw [reported.sequencer, rewinding, final]
      exact ((stopEnded_rewinding (by rw [reported.sequencer]; exact rewinding) (by rw [reported.sequencer]; exact goes)).2
        (by rw [reported.sequencer]; exact free) step).trans (completeRewind_eq a))
    (fun a _ => rewoundAt_deck a) (fun a _ => by rw [rewoundAt_sequencer]; exact .inr (.inl rfl)) (fun a _ => by rw [rewoundAt_sequencer]; rfl)
  have sequencer := ends.sequencer
  rw [rewoundAt_sequencer, reported.sequencer] at sequencer
  refine ⟨t, sample, ?_, ?_, ?_, ?_, ?_, ?_, ends.ends, ends.classes 6 (raiseLoadPoint_tells _), ends.rest, ends.tracker,
    (ends.tape.trans (rewoundAt_tape a)).trans reported.tape, ends.loader⟩
  all_goals rw [sequencer]
  case refine_3 => simp [clearOrderState, sequencerIn]
  all_goals rfl

theorem stopEnds_rewindFixed (rewinding : s.sequencer.transport = .rewinding) {f : FixedOutcome} (fixed : s.sequencer.fixed = some f) :
    ∃ t, exec (.servoSample b) s = .next t ∧ t.sequencer.transport = .stopped ∧ t.sequencer.anchor = s.sequencer.anchor ∧
      t.sequencer.gapKind = s.sequencer.gapKind ∧ t.sequencer.trusted = s.sequencer.trusted ∧
      t.sequencer.eot = s.sequencer.eot ∧ OrderEnds i f.outcome f.reason s t ∧ t.tracker = s.tracker ∧
      t.servos.t = s.servos.t ∧ t.loader = s.loader := by
  obtain ⟨a, t, reported, sample, ends⟩ := endingSample_order b (o := f.outcome) (r := f.reason) (setTransport .stopped none) ending running
    context held
    (fun a reported => (stopEnded_rewinding (by rw [reported.sequencer]; exact rewinding) (by rw [reported.sequencer]; exact goes)).1 f
      (by rw [reported.sequencer]; exact fixed))
    (fun a _ => setTransport_deck _ _ a) (fun a _ => by rw [setTransport_sequencer]; exact .inr (.inl rfl))
    (fun a _ => by rw [setTransport_sequencer]; rfl)
  have sequencer := ends.sequencer
  rw [setTransport_sequencer, reported.sequencer] at sequencer
  refine ⟨t, sample, ?_, ?_, ?_, ?_, ?_, ends.ends, ends.tracker, (ends.tape.trans (setTransport_tape _ _ a)).trans reported.tape, ends.loader⟩
  all_goals rw [sequencer]
  case refine_4 => simp [clearOrderState, sequencerIn]
  all_goals rfl

theorem stopEnds_leaderClear (unloading : s.sequencer.transport = .unloading) (leader : s.sequencer.phase = some .leader)
    (free : s.sequencer.fixed = none) (clear : s.sensors.tapeInPath.debounced = false) :
    ∃ t, exec (.servoSample b) s = .next t ∧ t.sequencer.transport = .unthreaded ∧ t.sequencer.phase = none ∧
      t.sequencer.phaseTimer = none ∧ t.sequencer.trusted = false ∧ t.sequencer.eot = none ∧ t.servos.driveMode = .off ∧
      t.servos.brake = true ∧ OrderEnds i .done .none s t ∧ t.tracker = s.tracker ∧ t.servos.t = s.servos.t ∧
      t.loader = s.loader := by
  have sane (a : State) (reported : StopReported s a) : a.sequencer.transport ≠ .faulted := by
    rw [reported.sequencer, unloading]
    decide
  obtain ⟨a, t, reported, sample, ends⟩ := endingSample_order b (o := .done) (r := .none) (fun a => unloadedAt (releaseBegun a)) ending
    running context held
    (fun a reported => by
      rw [(stopEnded_unloading (by rw [reported.sequencer]; exact unloading) (by rw [reported.sequencer]; exact goes)).2.1
        (by rw [reported.sequencer]; exact free) (by rw [reported.sequencer]; exact leader), enterRelease_eq,
        (releaseBegun_sensors (sane a reported)).2, reported.sensors, clear]
      exact completeUnload_eq _)
    (fun a _ => (releaseBegun_deck a).trans (unloadedAt_deck _)) (fun a _ => by rw [unloadedAt_sequencer]; exact .inl rfl)
    (fun a _ => by rw [unloadedAt_sequencer]; rfl)
  have sequencer := ends.sequencer
  rw [unloadedAt_sequencer, releaseBegun_sequencer] at sequencer
  have follows : a.servos.driveMode ≠ .wind := by
    rw [reported.drive, ending.drive, unloading, leader]
    decide
  obtain ⟨wind, -, tapeR⟩ := releaseBegun_servos follows
  obtain ⟨drive, brake, tape⟩ := unloadedAt_servos (s := releaseBegun a) (by rw [wind]; decide)
  refine ⟨t, sample, ?_, ?_, ?_, ?_, ?_, ends.drive.trans drive, ends.brake.trans brake, ends.ends, ends.tracker,
    ((ends.tape.trans tape).trans tapeR).trans reported.tape, ends.loader⟩
  all_goals rw [sequencer]
  all_goals rfl

omit context held goes
include goes

theorem stopEnds_leaderOccupied (unloading : s.sequencer.transport = .unloading) (leader : s.sequencer.phase = some .leader)
    (free : s.sequencer.fixed = none) (occupied : s.sensors.tapeInPath.debounced = true) :
    ∃ t, exec (.servoSample b) s = .next t ∧ t.sequencer.transport = .unloading ∧ t.sequencer.phase = some .release ∧
      t.sequencer.vacuumRequest = false ∧ t.links.vacuum = s.sequencer.vacuumRequest ∧ t.sensors.windowArmed = false ∧
      t.sequencer.phaseTimer = some 60000 ∧ t.servos.driveMode = .wind ∧ t.servos.brake = false ∧ AtRestIn t ∧
      t.intake = s.intake ∧ t.tracker = s.tracker ∧ t.servos.t = s.servos.t ∧ t.loader = s.loader := by
  obtain ⟨-, reported⟩ := generatorSample_stopEnds ending.ends ending.signals
  have sample (y : State) := endingSample_next b (y := y) ending
  generalize (generatorSample s).setSignals [] = a at *
  obtain ⟨unarmed, path⟩ := releaseBegun_sensors (s := a) (by rw [reported.sequencer, unloading]; decide)
  have acts : stopEnded a = releaseBegun a := by
    rw [(stopEnded_unloading (by rw [reported.sequencer]; exact unloading) (by rw [reported.sequencer]; exact goes)).2.1
      (by rw [reported.sequencer]; exact free) (by rw [reported.sequencer]; exact leader), enterRelease_eq, path, reported.sensors, occupied]
    rfl
  obtain ⟨wind, brake, tape⟩ := releaseBegun_servos (s := a) (by
    rw [reported.drive, ending.drive, unloading, leader]
    decide)
  have sequencer := releaseBegun_sequencer a
  rw [reported.sequencer] at sequencer
  obtain ⟨tracker, intake, signals, generator, loader⟩ := releaseBegun_deck a
  generalize releaseBegun a = y at *
  have noStep : y.rewindStep = none := by
    unfold State.rewindStep
    rw [sequencer]
    rfl
  have quiet : Quiet y := by
    refine quiet_iff_nothingDue.mpr ⟨signals.trans reported.signals, nothingDue_of_still (by rw [sequencer]; rfl) noStep fun l _ phase => ?_,
      settlementDue_of_none (by rw [generator, reported.loadSet]; exact ending.settled),
      handOverDue_of_running (by rw [intake, reported.intake, running]; rfl)⟩
    rw [sequencer] at phase
    cases phase
  have links : (sampleEnded s.sequencer.vacuumRequest y).links.vacuum = s.sequencer.vacuumRequest := by
    rw [sampleEnded_links]
    unfold driveCommands
    split <;> rfl
  refine ⟨_, sample y acts quiet, ?_⟩
  have generatorT : (arbitrate (sampleEnded s.sequencer.vacuumRequest y)).generator = a.generator := (arbitrate_keeps _).2.2.1.trans generator
  have rest := reported.atRest generatorT
  simp only [arbitrate_keeps, sampleEnded_servos]
  rw [show (sampleEnded s.sequencer.vacuumRequest y).sequencer = _ from sequencer]
  exact ⟨rfl, rfl, rfl, links, unarmed, rfl, wind, brake, rest, intake.trans reported.intake, tracker.trans reported.tracker,
    tape.trans reported.tape, loader.trans reported.loader⟩

end

/-! ### LEADER begins (R138, R139) -/

/-- LEADER, before its creep. -/
def leaderEntered (s : State) : State :=
  (setTransport .unloading (some .leader) s).onSequencer fun q => { q with leaderStart := some s.tapePos }

theorem enterLeader_eq {s : State} (sane : s.sequencer.transport ≠ .faulted) :
    enterLeader s = startRequest .creepStart .backward (leaderEntered s) := by
  unfold enterLeader
  dsimp only
  rw [if_neg (by simp [sane])]
  rfl

/-- In HOLD with nothing to settle the creep begins at once. -/
theorem startRequest_begins {s : State} (c : Chain) (d : Direction) (hold : s.generator.mode = .hold) (idle : s.generator.settling = false) :
    (startRequest c d s).generator.dir = some d := by
  have generator : (setGenDir (some d) (dropChain s)).generator.dir = some d := by
    unfold setGenDir
    split
    · next same => exact same.symm
    · rfl
  unfold startRequest
  dsimp only
  rw [hold]
  dsimp only
  rw [idle, if_neg (by decide)]
  unfold beginStart
  dsimp only
  split <;> exact generator

theorem leaderEntered_sequencer (s : State) : (leaderEntered s).sequencer =
    { sequencerIn .unloading (some .leader) s.sequencer with leaderStart := some s.servos.t } := by
  rw [leaderEntered, onSequencer_sequencer, setTransport_sequencer]
  rfl

theorem leaderEntered_deck (s : State) : DeckKept s (leaderEntered s) := by
  constructor <;> simp [leaderEntered]

theorem stopEnds_unloadRewind {s : State} {i : Fin 8} (b : Bool) (ending : EndingSample s) (running : s.intake.running = some i)
    (goes : s.sequencer.haltStop = false) (unloading : s.sequencer.transport = .unloading) (rewind : s.sequencer.phase = some .rewind)
    (final : s.sequencer.rewindStep = some .final) (free : s.sequencer.fixed = none) (settled : s.generator.charact = none)
    (short : s.distance .creepStop < 40000) :
    ∃ t, exec (.servoSample b) s = .next t ∧ t.sequencer.transport = .unloading ∧ t.sequencer.phase = some .leader ∧
      t.sequencer.rewindStep = none ∧ t.sequencer.leaderStart = some s.servos.t ∧ t.generator.dir = some .backward ∧
      t.intake = s.intake ∧ t.tracker = s.tracker ∧ t.servos.t = s.servos.t ∧ t.servos.driveMode = .follow ∧
      t.loader = s.loader := by
  obtain ⟨-, reported⟩ := generatorSample_stopEnds ending.ends ending.signals
  have sample (y : State) := endingSample_next b (y := y) ending
  generalize (generatorSample s).setSignals [] = a at *
  obtain ⟨p, generatorA⟩ := reported.generator
  have acts : stopEnded a = startRequest .creepStart .backward (leaderEntered a) := by
    rw [(stopEnded_unloading (by rw [reported.sequencer]; exact unloading) (by rw [reported.sequencer]; exact goes)).2.2
      (by rw [reported.sequencer]; exact free) (by rw [reported.sequencer]; exact rewind) (by rw [reported.sequencer]; exact final),
      enterLeader_eq (by rw [reported.sequencer, unloading]; decide)]
  have sequencerE := leaderEntered_sequencer a
  rw [reported.sequencer, reported.tape] at sequencerE
  obtain ⟨trackerE, intakeE, signalsE, generatorE, loaderE⟩ := leaderEntered_deck a
  have driveE : (leaderEntered a).servos = a.servos := setTransport_servos (by
    rw [reported.drive, ending.drive, unloading, rewind]
    rfl)
  rw [generatorA] at generatorE
  have asked := startRequest_asked .creepStart .backward (leaderEntered a)
  have begins := startRequest_begins (s := leaderEntered a) .creepStart .backward (by rw [generatorE]) (by
    rw [generatorE]
    unfold Generator.settling
    rw [show _ = s.generator.charact from rfl, settled, ending.settled]
    rfl)
  generalize startRequest .creepStart .backward (leaderEntered a) = y at *
  have sequencer : y.sequencer = _ := asked.sequencer.trans sequencerE
  have tape : y.servos.t = s.servos.t := asked.tape.trans (by rw [driveE]; exact reported.tape)
  have noStep : y.rewindStep = none := by
    unfold State.rewindStep
    rw [sequencer]
    rfl
  have distance : y.distance .creepStop = s.distance .creepStop := by
    unfold State.distance
    rw [asked.active, generatorE]
  have quiet : Quiet y := by
    refine quiet_iff_nothingDue.mpr ⟨asked.signals.trans (signalsE.trans reported.signals),
      nothingDue_of_still (by rw [sequencer]; rfl) noStep fun l began _ _ _ _ => ?_,
      settlementDue_of_none (by rw [asked.loadSet, generatorE]; exact ending.settled),
      handOverDue_of_running (by rw [asked.intake, intakeE, reported.intake, running]; rfl)⟩
    rw [sequencer] at began
    have here : s.servos.t = l := Option.some.inj began
    rw [tape, distance, ← here]
    omega
  refine ⟨_, sample y acts quiet, ?_⟩
  simp only [arbitrate_keeps, sampleEnded_servos]
  rw [show (sampleEnded s.sequencer.vacuumRequest y).sequencer = _ from sequencer]
  refine ⟨rfl, rfl, ?_, rfl, begins, asked.intake.trans (intakeE.trans reported.intake), asked.tracker.trans (trackerE.trans reported.tracker),
    tape, ?_, asked.loader.trans (loaderE.trans reported.loader)⟩
  · simp [sequencerIn]
  · refine asked.drive.trans ?_
    rw [driveE, reported.drive, ending.drive, unloading, rewind]
    rfl

/-- An order that ends in FAULTED leaves the drives off. -/
theorem OrderEndsIn.faulted {i : Fin 8} {o : Outcome} {r : Reason} {s a t : State} (ends : OrderEndsIn i o r s (setTransport .faulted none a) t)
    (reported : StopReported s a) (driven : s.servos.driveMode ≠ .off) :
    t.sequencer.transport = .faulted ∧ t.sequencer.trusted = false ∧ t.servos.driveMode = .off ∧ t.servos.brake = true ∧
    t.servos.t = s.servos.t := by
  refine ⟨?_, ?_, ?_, ?_, ?_⟩
  · rw [ends.sequencer, setTransport_sequencer]; rfl
  · rw [ends.sequencer, setTransport_sequencer]; simp [clearOrderState, sequencerIn]
  · rw [ends.drive, setTransport_drive]; rfl
  · rw [ends.brake, setTransport_brake_changed (by rw [reported.drive]; exact driven)]; rfl
  · rw [ends.tape, setTransport_tape, reported.tape]

/-- Settles O12. -/
theorem stopEndsLoadRewindAndUnload : Obligations.StopEndsLoadRewindAndUnload := by
  intro b s i ending running context held goes
  refine ⟨stopEnds_load b ending running context held, stopEnds_rewind b ending running context held goes,
    stopEnds_unloadRewind b ending running goes, stopEnds_leaderOccupied b ending running goes,
    stopEnds_leaderClear b ending running context held goes,
    fun f fixed => ⟨fun moving => ?faulted, fun rewinding => stopEnds_rewindFixed b ending running context held goes rewinding fixed⟩⟩
  have driven : s.servos.driveMode ≠ .off := by
    rw [ending.drive]
    obtain seeking | unloading := moving
    · obtain ⟨loading, phase⟩ := seeking_iff.mp seeking
      rw [loading, phase]
      decide
    · rw [unloading]
      unfold driveModeOf
      dsimp only
      split <;> decide
  obtain ⟨a, t, reported, sample, ends⟩ : ∃ a t, StopReported s a ∧ exec (.servoSample b) s = .next t ∧
      OrderEndsIn i f.outcome f.reason s (setTransport .faulted none a) t := by
    obtain seeking | unloading := moving
    · exact stopEnds_seekFixed b ending running context held seeking fixed
    · exact stopEnds_unloadFixed b ending running context held goes unloading fixed
  obtain ⟨transport, trusted, drive, brake, tape⟩ := ends.faulted reported driven
  exact ⟨t, sample, transport, trusted, drive, brake, ends.ends, ends.tracker, tape, ends.loader⟩

end Sys2Proof.Machine
end

section
/-! Accepted switches that stop the deck or end a phase (R100 to R104, R130, R131, R140). -/

namespace Sys2Proof.Machine

/-! ### The switch records are the switches' own (R100) -/

/-- Only a level that is accepted moves a switch's record. -/
structure SwitchesKept (s u : State) : Prop where
  kept : ∀ sw : Switch, u.sensors.switch sw = s.sensors.switch sw

theorem SwitchesKept.trans {a b c : State} (x : SwitchesKept a b) (y : SwitchesKept b c) : SwitchesKept a c :=
  ⟨fun sw => (y.kept sw).trans (x.kept sw)⟩

theorem switchesKept_of_sensors {s u : State} (sensors : u.sensors = s.sensors) : SwitchesKept s u := ⟨fun sw => by rw [sensors]⟩

theorem switchesKept_armWindow (b : Bool) (s : State) : SwitchesKept s (armWindow b s) := by
  refine ⟨fun sw => ?_⟩
  unfold armWindow clearWindowCounts
  simp only [markStatusIf_keeps]
  cases sw <;> rfl

theorem switchesKept_endLossWatch (b : Bool) (s : State) : SwitchesKept s (endLossWatch b s) := by
  unfold endLossWatch
  split
  · exact ⟨fun sw => by cases sw <;> rfl⟩
  · exact switchesKept_of_sensors rfl

theorem switchesKept_setTransport (t : Transport) (p : Option Phase) (s : State) : SwitchesKept s (setTransport t p s) := by
  have moved (c b : Bool) : SwitchesKept s (endLossWatch b (followRefresh t (setDriveMode (driveModeOf t p)
      (markStatusIf c (s.onSequencer (sequencerIn t p)))))) :=
    (switchesKept_of_sensors (by simp)).trans (switchesKept_endLossWatch _ _)
  unfold setTransport
  dsimp only
  split
  · exact (moved _ _).trans (switchesKept_armWindow _ _)
  · exact moved _ _

theorem switchesKept_emergencyStop (s : State) : SwitchesKept s (emergencyStop s) := by
  unfold emergencyStop
  split
  · exact switchesKept_of_sensors rfl
  · dsimp only
    refine SwitchesKept.trans (b := setTransport .faulted none ((dropMotion s).setSignals []))
      (SwitchesKept.trans (b := (dropMotion s).setSignals []) (switchesKept_of_sensors ?_) (switchesKept_setTransport _ _ _)) ⟨fun sw => ?_⟩
    · simp
    · rw [(cutOrder_deck _ _ _ _).2.2.1]
      cases sw <;> simp [clearCaptures, Sensors.switch]

theorem switchesKept_keepCounts (n : Sensors) (s : State) : SwitchesKept s (keepCounts n s) := ⟨fun sw => by cases sw <;> rfl⟩

theorem switchesKept_followLoss (s : State) : SwitchesKept s (followLoss s) := ⟨fun sw => by cases sw <;> rfl⟩

/-! ### What is accepted (R100, R101) -/

/-- The record has taken its raw level, and STATUS is marked. -/
def levelAccepted (sw : Switch) (s : State) : State := markStatus (setSwitchRecord sw (s.sensors.switch sw).accepted s)

section
variable {sw : Switch} {s : State} {ms : Nat} (runs : (s.sensors.switch sw).timer = some ms)
include runs

theorem stabilityTimer_expires : exec (.stabilityTimerExpiry sw) s = .next (finishEvent (acceptSwitch sw s)) := by
  refine congrArg Host.Outcome.next (if_pos ?_)
  rw [runs]
  rfl

end

theorem acceptSwitch_changes {sw : Switch} {s : State} (settled : (s.sensors.switch sw).settled = true)
    (changed : (s.sensors.switch sw).raw ≠ (s.sensors.switch sw).debounced) :
    acceptSwitch sw s = switchAccepted sw (s.sensors.switch sw).raw (levelAccepted sw s) := by
  unfold acceptSwitch
  dsimp only
  rw [if_neg (by rw [settled]; decide), if_pos changed]
  rfl

theorem levelAccepted_switch (sw : Switch) (s : State) : ((levelAccepted sw s).sensors.switch sw).debounced = (s.sensors.switch sw).raw := by
  have record : (levelAccepted sw s).sensors.switch sw = (s.sensors.switch sw).accepted := by
    unfold levelAccepted setSwitchRecord
    simp only [markStatus_keeps, onSensors_sensors]
    exact setSwitch_switch _ _ _
  rw [record]
  rfl

theorem levelAccepted_other {sw other : Switch} (away : other ≠ sw) (s : State) :
    (levelAccepted sw s).sensors.switch other = s.sensors.switch other := by
  unfold levelAccepted setSwitchRecord
  simp only [markStatus_keeps, onSensors_sensors]
  cases sw <;> cases other
  case supplyVacuum.supplyVacuum | takeupVacuum.takeupVacuum | door.door | ring.ring | tapeInPath.tapeInPath => exact absurd rfl away
  all_goals rfl

theorem levelAccepted_sensors (sw : Switch) (s : State) :
    (levelAccepted sw s).sensors.windowArmed = s.sensors.windowArmed ∧ (levelAccepted sw s).sensors.lossWatch = s.sensors.lossWatch := by
  unfold levelAccepted setSwitchRecord
  simp only [markStatus_keeps, onSensors_sensors]
  cases sw <;> exact ⟨rfl, rfl⟩

theorem levelAccepted_keeps (sw : Switch) (s : State) :
    (levelAccepted sw s).tracker = s.tracker ∧ (levelAccepted sw s).sequencer = s.sequencer ∧ (levelAccepted sw s).generator = s.generator ∧
    (levelAccepted sw s).servos = s.servos ∧ (levelAccepted sw s).links = s.links ∧ (levelAccepted sw s).intake = s.intake ∧
    (levelAccepted sw s).path = s.path ∧ (levelAccepted sw s).loader = s.loader ∧ (levelAccepted sw s).signals = s.signals ∧
    (levelAccepted sw s).reporter.pendingClasses = s.reporter.pendingClasses := by
  unfold levelAccepted
  refine ⟨?_, ?_, ?_, ?_, ?_, ?_, ?_, ?_, ?_, ?_⟩ <;> simp [markStatus_pending]

theorem levelAccepted_supervised (sw : Switch) (s : State) : (levelAccepted sw s).supervised = s.supervised := by
  unfold State.supervised
  rw [(levelAccepted_sensors sw s).1, (levelAccepted_keeps sw s).2.1]

theorem sound_levelAccepted {s : State} (sound : Sound s) (sw : Switch) : Sound (levelAccepted sw s) :=
  (sound_markStatus (pq := s.pending) (sound_setSwitchRecord sw _ { sound with queue := rfl })).toSound

/-! ### Losses (R102, R103) -/

/-- What the sensors hold beside the armed flag has no part in a stop. -/
theorem ColumnsTold.sensed {m v : State} (told : ColumnsTold m v) (f : Sensors → Sensors)
    (armed : (f v.sensors).windowArmed = v.sensors.windowArmed) : ColumnsTold m (v.onSensors f) := by
  obtain ⟨⟨intake, transport, trusted, servos, speed, mode, dir, window, links, loader, classes⟩, sequencer, generator, path, signals⟩ := told
  exact ⟨⟨intake, transport, trusted, servos, speed, mode, dir, armed.trans window, links, loader, classes⟩, sequencer, generator, path, signals⟩

theorem EmergencyMade.ofBase {a a' m : State} (made : EmergencyMade a m) (intake : a'.intake = a.intake) (servos : a'.servos = a.servos)
    (links : a'.links = a.links) (loader : a'.loader = a.loader) : EmergencyMade a' m := by
  obtain ⟨⟨running, result, suspended⟩, transport, trusted, drive, brake, v, mode, dir, window, tape, notice, queue, linksM, loaderM⟩ := made
  rw [← intake] at result suspended queue
  rw [← servos] at tape
  rw [← links] at linksM
  rw [← loader] at loaderM
  exact ⟨⟨running, result, suspended⟩, transport, trusted, drive, brake, v, mode, dir, window, tape, notice, queue, linksM, loaderM⟩

/-- A loss that stops the deck: its event, the stop, and what the sensors then note. -/
structure LossStops (x y : State) : Prop where
  stops : ∃ e : Event, e.name.noticeClass = 0 ∧ ColumnsTold (emergencyStop (raise e x)) y ∧ SwitchesKept (emergencyStop (raise e x)) y

theorem lossStops_at {x : State} (e : Event) (first : e.name.noticeClass = 0) : LossStops x (emergencyStop (raise e x)) :=
  ⟨e, first, .refl _, switchesKept_of_sensors rfl⟩

theorem vacuumLost_stops (c : Reel) (x : State) : LossStops x (vacuumLost c x) := by
  refine ⟨⟨{ name := .vacuumLost, d0 := wordOfNat (columnCode c) }, rfl, ?_, ?_⟩⟩
  · unfold vacuumLost
    dsimp only
    split
    · exact ((ColumnsTold.refl _).sensed _ rfl).sensed _ rfl
    · exact (ColumnsTold.refl _).sensed _ rfl
  · unfold vacuumLost
    dsimp only
    split
    · exact (switchesKept_keepCounts _ _).trans (switchesKept_followLoss _)
    · exact switchesKept_followLoss _

/-- What a switch that is accepted LOST, OPEN or CLEAR hands on. -/
theorem switchAccepted_loses {sw : Switch} {x : State} (threaded : x.sequencer.transport ≠ .unthreaded)
    (loses : sw = .door ∨ ((sw = .supplyVacuum ∨ sw = .takeupVacuum) ∧ x.supervised = true) ∨ (sw = .tapeInPath ∧ x.releasing = false)) :
    LossStops x (switchAccepted sw false x) := by
  have supervisedLoss (c : Reel) (supervised : x.supervised = true) : vacuumChanged c false x = vacuumLost c x := by
    unfold vacuumChanged
    rw [supervised]
    rfl
  obtain rfl | ⟨rfl | rfl, supervised⟩ | ⟨rfl, occupied⟩ := loses
  · have opens : switchAccepted .door false x = emergencyStop (raise { name := .doorOpened } x) := if_pos (by simp [threaded])
    rw [opens]
    exact lossStops_at _ rfl
  · rw [show switchAccepted .supplyVacuum false x = _ from supervisedLoss .supply supervised]
    exact vacuumLost_stops _ x
  · rw [show switchAccepted .takeupVacuum false x = _ from supervisedLoss .takeup supervised]
    exact vacuumLost_stops _ x
  · have leaves : switchAccepted .tapeInPath false x = emergencyStop (raise { name := .tapeOut } x) := by
      show pathChanged false x = _
      unfold pathChanged
      rw [occupied, if_neg (by decide), if_neg (by decide), if_neg threaded]
    rw [leaves]
    exact lossStops_at _ rfl

/-- Settles O24. -/
theorem acceptedLossesStopTheDeck : Obligations.AcceptedLossesStopTheDeck := by
  refine ⟨?stops, ?second⟩
  case stops =>
    intro sw s ms sound runs settled raw debounced threaded sane noHandOver loses
    have accepted := acceptSwitch_changes (sw := sw) settled (by rw [raw, debounced]; decide)
    rw [raw] at accepted
    obtain ⟨-, sequencer, -, servos, links, intake, path, loader, -⟩ := levelAccepted_keeps sw s
    have soundX := sound_levelAccepted sound sw
    have debouncedX := levelAccepted_switch sw s
    have supervised := levelAccepted_supervised sw s
    generalize levelAccepted sw s = x at *
    have stops := switchAccepted_loses (sw := sw) (x := x) (by rw [sequencer]; exact threaded) (by
      rw [supervised, show x.releasing = s.releasing by unfold State.releasing; rw [sequencer]]
      exact loses)
    obtain ⟨e, first, told, switches⟩ := stops.stops
    obtain ⟨-, made, sensors⟩ := emergencyEnd_told soundX (by rw [sequencer]; exact threaded) (by rw [sequencer]; exact sane)
      (handOverDue_none_of noHandOver intake (by rw [path])) first told
    have kept := (switchesKept_of_sensors (raise_keeps e x).2.2.2.2.2.1).trans (switchesKept_emergencyStop (raise e x))
    refine ⟨_, (stabilityTimer_expires runs).trans (by rw [accepted]), ?_, made.ofBase intake.symm servos.symm links.symm loader.symm⟩
    rw [sensors, switches.kept, kept.kept, debouncedX, raw]
  case second =>
    intro sw s ms vacuum runs settled raw debounced faulted unarmed watched quiet
    have accepted := acceptSwitch_changes (sw := sw) settled (by rw [raw, debounced]; decide)
    rw [raw] at accepted
    obtain ⟨tracker, sequencer, generator, servos, links, intake, path, loader, signals, pending⟩ := levelAccepted_keeps sw s
    have debouncedX := levelAccepted_switch sw s
    obtain ⟨unarmedX, watchedX⟩ := levelAccepted_sensors sw s
    generalize levelAccepted sw s = x at *
    have faultedX : x.sequencer.transport = .faulted := by rw [sequencer]; exact faulted
    have unsupervised : x.supervised = false := by
      unfold State.supervised
      rw [unarmedX, unarmed, faultedX]
      rfl
    have lossWatched : x.lossWatched = true := by
      unfold State.lossWatched
      rw [faultedX, watchedX, watched]
      rfl
    have lost (c : Reel) : vacuumChanged c false x = followLoss (raise { name := .vacuumLost, d0 := wordOfNat (columnCode c) } x) := by
      unfold vacuumChanged
      rw [unsupervised, lossWatched]
      show vacuumLost c x = _
      unfold vacuumLost
      dsimp only
      rw [unsupervised, emergencyStop_faulted (by rw [(raise_keeps _ _).2.1]; exact faultedX)]
      rfl
    obtain ⟨c, accepts⟩ : ∃ c, switchAccepted sw false x = followLoss (raise { name := .vacuumLost, d0 := wordOfNat (columnCode c) } x) := by
      obtain rfl | rfl := vacuum
      · exact ⟨.supply, lost .supply⟩
      · exact ⟨.takeup, lost .takeup⟩
    rw [accepts] at accepted
    have told : ∃ e : Event, e = { name := .vacuumLost, d0 := wordOfNat (columnCode c) } := ⟨_, rfl⟩
    obtain ⟨e, isE⟩ := told
    rw [← isE] at accepted
    have name : e.name = .vacuumLost := by rw [isE]
    have quietY : Quiet (followLoss (raise e x)) := quiet_of_path quiet
      (((raise_keeps e x).2.1).trans sequencer) (((raise_keeps e x).2.2.1).trans generator) (((raise_keeps e x).2.2.2.1).trans servos)
      (((raise_keeps e x).2.2.2.2.2.2.1).trans intake) (by exact (by simp : (raise e x).loader = x.loader).trans loader)
      (by exact (by simp : (raise e x).signals = x.signals).trans signals) (by exact (by simp : (raise e x).path = x.path).trans path)
    have expires := stabilityTimer_expires runs
    rw [accepted, finishEvent_of_quiet quietY] at expires
    refine ⟨_, expires, ?_⟩
    simp only [arbitrate_keeps]
    refine ⟨?_, ?_, ?_, ?_, ?_, ?_, ?_, ?_, ?_⟩
    · rw [(switchesKept_followLoss _).kept, (raise_keeps e x).2.2.2.2.2.1, debouncedX, raw]
    · show (raise e x).reporter.pendingClasses = _
      rw [(raise_pending e x).1, pending, name]
      rfl
    · exact (raise_keeps e x).1.trans tracker
    · exact (raise_keeps e x).2.1.trans sequencer
    · exact (raise_keeps e x).2.2.1.trans generator
    · exact (raise_keeps e x).2.2.2.1.trans servos
    · exact (raise_keeps e x).2.2.2.2.1.trans links
    · exact (raise_keeps e x).2.2.2.2.2.2.1.trans intake
    · exact (by simp : (raise e x).loader = x.loader).trans loader

end Sys2Proof.Machine
end

section
/-! Phases that accepted switches and timers end, and the hold and refresh timers (R130, R131, R140, R168, R189). -/

namespace Sys2Proof.Machine

/-! ### Switches that end a phase (R130, R140) -/

/-- A vacuum switch accepted MADE leads to the vacuum check, at its first settling too. -/
theorem acceptSwitch_made {sw : Switch} {s : State} (vacuum : sw = .supplyVacuum ∨ sw = .takeupVacuum)
    (made : (s.sensors.switch sw).raw = true) (before : (s.sensors.switch sw).debounced = false) :
    acceptSwitch sw s = vacuumCheck (levelAccepted sw s) := by
  by_cases settled : (s.sensors.switch sw).settled = true
  · rw [acceptSwitch_changes settled (by rw [made, before]; decide), made]
    obtain rfl | rfl := vacuum <;> rfl
  · unfold acceptSwitch
    dsimp only
    rw [if_pos (by simpa using settled)]
    obtain rfl | rfl := vacuum <;> rfl

/-- What the beginning of LOOPS leaves. -/
structure LoopsBegun (s u : State) : Prop where
  sequencer : u.sequencer =
    { sequencerIn .loading (some .loops) s.sequencer with phaseTimer := some 3000, settleCount := 0 }
  drive : u.servos.driveMode = .loopHold
  brake : s.servos.driveMode = .off → u.servos.brake = false
  tape : u.servos.t = s.servos.t
  deck : DeckKept s u
  links : u.links = s.links
  path : u.path = s.path
  switches : SwitchesKept s u

theorem enterLoops_begins (s : State) : LoopsBegun s (enterLoops s) := by
  unfold enterLoops startPhaseTimer
  constructor
  case sequencer =>
    simp only [onSequencer_sequencer, setTransport_sequencer]
    rfl
  case drive =>
    simp only [onSequencer_servos, setTransport_drive]
    rfl
  case brake =>
    intro off
    simp only [onSequencer_servos]
    rw [setTransport_brake_changed (by rw [off]; decide)]
    rfl
  case tape => simp only [onSequencer_servos, setTransport_tape]
  case deck => constructor <;> simp
  case switches => exact (switchesKept_setTransport _ _ _).trans (switchesKept_of_sensors rfl)
  all_goals simp

theorem unloadedAt_switches (s : State) : SwitchesKept s (unloadedAt s) :=
  (switchesKept_setTransport _ _ _).trans (switchesKept_of_sensors rfl)

/-- The deck's state in which RELEASE has its path clear: the UNLOAD completes. -/
theorem pathChanged_completes {s : State} (releasing : s.releasing = true) : pathChanged false s = completeUnload s := by
  unfold pathChanged
  rw [releasing]
  rfl

/-- Settles O25. -/
theorem acceptedSwitchesEndThePhases : Obligations.AcceptedSwitchesEndThePhases := by
  refine ⟨?loops, ?release⟩
  case loops =>
    intro sw s ms vacuum runs made before others loading phase stage quiet
    have accepted := acceptSwitch_made vacuum made before
    obtain ⟨tracker, sequencer, generator, servos, links, intake, path, loader, signals, -⟩ := levelAccepted_keeps sw s
    have debouncedX := levelAccepted_switch sw s
    have madeX : (levelAccepted sw s).vacuumMade = true := by
      unfold State.vacuumMade
      obtain rfl | rfl := vacuum
      · rw [show (levelAccepted .supplyVacuum s).sensors.supplyVacuum.debounced = _ from debouncedX,
          show (levelAccepted .supplyVacuum s).sensors.takeupVacuum = _ from levelAccepted_other (other := .takeupVacuum) (by decide) s,
          made, others .takeupVacuum (.inr rfl) (by decide)]
        rfl
      · rw [show (levelAccepted .takeupVacuum s).sensors.takeupVacuum.debounced = _ from debouncedX,
          show (levelAccepted .takeupVacuum s).sensors.supplyVacuum = _ from levelAccepted_other (other := .supplyVacuum) (by decide) s,
          made, others .supplyVacuum (.inl rfl) (by decide)]
        rfl
    generalize levelAccepted sw s = x at *
    have ends : vacuumCheck x = enterLoops x := if_pos ⟨by rw [sequencer]; exact loading, by rw [sequencer]; exact phase,
      by rw [sequencer]; exact stage, madeX⟩
    rw [ends] at accepted
    have begun := enterLoops_begins x
    generalize enterLoops x = y at *
    obtain ⟨sequencerY, drive, brake, tape, deck, linksY, pathY, switches⟩ := begun
    rw [sequencer] at sequencerY
    obtain ⟨noSignal, -, noSettlement, noHandOver⟩ := quiet_iff.mp quiet
    have quietY : Quiet y := by
      refine quiet_iff.mpr ⟨deck.signals.trans (signals.trans noSignal), positionEvent_of_still (.inr (.inr (.inr (by rw [sequencerY]; rfl))))
        (by rw [sequencerY]; simp [sequencerIn]), ?_,
        handOverDue_none_of noHandOver (deck.intake.trans intake) (by rw [pathY, path])⟩
      exact settlementDue_congr (a := s) (deck.generator.trans generator) (by rw [pathY, path]) (by rw [pathY, path]) noSettlement
    have expires := stabilityTimer_expires runs
    rw [accepted, finishEvent_of_quiet quietY] at expires
    refine ⟨_, expires, ?_⟩
    simp only [arbitrate_keeps]
    rw [servos] at brake tape
    refine ⟨?_, ?_, ?_, ?_, ?_, ?_, ?_, drive, brake, tape, deck.tracker.trans tracker, deck.generator.trans generator, linksY.trans links,
      deck.intake.trans intake, deck.loader.trans loader⟩
    · rw [switches.kept, debouncedX, made]
    all_goals rw [sequencerY]
    case refine_6 => simp [sequencerIn, loading]
    case refine_7 => simp [sequencerIn]
    all_goals rfl
  case release =>
    intro s ms i runs settled raw debounced releasing running held context quiet
    have accepted := acceptSwitch_changes (sw := .tapeInPath) (s := s) settled (by
      show s.sensors.tapeInPath.raw ≠ s.sensors.tapeInPath.debounced
      rw [raw, debounced]
      decide)
    rw [show (s.sensors.switch .tapeInPath).raw = false from raw] at accepted
    obtain ⟨tracker, sequencer, generator, servos, links, intake, path, loader, signals, -⟩ := levelAccepted_keeps .tapeInPath s
    have debouncedX := levelAccepted_switch .tapeInPath s
    rw [show (s.sensors.switch .tapeInPath).raw = false from raw] at debouncedX
    generalize levelAccepted .tapeInPath s = x at *
    have completes : switchAccepted .tapeInPath false x = endOrder .done .none false (unloadedAt x) :=
      (pathChanged_completes (by unfold State.releasing at releasing ⊢; rw [sequencer]; exact releasing)).trans (completeUnload_eq x)
    rw [completes] at accepted
    have deck := unloadedAt_deck x
    have sequencerZ := unloadedAt_sequencer x
    have switches := unloadedAt_switches x
    have drive : (unloadedAt x).servos.driveMode = .off ∧ (unloadedAt x).servos.t = s.servos.t := by
      unfold unloadedAt
      simp only [onSequencer_servos, setTransport_drive, setTransport_tape, servos]
      exact ⟨rfl, trivial⟩
    have brake (driven : s.servos.driveMode ≠ .off) : (unloadedAt x).servos.brake = true :=
      (unloadedAt_servos (s := x) (by rw [servos]; exact driven)).2.1
    have linksZ : (unloadedAt x).links = x.links := by simp [unloadedAt]
    have pathZ : (unloadedAt x).path = x.path := by simp [unloadedAt]
    generalize unloadedAt x = z at *
    rw [sequencer] at sequencerZ
    have contextZ : z.tracker.context = none := by rw [deck.tracker, tracker]; exact context
    have runningZ : z.intake.running = some i := by rw [deck.intake, intake]; exact running
    have ends := orderEnds_endOrder runningZ .done .none false
    have sequencerY := endOrder_sequencer_plain contextZ .done .none false
    rw [sequencerZ] at sequencerY
    obtain ⟨generatorY, servosY, linksY, sensorsY, loaderY, signalsY, -⟩ := endOrder_keeps .done .none false z
    have trackerY := endOrder_tracker contextZ .done .none false
    have pathY : (endOrder .done .none false z).path = z.path := by
      have same : (endOrder .done .none false z).path = (settleRecords .done false z).path := (reportEnd_keeps _ _ _ _).2.2.2.2.2.2.1
      rw [same, settleRecords_nothing contextZ]
    generalize endOrder .done .none false z = y at *
    obtain ⟨noSignal, -, noSettlement, -⟩ := quiet_iff.mp quiet
    have quietY : Quiet y := by
      refine quiet_iff.mpr ⟨signalsY.trans (deck.signals.trans (signals.trans noSignal)),
        positionEvent_of_still (.inl (by rw [sequencerY]; rfl)) (by rw [sequencerY]; simp [clearOrderState, sequencerIn]), ?_, ?_⟩
      · exact settlementDue_congr (a := s) (generatorY.trans (deck.generator.trans generator)) (by rw [pathY, pathZ, path])
          (by rw [pathY, pathZ, path]) noSettlement
      · unfold handOverDue
        rw [ends.queue, ends.suspended, deck.intake, intake]
        obtain none | suspended := held
        · rw [none]
          split <;> rfl
        · rw [suspended]
          rfl
    have expires := stabilityTimer_expires (sw := .tapeInPath) runs
    rw [accepted, finishEvent_of_quiet quietY] at expires
    refine ⟨_, expires, ?_⟩
    have endsT : OrderEnds i .done .none s (arbitrate y) := by
      obtain ⟨runningY, outcome, reason, finalT, others, queue, suspended, event⟩ := ends
      rw [deck.intake, intake] at others queue suspended
      constructor <;> simp only [arbitrate_keeps]
      · exact runningY
      · exact outcome
      · exact reason
      · exact finalT
      · exact others
      · exact queue
      · exact suspended
      · exact event
    simp only [arbitrate_keeps]
    refine ⟨?_, ?_, ?_, ?_, ?_, ?_, ?_, ?_, endsT, ?_, ?_, generatorY.trans (deck.generator.trans generator), linksY.trans (linksZ.trans links),
      loaderY.trans (deck.loader.trans loader)⟩
    case refine_1 =>
      rw [sensorsY]
      show (z.sensors.switch .tapeInPath).debounced = false
      rw [switches.kept, debouncedX]
    case refine_7 => rw [servosY]; exact drive.1
    case refine_8 => rw [servosY]; exact brake
    case refine_9 => rw [servosY]; exact drive.2
    case refine_10 => exact trackerY.trans (deck.tracker.trans tracker)
    all_goals rw [sequencerY]
    case refine_4 =>
      have unloading : s.sequencer.transport = .unloading := by
        unfold State.releasing at releasing
        simp only [Bool.and_eq_true, decide_eq_true_eq] at releasing
        exact releasing.1
      simp [clearOrderState, sequencerIn, unloading]
    all_goals rfl

/-! ### Timers (R130, R131, R140, R168, R189) -/

theorem StartAsked.trans {s t u : State} (first : StartAsked s t) (second : StartAsked t u) : StartAsked s u := by
  obtain ⟨tracker, sequencer, links, sensors, intake, loader, reporter, signals, drive, tape, brake, sweep, upper, active, loadSet, settlement⟩ := first
  exact ⟨second.tracker.trans tracker, second.sequencer.trans sequencer, second.links.trans links, second.sensors.trans sensors,
    second.intake.trans intake, second.loader.trans loader, second.reporter.trans reporter, second.signals.trans signals,
    second.drive.trans drive, second.tape.trans tape, second.brake.trans brake, second.sweep.trans sweep, second.upper.trans upper,
    second.active.trans active, second.loadSet.trans loadSet, second.settlement ∘ settlement⟩

theorem takeWaiting_asked (s : State) : StartAsked s (takeWaiting s) := by
  unfold takeWaiting
  split
  · next settled =>
    refine (startAsked_waiting none s).trans (startAsked_beginStart _ ?_)
    unfold Generator.settling at settled
    simp only [Bool.or_eq_false_iff] at settled
    exact Option.not_isSome_iff_eq_none.mp (Bool.eq_false_iff.mp settled.2)
  · exact startAsked_refl s

/-- What an event at rest can still bring about: a LOAD's settlement, and then a start request. -/
structure RestFollowed (s u : State) : Prop where
  intake : u.intake = s.intake
  drive : u.servos.driveMode = s.servos.driveMode
  sequencer : ∃ l, u.sequencer = { s.sequencer with loadStage := l }

/-- At rest, with the queue suspended, an event ends with the deck as it was. -/
theorem finishEvent_atRest {s : State} (signals : s.signals = [])
    (still : s.sequencer.transport = .unthreaded ∨ s.sequencer.transport = .stopped ∨ s.sequencer.transport = .faulted)
    (phase : s.sequencer.phase = none) (suspended : s.intake.suspended = true) :
    ∃ u, finishEvent s = arbitrate u ∧ RestFollowed s u := by
  have noPosition : positionEvent s = none := positionEvent_of_still (still.imp id (Or.imp id .inl)) (by rw [phase]; simp)
  have noHandOver : handOverDue s = none := by
    unfold handOverDue
    rw [suspended]
    rfl
  cases due : settlementDue s with
  | none =>
    exact ⟨s, finishEvent_of_quiet (quiet_iff.mpr ⟨signals, noPosition, due, noHandOver⟩), rfl, rfl, s.sequencer.loadStage, rfl⟩
  | some u =>
    have settles := settlementDue_settles due
    have asked := takeWaiting_asked u
    obtain ⟨l, sequencer⟩ := settles.sequencer
    obtain ⟨a, c, generator⟩ := settles.generator
    have sequencerW : (takeWaiting u).sequencer = { s.sequencer with loadStage := l } := asked.sequencer.trans sequencer
    have away : vacuumCheck (takeWaiting u) = takeWaiting u := vacuumCheck_other (.inr (by rw [sequencerW, phase]; simp))
    have once : reactOnce s = some (takeWaiting u) := by
      unfold reactOnce
      rw [signals]
      show (positionEvent s <|> settlementEvent s <|> handOverEvent s) = some (takeWaiting u)
      rw [noPosition, settlementEvent, due, Option.map_some, away]
      rfl
    have intake : (takeWaiting u).intake = s.intake := asked.intake.trans settles.intake
    have quiet : Quiet (takeWaiting u) := by
      refine quiet_atRest (asked.signals.trans (settles.signals.trans signals)) ?_ ?_ ?_ (.inr (.inl (by rw [intake]; exact suspended)))
      · rw [sequencerW]; exact still
      · rw [sequencerW]; exact phase
      · rw [asked.loadSet, generator]
    exact ⟨_, finishEvent_of_once once quiet, intake, asked.drive.trans (congrArg Servos.driveMode settles.servos), l, sequencerW⟩

/-- The running order fails where the deck comes to rest with the drives off. -/
structure FailedAtRest (place : Transport) (r : Reason) (s t : State) : Prop extends EndsSuspended .failed r s t where
  transport : t.sequencer.transport = place
  request : t.sequencer.vacuumRequest = (sequencerIn place none s.sequencer).vacuumRequest
  drive : t.servos.driveMode = .off
  timer : t.sequencer.phaseTimer = none

theorem failOrder_rests {place : Transport} {s : State} {i : Fin 8} (rest : place = .unthreaded ∨ place = .faulted)
    (leaves : s.sequencer.transport ≠ place) (running : s.intake.running = some i) (signals : s.signals = []) (r : Reason) :
    FailedAtRest place r s (finishEvent (failOrder r (setTransport place none s))) := by
  let +generalize (eq := isD) d := setTransport place none s
  have intakeD : d.intake = s.intake := by simp [isD]
  have signalsD : d.signals = [] := by simpa [isD] using signals
  have sequencerD : d.sequencer = sequencerIn place none s.sequencer := setTransport_sequencer _ _ _
  have driveD : d.servos.driveMode = .off := by
    rw [isD, setTransport_drive]
    obtain rfl | rfl := rest <;> rfl
  have ended := endOrder_spec .failed r false d
  obtain ⟨a, g, sequencer⟩ := endOrder_sequencer .failed r false d
  obtain ⟨-, servos, -, -, -, signalsE, -⟩ := endOrder_keeps .failed r false d
  have suspended : (endOrder .failed r false d).intake.suspended = true :=
    ended.suspended (by rw [intakeD, running]; rfl) rfl
  have result := ended.result i (by rw [intakeD]; exact running)
  have runningE := ended.running
  show FailedAtRest place r s (finishEvent (endOrder .failed r false d))
  generalize endOrder .failed r false d = e at *
  rw [sequencerD] at sequencer
  obtain ⟨u, finish, intakeU, driveU, l, sequencerU⟩ := finishEvent_atRest (s := e) (signalsE.trans signalsD)
    (by rw [sequencer]; exact rest.imp id .inr) (by rw [sequencer]; rfl) suspended
  rw [finish]
  rw [sequencer] at sequencerU
  constructor
  case transport => simp only [arbitrate_keeps]; rw [sequencerU]; rfl
  case request => simp only [arbitrate_keeps]; rw [sequencerU]; rfl
  case drive => simp only [arbitrate_keeps]; rw [driveU, servos]; exact driveD
  case timer => simp only [arbitrate_keeps]; rw [sequencerU]; exact if_pos (decide_eq_true (Ne.symm leaves))
  case toEndsSuspended =>
    constructor <;> simp only [arbitrate_keeps, intakeU]
    case running => exact runningE
    case result =>
      intro j same
      rw [running] at same
      cases same
      exact result
    case suspended => exact fun _ => suspended

theorem transport_of_phaseTimerIn {place : Transport} {p : Phase} {s : State} (runs : phaseTimerIn place p s = true) :
    s.sequencer.transport = place := by
  unfold phaseTimerIn at runs
  simp only [Bool.and_eq_true, decide_eq_true_eq] at runs
  exact runs.1.2

/-- Settles O26. -/
theorem timersExpire : Obligations.TimersExpire := by
  refine ⟨fun s => ⟨fun held => ?_, fun ms runs => ?_⟩, fun s i running signals => ⟨fun inVacuum lost => ?_, fun inLoops => ?_, fun inRelease => ?_⟩⟩
  · show Host.Outcome.next (retryHeld s) = _
    unfold retryHeld
    rw [held]
    rfl
  · show Host.Outcome.next (refreshExpiry s) = _
    unfold refreshExpiry
    rw [runs]
    dsimp only [markStatus, mark, State.onReporter]
    split <;> rfl
  · have expires : exec .vacuumTimeout s = .next (finishEvent (failLoad .vacuumTimeout s)) := by
      show Host.Outcome.next (s.doIf (phaseTimerIn .loading .vacuum s) vacuumExpiry) = _
      rw [doIf_true inVacuum, vacuumExpiry, lost]
      rfl
    have rests := failOrder_rests (.inl rfl) (by rw [transport_of_phaseTimerIn inVacuum]; decide) running signals .vacuumTimeout
    exact ⟨_, expires, rests.transport, rests.request.trans (Bool.and_false _), rests.drive, rests.timer, rests.toEndsSuspended⟩
  · have expires : exec .loopTimeout s = .next (finishEvent (failLoad .loopTimeout s)) := by
      show Host.Outcome.next (s.doIf (phaseTimerIn .loading .loops s) fun a => finishEvent (failLoad .loopTimeout a)) = _
      rw [doIf_true inLoops]
    have rests := failOrder_rests (.inl rfl) (by rw [transport_of_phaseTimerIn inLoops]; decide) running signals .loopTimeout
    exact ⟨_, expires, rests.transport, rests.request.trans (Bool.and_false _), rests.drive, rests.timer, rests.toEndsSuspended⟩
  · have expires : exec .unloadTimeout s = .next (finishEvent (failOrder .unloadTimeout (setTransport .faulted none s))) := by
      show Host.Outcome.next (s.doIf (phaseTimerIn .unloading .release s) fun a =>
        finishEvent (failOrder .unloadTimeout (setTransport .faulted none a))) = _
      rw [doIf_true inRelease]
    have rests := failOrder_rests (.inr rfl) (by rw [transport_of_phaseTimerIn inRelease]; decide) running signals .unloadTimeout
    exact ⟨_, expires, rests.transport, rests.drive, rests.timer, rests.toEndsSuspended⟩

end Sys2Proof.Machine
end

section
/-! State codes written into the ring that fill a record or free it (R1, R2, R9, R10). -/

namespace Sys2Proof.Machine

/-! ### The word of the ring (R1) -/

/-- The state word of descriptor i replaced by a code. -/
def codeWritten (i : Fin 16) (code : Word) (s : State) : State :=
  mergeDescriptor (⟨4 * i.val + 2, by omega⟩ : Fin 64) (fullWord code) s

theorem codeWritten_word (i j : Fin 16) (k : Fin 4) (code : Word) (s : State) :
    (codeWritten i code s).descriptorWord j k = if i = j ∧ k = 2 then code else s.descriptorWord j k := by
  have merged := mergeDescriptor_word i j 2 k (fullWord code) s
  rw [mergeWord_fullWord] at merged
  refine merged.trans (ite_congr ?_ (fun _ => rfl) fun _ => rfl)
  rw [eq_comm (a := (2 : Fin 4))]

theorem codeWritten_keeps (i : Fin 16) (code : Word) (s : State) :
    (codeWritten i code s).tracker = s.tracker ∧ (codeWritten i code s).sequencer = s.sequencer ∧
    (codeWritten i code s).generator = s.generator ∧ (codeWritten i code s).servos = s.servos ∧
    (codeWritten i code s).links = s.links ∧ (codeWritten i code s).sensors = s.sensors ∧
    (codeWritten i code s).intake = s.intake ∧ (codeWritten i code s).loader = s.loader ∧
    (codeWritten i code s).reporter = s.reporter ∧ (codeWritten i code s).signals = s.signals := by
  unfold codeWritten
  simp

/-- Nothing of the ports but the shadow of the ring changes. -/
theorem codeWritten_path (i : Fin 16) (code : Word) (s : State) :
    (codeWritten i code s).path = { s.path with descriptors := (codeWritten i code s).path.descriptors } := rfl

/-- A watched code is acted on in the ring that holds it. -/
theorem descriptorCommand_eq {s : State} (watched : RingWatched s) (i : Fin 16) (code : Word) :
    descriptorCommand i code s = finishEvent (stateCodeWrite i code.toNat (codeWritten i code s)) := by
  have word := codeWritten_word i i 2 code s
  rw [if_pos ⟨rfl, rfl⟩] at word
  have written : descriptorWrite i (fullWord code) s =
      stateCodeWrite i ((codeWritten i code s).descriptorWord i 2).toNat (codeWritten i code s) := by
    unfold descriptorWrite
    dsimp only
    rw [if_neg (by rw [watched.sweep]; simp)]
    rfl
  unfold descriptorCommand
  rw [if_pos watched.configured, written, word]

theorem codeWritten_record (i j : Fin 16) (code : Word) (s : State) : (codeWritten i code s).record j = s.record j :=
  record_congr (codeWritten_keeps i code s).1 j

/-! ### Records that change alone -/

/-- Only the Block Tracker, the reports and the ring's shadow differ. -/
structure TrackerOnly (s u : State) : Prop where
  sequencer : u.sequencer = s.sequencer
  generator : u.generator = s.generator
  servos : u.servos = s.servos
  links : u.links = s.links
  sensors : u.sensors = s.sensors
  intake : u.intake = s.intake
  loader : u.loader = s.loader
  signals : u.signals = s.signals
  path : ∃ d, u.path = { s.path with descriptors := d }

theorem TrackerOnly.quiet {s u : State} (only : TrackerOnly s u) (quiet : Quiet s) : Quiet u := by
  obtain ⟨sequencer, generator, servos, -, -, intake, loader, signals, d, path⟩ := only
  exact quiet_of_kept quiet sequencer generator servos intake loader signals (holding_congr (by rw [path])) (by rw [path])
    fun p => by rw [canSettle_congr (a := s) p generator (by rw [path]) (by rw [path])]; exact id

theorem TrackerOnly.trans {s t u : State} (first : TrackerOnly s t) (second : TrackerOnly t u) : TrackerOnly s u := by
  obtain ⟨sequencer, generator, servos, links, sensors, intake, loader, signals, d, path⟩ := first
  obtain ⟨d', path'⟩ := second.path
  exact ⟨second.sequencer.trans sequencer, second.generator.trans generator, second.servos.trans servos, second.links.trans links,
    second.sensors.trans sensors, second.intake.trans intake, second.loader.trans loader, second.signals.trans signals, d', by rw [path', path]⟩

theorem trackerOnly_codeWritten (i : Fin 16) (code : Word) (s : State) : TrackerOnly s (codeWritten i code s) := by
  obtain ⟨-, sequencer, generator, servos, links, sensors, intake, loader, -, signals⟩ := codeWritten_keeps i code s
  exact ⟨sequencer, generator, servos, links, sensors, intake, loader, signals, _, codeWritten_path i code s⟩

theorem trackerOnly_setRecord (i : Fin 16) (r : BlockRecord) (s : State) : TrackerOnly s (setRecord i r s) := by
  obtain ⟨sequencer, generator, servos, links, sensors, intake, path, loader, signals, -⟩ := setRecord_keeps i r s
  exact ⟨sequencer, generator, servos, links, sensors, intake, loader, signals, s.path.descriptors, path⟩

theorem trackerOnly_raiseBlock (e : EventName) (i : Fin 16) (a b : Word) (s : State) : TrackerOnly s (raiseBlock e i a b s) := by
  obtain ⟨-, sequencer, generator, servos, links, sensors, intake, path, loader, signals, -⟩ := raiseBlock_keeps e i a b s
  exact ⟨sequencer, generator, servos, links, sensors, intake, loader, signals, s.path.descriptors, path⟩

/-! ### FILLED (R9) -/

theorem cursorFilled_of_plain {s : State} (plain : s.sequencer.fillWait = false) : cursorFilled s = s :=
  if_pos (by rw [plain]; rfl)

theorem receiveFreed_of_plain {s : State} (plain : s.sequencer.freeWait = false) : receiveFreed s = s :=
  if_pos (by rw [plain]; rfl)

/-- FILLED of a valid entry that no order waits for. -/
theorem stateFilled_takes {i : Fin 16} {s : State} (free : (s.record i).state = .free)
    (valid : entryValid (s.descriptorWord i 0) (s.descriptorWord i 1) s.loader.groupA.bufferSize = true)
    (plain : i ≠ s.tracker.recordCursor ∨ s.sequencer.fillWait = false) :
    stateFilled i s = setRecord i (filledRecord (s.descriptorWord i 0) (s.descriptorWord i 1)) s := by
  unfold stateFilled
  dsimp only
  rw [if_pos free, if_pos valid]
  split
  · next atCursor => exact cursorFilled_of_plain (by
      rw [(setRecord_keeps _ _ _).1]
      exact plain.resolve_left fun other => other atCursor)
  · rfl

theorem stateFilled_invalid {i : Fin 16} {s : State} (free : (s.record i).state = .free)
    (invalid : entryValid (s.descriptorWord i 0) (s.descriptorWord i 1) s.loader.groupA.bufferSize = false) :
    stateFilled i s = invalidEntry i s := by
  unfold stateFilled
  dsimp only
  rw [if_pos free, invalid]
  rfl

theorem stateCodeWrite_undefined {code : Nat} (above : 6 < code) (i : Fin 16) (s : State) :
    stateCodeWrite i code s = invalidEntry i s := by
  obtain ⟨n, rfl⟩ : ∃ n, code = n + 7 := ⟨code - 7, by omega⟩
  rfl

/-- A shown field's change marks the block's report (R3). -/
theorem mem_setRecord_dirty {i : Fin 16} {r : BlockRecord} {s : State}
    (shown : ({ r with checkTimer := none } : BlockRecord) ≠ { s.record i with checkTimer := none }) :
    .block i ∈ (setRecord i r s).reporter.dirty := by
  unfold setRecord
  dsimp only
  rw [(recount_keeps _).2.2.2.2.2.2.2.2.1, if_pos (decide_eq_true shown), mark_reporter]
  exact mem_marked _ _

/-- Settles O44. -/
theorem filledWritesAreTakenOrIgnored : Obligations.FilledWritesAreTakenOrIgnored := by
  refine ⟨?taken, ?ignored⟩
  case taken =>
    intro s i watched free valid plain quiet
    let +generalize (eq := isX) x := codeWritten i 1#32 s
    obtain ⟨tracker, sequencer, -, -, -, -, -, loader, -⟩ := codeWritten_keeps i 1#32 s
    have word (k : Fin 4) : k ≠ 2 → x.descriptorWord i k = s.descriptorWord i k := fun other =>
      (codeWritten_word i i k 1#32 s).trans (if_neg fun h => other h.2)
    have takes : stateFilled i x = setRecord i (filledRecord (s.descriptorWord i 0) (s.descriptorWord i 1)) x := by
      rw [← word 0 (by decide), ← word 1 (by decide)]
      refine stateFilled_takes ?_ ?_ ?_
      · rw [isX, codeWritten_record]; exact free
      · rw [word 0 (by decide), word 1 (by decide), loader]; exact valid
      · rw [tracker, sequencer]; exact plain
    let +generalize (eq := isR) r := filledRecord (s.descriptorWord i 0) (s.descriptorWord i 1)
    have only := (trackerOnly_codeWritten i 1#32 s).trans (trackerOnly_setRecord i r x)
    have fills : exec (.filled i) s = .next (arbitrate (setRecord i r x)) := by
      show Host.Outcome.next (descriptorCommand i 1 s) = _
      rw [descriptorCommand_eq watched]
      show Host.Outcome.next (finishEvent (stateFilled i x)) = _
      rw [takes, finishEvent_of_quiet (only.quiet quiet)]
    have pathT : (arbitrate (setRecord i r x)).descriptorWord i 2 = x.descriptorWord i 2 := by
      unfold State.descriptorWord
      simp only [(arbitrate_path _).2, setRecord_path]
    refine ⟨_, fills, ?_⟩
    have record (j : Fin 16) : (arbitrate (setRecord i r x)).record j = (setRecord i r x).record j := record_congr (arbitrate_keeps _).1 j
    simp only [arbitrate_keeps, record, pathT]
    refine ⟨?_, fun j other => ?_, ?_, ?_, only.sequencer, only.generator, only.servos, only.links, only.sensors, only.intake, only.loader⟩
    · rw [setRecord_self, isR]
      unfold filledRecord tapeLengthOf
      rfl
    · rw [setRecord_other _ _ other, isX, codeWritten_record]
    · exact (codeWritten_word i i 2 1#32 s).trans (if_pos ⟨rfl, rfl⟩)
    · refine mem_setRecord_dirty fun same => ?_
      have state := congrArg BlockRecord.state same
      rw [isX, codeWritten_record] at state
      exact BlockState.noConfusion (state.trans free)
  case ignored =>
    intro s i code watched quiet wrong
    let +generalize (eq := isX) x := codeWritten i code s
    obtain ⟨tracker, -, -, -, -, -, -, loader, reporter, -⟩ := codeWritten_keeps i code s
    have invalid : stateCodeWrite i code.toNat x = invalidEntry i x := by
      obtain ⟨free, invalid, rfl⟩ | above := wrong
      · refine stateFilled_invalid (by rw [isX, codeWritten_record]; exact free) ?_
        rw [isX, codeWritten_word, codeWritten_word, if_neg (by simp), if_neg (by simp), loader]
        exact invalid
      · exact stateCodeWrite_undefined above i x
    have only := (trackerOnly_codeWritten i code s).trans (trackerOnly_raiseBlock .descriptorInvalid i 0 0 x)
    have ignores : exec (if code = 1#32 then .filled i else .invalidStateCode i code) s = .next (arbitrate (invalidEntry i x)) := by
      have command : exec (if code = 1#32 then .filled i else .invalidStateCode i code) s = .next (descriptorCommand i code s) := by
        split
        · next one => rw [one]; rfl
        · rfl
      rw [command, descriptorCommand_eq watched, invalid]
      exact congrArg Host.Outcome.next (finishEvent_of_quiet (only.quiet quiet))
    have pathT : (arbitrate (invalidEntry i x)).descriptorWord i 2 = x.descriptorWord i 2 := by
      unfold State.descriptorWord invalidEntry
      simp only [(arbitrate_path _).2, raiseBlock_keeps]
    refine ⟨_, ignores, ?_⟩
    simp only [arbitrate_keeps, pathT]
    refine ⟨(codeWritten_word i i 2 code s).trans (if_pos ⟨rfl, rfl⟩), ?_, ?_, only.sequencer, only.generator, only.servos, only.links,
      only.sensors, only.intake, only.loader⟩
    · unfold invalidEntry
      rw [(raiseBlock_pending _ _ _ _ _).1, reporter]
      rfl
    · exact (raiseBlock_keeps _ _ _ _ _).1.trans tracker

/-! ### EMPTY (R10) -/

/-- EMPTY of a block that no order holds and none waits to see freed. -/
theorem stateEmpty_frees {i : Fin 16} {s : State} (done : (s.record i).state ∈ [BlockState.filled, .verified, .failed, .received, .unreadable])
    (plain : i ≠ s.tracker.receiveCursor ∨ s.sequencer.freeWait = false) : stateEmpty i s = freeRecord i s := by
  have frees : (if i = s.tracker.receiveCursor then receiveFreed (freeRecord i s) else freeRecord i s) = freeRecord i s := by
    split
    · next atCursor => exact receiveFreed_of_plain (by
        rw [(freeRecord_keeps i s).1]
        exact plain.resolve_left fun other => other atCursor)
    · rfl
  unfold stateEmpty
  simp only [List.mem_cons, List.not_mem_nil, or_false] at done
  obtain state | state | state | state | state := done <;> rw [state] <;> exact frees

/-- Settles O45. -/
theorem emptyFreesTheRecord : Obligations.EmptyFreesTheRecord := by
  intro s i watched done plain quiet
  let +generalize (eq := isX) x := codeWritten i 0#32 s
  obtain ⟨tracker, sequencer, -⟩ := codeWritten_keeps i 0#32 s
  have frees : stateEmpty i x = setRecord i BlockRecord.blank x :=
    stateEmpty_frees (by rw [isX, codeWritten_record]; exact done) (by rw [tracker, sequencer]; exact plain)
  have only := (trackerOnly_codeWritten i 0#32 s).trans (trackerOnly_setRecord i BlockRecord.blank x)
  have empties : exec (.empty i) s = .next (arbitrate (setRecord i BlockRecord.blank x)) := by
    show Host.Outcome.next (descriptorCommand i 0 s) = _
    rw [descriptorCommand_eq watched]
    show Host.Outcome.next (finishEvent (stateEmpty i x)) = _
    rw [frees, finishEvent_of_quiet (only.quiet quiet)]
  refine ⟨_, empties, ?_⟩
  have record (j : Fin 16) : (arbitrate (setRecord i BlockRecord.blank x)).record j = (setRecord i BlockRecord.blank x).record j :=
    record_congr (arbitrate_keeps _).1 j
  simp only [arbitrate_keeps, record]
  refine ⟨setRecord_self _ _ _, fun j other => ?_, ?_, ?_, only.sequencer, only.generator, only.servos, only.links, only.sensors, only.intake,
    only.loader⟩
  · rw [setRecord_other _ _ other, isX, codeWritten_record]
  · rw [(setRecord_cursors _ _ _).1, tracker]
  · rw [(setRecord_cursors _ _ _).2.1, tracker]

end Sys2Proof.Machine
end

section
/-! A recoverable write failure opens write recovery (R23, R109, R111, R112). -/

namespace Sys2Proof.Machine

/-! ### Rollbacks to a record (R23) -/

theorem retryHeld_path_congr {a b : State} (path : b.path = a.path) : (retryHeld b).path = (retryHeld a).path := by
  have held : b.holding = a.holding := holding_congr (by rw [path])
  unfold retryHeld
  rw [held]
  split
  · show { b.path with upper := none, answers := b.path.answers ++ [BusAnswer.retry] } = { a.path with upper := none, answers := a.path.answers ++ [BusAnswer.retry] }
    rw [path]
  · exact path

theorem nothingDue_retryHeld {s : State} (nothing : NothingDue s) : NothingDue (retryHeld s) := by
  unfold retryHeld
  split
  · exact { nothing with held := fun _ _ holds => by cases holds }
  · exact nothing

theorem notMem_laterRecords (k : Fin 16) (s : State) : k ∉ laterRecords k s := by
  unfold laterRecords
  split
  · simp
  · simp

theorem rollBackAll_path (is : List (Fin 16)) (s : State) : (rollBackAll is s).path = (retryHeld s).path :=
  retryHeld_path_congr (foldl_keeps (fun a => a.path) _ (fun _ _ => setRecord_path _ _ _) is s)

theorem rollBackTo_record (k : Fin 16) (s : State) : (rollBackTo k s).record k = rolledBack (s.record k) := by
  have rolled : (rollBackTo k s).record k = (rollBackAll (laterRecords k s) (setRecord k (rolledBack (s.record k)) s)).record k := rfl
  rw [rolled, rollBackAll_record, if_neg (notMem_laterRecords k s), setRecord_self]

theorem rollBackTo_path (k : Fin 16) (s : State) : (rollBackTo k s).path = (retryHeld s).path := by
  have rolled : (rollBackTo k s).path = (rollBackAll (laterRecords k s) (setRecord k (rolledBack (s.record k)) s)).path := rfl
  rw [rolled, rollBackAll_path, retryHeld_path_congr (setRecord_path _ _ _)]

theorem rollBackTo_pending (k : Fin 16) (s : State) :
    (rollBackTo k s).reporter.pendingClasses = s.reporter.pendingClasses :=
  (rollBackAll_pending _ _).trans (setRecord_reporter _ _ _)

/-! ### The opening (R111, R112) -/

/-- The sequencer once a write recovery of record k is aimed. -/
def sequencerAimed (k : Fin 16) (anchor target : Int) (q : Sequencer) : Sequencer :=
  { q with
    anchor := anchor
    gapKind := .nominal
    recordPoint := none
    decisions := []
    recovery := some { kind := .write, index := k, phase := .settle, target := target }
    noShowStop := false
    approach := none }

theorem nothingDue_aimed {s : State} (nothing : NothingDue s) (k : Fin 16) (anchor target : Int) :
    NothingDue (s.onSequencer (sequencerAimed k anchor target)) :=
  { nothing with
    held := fun _ point => by cases point
    decision := fun _ _ _ listed => by cases listed
    noShow := fun _ point => by cases point
    backup := fun _ settles backs => by cases settles; cases backs
    approach := fun _ point => by cases point }

theorem recoveryMotion_stopping {s : State} (stopping : s.sequencer.transport = .stopping) (retarget : Bool) :
    recoveryMotion retarget s = s := by
  unfold recoveryMotion
  rw [stopping]

theorem aimRecovery_sequencer {k : Fin 16} {c : Coords} {s : State} (coords : (s.record k).coords = some c) :
    (aimRecovery k s).sequencer =
      sequencerAimed k (c.start + (s.groupB.eExt : Nat) - (s.groupB.gap : Nat)) (c.start - approachRun s) s.sequencer := by
  have start : startOf k s = c.start := by
    unfold startOf
    rw [coords]
  rw [← start]
  rfl

/-- What a write failure of record k leaves in STOPPING, its recovery open. -/
structure WriteRecoveryOpened (k : Fin 16) (c : Coords) (s u : State) : Prop where
  block : u.record k = { s.record k with state := .filled, attempts := (s.record k).attempts + 1, checkTimer := none }
  cursor : u.tracker.recordCursor = k
  sequencer : u.sequencer = sequencerAimed k (c.start + (s.groupB.eExt : Nat) - (s.groupB.gap : Nat)) (c.start - approachRun s) s.sequencer
  generator : u.generator = s.generator
  servos : u.servos = s.servos
  links : u.links = s.links
  sensors : u.sensors = s.sensors
  intake : u.intake = s.intake
  loader : u.loader = s.loader
  signals : u.signals = s.signals
  path : u.path = (retryHeld s).path
  told : u.reporter.pendingClasses.getLsbD 2 = true

/-- The first failures of a record, in STOPPING with no outcome fixed and no recovery open, open its recovery. -/
theorem writeFailure_opens {k : Fin 16} {c : Coords} {s : State} (coords : (s.record k).coords = some c)
    (few : (s.record k).attempts < s.loader.groupB.writeRetry) (free : s.sequencer.fixed = none) (fresh : s.sequencer.recovery = none)
    (stopping : s.sequencer.transport = .stopping) : WriteRecoveryOpened k c s (writeFailure k s) := by
  have attempts : min ((s.record k).attempts + 1) (s.loader.groupB.writeRetry + 1) = (s.record k).attempts + 1 := by omega
  have nobody : laterRecovery k s = none := by
    unfold laterRecovery
    rw [fresh]
  let +generalize (eq := isX) x := setRecord k { s.record k with attempts := (s.record k).attempts + 1, checkTimer := none } s
  have opens : writeFailure k s = openWriteRecovery k x := by
    unfold writeFailure State.groupB
    dsimp only
    rw [attempts, if_neg (by rw [free]; simp), if_neg (by omega), nobody]
  let +generalize (eq := isY) y := raiseBlock .writeCheckFailed k (wordOfNat (x.record k).attempts) 0 x
  let +generalize (eq := isZ) z := rollBackTo k y
  obtain ⟨sequencerX, generatorX, servosX, linksX, sensorsX, intakeX, pathX, loaderX, signalsX, -⟩ :=
    setRecord_keeps k { s.record k with attempts := (s.record k).attempts + 1, checkTimer := none } s
  obtain ⟨trackerY, sequencerY, generatorY, servosY, linksY, sensorsY, intakeY, pathY, loaderY, signalsY, -⟩ :=
    raiseBlock_keeps .writeCheckFailed k (wordOfNat (x.record k).attempts) 0 x
  obtain ⟨sequencerZ, generatorZ, servosZ, linksZ, sensorsZ, intakeZ, loaderZ, signalsZ, -⟩ := rollBackTo_keeps k y
  have sequencer : z.sequencer = s.sequencer := (sequencerZ.trans sequencerY).trans sequencerX
  have generator : z.generator = s.generator := (generatorZ.trans generatorY).trans generatorX
  have loader : z.loader = s.loader := (loaderZ.trans loaderY).trans loaderX
  have record : z.record k = { s.record k with state := .filled, attempts := (s.record k).attempts + 1, checkTimer := none } := by
    rw [isZ, rollBackTo_record, record_congr trackerY, isX, setRecord_self]
    rfl
  have run : approachRun z = approachRun s := by
    unfold approachRun State.distance State.groupB
    rw [generator, loader]
  have sequencerU := aimRecovery_sequencer (k := k) (c := c) (s := z) (by rw [record]; exact coords)
  have pathU : z.path = (retryHeld s).path := (rollBackTo_path k y).trans (retryHeld_path_congr (pathY.trans pathX))
  have told : z.reporter.pendingClasses.getLsbD 2 = true := by
    rw [isZ, rollBackTo_pending, isY]
    exact raise_makes_pending _ _
  have cursor : z.tracker.recordCursor = k := rfl
  have servos : z.servos = s.servos := (servosZ.trans servosY).trans servosX
  have links : z.links = s.links := (linksZ.trans linksY).trans linksX
  have sensors : z.sensors = s.sensors := (sensorsZ.trans sensorsY).trans sensorsX
  have intake : z.intake = s.intake := (intakeZ.trans intakeY).trans intakeX
  have signals : z.signals = s.signals := (signalsZ.trans signalsY).trans signalsX
  rw [opens, show openWriteRecovery k x = recoveryMotion false (aimRecovery k z) from rfl]
  clear_value z
  rw [recoveryMotion_stopping (by rw [sequencerU]; show z.sequencer.transport = .stopping; rw [sequencer, stopping])]
  obtain ⟨trackerU, generatorU, servosU, linksU, sensorsU, intakeU, pathK, loaderU, reporterU, signalsU, -⟩ := aimRecovery_keeps k z
  constructor
  case block => exact (record_congr trackerU k).trans record
  case cursor => exact (congrArg Tracker.recordCursor trackerU).trans cursor
  case sequencer =>
    rw [sequencerU, run, sequencer]
    unfold State.groupB
    rw [loader]
  case generator => exact generatorU.trans generator
  case servos => exact servosU.trans servos
  case links => exact linksU.trans links
  case sensors => exact sensorsU.trans sensors
  case intake => exact intakeU.trans intake
  case loader => exact loaderU.trans loader
  case signals => exact signalsU.trans signals
  case path => exact pathK.trans pathU
  case told => rw [reporterU]; exact told

/-- A recovery opened in STOPPING brings nothing more about. -/
theorem WriteRecoveryOpened.quiet {k : Fin 16} {c : Coords} {s u : State} (opened : WriteRecoveryOpened k c s u) (quiet : Quiet s) :
    Quiet u := by
  obtain ⟨noSignal, nothing, noSettlement, noHandOver⟩ := quiet_iff_nothingDue.mp quiet
  obtain ⟨claims, port, -⟩ := retryHeld_path s
  refine quiet_iff_nothingDue.mpr ⟨opened.signals.trans noSignal, ?_,
    settlementDue_congr (a := s) opened.generator (by rw [opened.path, claims]) (by rw [opened.path, port]) noSettlement,
    handOverDue_none_of noHandOver opened.intake (by rw [opened.path, retryHeld_sweep])⟩
  refine (nothingDue_aimed (nothingDue_retryHeld nothing) k (c.start + (s.groupB.eExt : Nat) - (s.groupB.gap : Nat))
    (c.start - approachRun s)).of_samePlace ?_
  obtain ⟨-, sequencer, generator, servos, -, -, intake, loader, -⟩ := retryHeld_keeps s
  constructor
  case sequencer => rw [opened.sequencer, onSequencer_sequencer, sequencer]
  case slowing => rw [opened.generator, onSequencer_generator, generator]; exact id
  case active => rw [opened.generator, onSequencer_generator, generator]
  case tape => rw [opened.servos, onSequencer_servos, servos]
  case groupB => rw [opened.loader, onSequencer_loader, loader]
  case order => exact order_congr (by rw [opened.intake, onSequencer_intake, intake])
  case holding => exact holding_congr (by rw [opened.path]; rfl)

/-- Settles O27. -/
theorem writeFailureOpensRecovery : Obligations.WriteFailureOpensRecovery := by
  intro s k c ctx awaiting coords few free fresh stopping _ _ quiet command commands
  have fails : ∃ y, exec command s = .next (finishEvent (writeFailure k y)) ∧ TrackerOnly s y ∧
      ∃ timer, y.record k = { s.record k with checkTimer := timer } := by
    obtain ⟨rfl, watched⟩ | ⟨rfl, runs⟩ := commands
    · refine ⟨codeWritten k 3#32 s, ?_, trackerOnly_codeWritten k 3#32 s, (s.record k).checkTimer, codeWritten_record k k 3#32 s⟩
      have checks : stateCheck false k (codeWritten k 3#32 s) = writeFailure k (codeWritten k 3#32 s) := by
        unfold stateCheck
        rw [codeWritten_record, awaiting]
        rfl
      show Host.Outcome.next (descriptorCommand k 3 s) = _
      rw [descriptorCommand_eq watched]
      exact congrArg (fun x => Host.Outcome.next (finishEvent x)) checks
    · refine ⟨raiseBlock .checkMissing k 0 0 (setRecord k { s.record k with checkTimer := none } s),
        congrArg Host.Outcome.next (if_pos ⟨awaiting, runs⟩),
        (trackerOnly_setRecord _ _ _).trans (trackerOnly_raiseBlock _ _ _ _ _), none, ?_⟩
      rw [record_congr (raiseBlock_keeps _ _ _ _ _).1, setRecord_self]
  obtain ⟨y, event, only, timer, record⟩ := fails
  have opened := writeFailure_opens (k := k) (c := c) (s := y) (by rw [record]; exact coords) (by rw [record, only.loader]; exact few)
    (by rw [only.sequencer]; exact free) (by rw [only.sequencer]; exact fresh) (by rw [only.sequencer]; exact stopping)
  rw [finishEvent_of_quiet (opened.quiet (only.quiet quiet))] at event
  obtain ⟨block, cursor, sequencer, generator, servos, links, sensors, intake, loader, -, -, told⟩ := opened
  have run : approachRun y = s.distance .start + s.loader.groupB.margin := by
    unfold approachRun State.distance State.groupB
    rw [only.generator, only.loader]
  have group : y.groupB = s.loader.groupB := congrArg Loader.groupB only.loader
  refine ⟨_, event, ?_⟩
  have recordT : (arbitrate (writeFailure k y)).record k = (writeFailure k y).record k := record_congr (arbitrate_keeps _).1 k
  simp only [arbitrate_keeps, recordT]
  rw [block, record, sequencer, run, group, only.sequencer]
  exact ⟨rfl, rfl, coords, rfl, cursor, rfl, rfl, rfl, rfl, stopping, told, generator.trans only.generator, servos.trans only.servos,
    links.trans only.links, sensors.trans only.sensors, intake.trans only.intake, loader.trans only.loader⟩

end Sys2Proof.Machine
end

section
/-! EMPTY of the ARMED record: its retraction, and the motion that stops (R11, R28, R33, R39, R75, R114). -/

namespace Sys2Proof.Machine

/-! ### Stop requests in a motion (R75) -/

/-- A stop has been asked of a generator that is not in HOLD. -/
structure StopAsked (s u : State) : Prop where
  mode : u.generator.mode = .decel ∨ u.generator.mode = .fallback
  slows : s.generator.mode = .accel ∨ s.generator.mode = .cruise → u.generator.mode = .decel
  v : u.generator.v = s.generator.v
  path : ∃ claims port, u.path = { s.path with claims := claims, port := port }
  tracker : u.tracker = s.tracker
  sequencer : u.sequencer = s.sequencer
  servos : u.servos = s.servos
  links : u.links = s.links
  sensors : u.sensors = s.sensors
  intake : u.intake = s.intake
  loader : u.loader = s.loader
  signals : u.signals = s.signals

theorem StopAsked.ofSlows {c : Chain} {s u : State} (slows : Slows c false (waitCancelled s) u) : StopAsked s u := by
  obtain ⟨⟨run, working, reload, generator, -⟩, path, tracker, sequencer, servos, links, sensors, intake, loader, -, signals⟩ := slows
  exact ⟨.inl (by rw [generator]), fun _ => by rw [generator], by rw [generator]; rfl, path, tracker, sequencer, servos, links, sensors,
    intake, loader, signals⟩

theorem stopRequest_asked {s : State} (c : Chain) (moves : s.generator.mode ≠ .hold) : StopAsked s (stopRequest c s) := by
  cases mode : s.generator.mode with
  | hold => exact absurd mode moves
  | accel => exact .ofSlows (stopRequest_slows c (.inl mode))
  | cruise => exact .ofSlows (stopRequest_slows c (.inr mode))
  | decel =>
    unfold stopRequest
    rw [mode]
    exact ⟨.inl mode, fun _ => mode, rfl, ⟨s.path.claims, s.path.port, rfl⟩, rfl, rfl, rfl, rfl, rfl, rfl, rfl, rfl⟩
  | fallback =>
    unfold stopRequest
    rw [mode]
    exact ⟨.inr mode, fun h => by rw [mode] at h; simp at h, rfl, ⟨s.path.claims, s.path.port, rfl⟩, rfl, rfl, rfl, rfl, rfl, rfl, rfl, rfl⟩

/-- A start that the generator still holds back is over with the stop request. -/
structure StartDropped (s u : State) : Prop where
  generator : u.generator = { s.generator with dir := none, run := none, working := none, reload := none, waiting := none }
  signals : u.signals = s.signals ++ [.stopEnd]
  ports : u.path.upper = s.path.upper ∧ u.path.answers = s.path.answers
  sweep : u.path.sweep = s.path.sweep
  tape : u.servos.t = s.servos.t
  tracker : u.tracker = s.tracker
  sequencer : u.sequencer = s.sequencer
  links : u.links = s.links
  sensors : u.sensors = s.sensors
  intake : u.intake = s.intake
  loader : u.loader = s.loader

theorem stopRequest_drops {s : State} (c : Chain) (hold : s.generator.mode = .hold) : StartDropped s (stopRequest c s) := by
  let +generalize (eq := isX) x := setGenDir none (dropChain (waitCancelled s))
  have stops : stopRequest c s = x.signal .stopEnd := by
    unfold stopRequest
    rw [hold]
    rfl
  have generator : x.generator = { s.generator with dir := none, run := none, working := none, reload := none, waiting := none } := by
    rw [isX, setGenDir_none_generator, dropChain_generator]
    rfl
  obtain ⟨-, tape, -⟩ := setGenDir_servos none (dropChain (waitCancelled s))
  obtain ⟨tracker, sequencer, links, sensors, intake, path, loader, -, signals, -⟩ := setGenDir_keeps none (dropChain (waitCancelled s))
  rw [← isX] at tape tracker sequencer links sensors intake path loader signals
  rw [stops]
  clear_value x
  exact ⟨generator, congrArg (· ++ [Signal.stopEnd]) signals, ⟨(congrArg Path.upper path).trans rfl, (congrArg Path.answers path).trans rfl⟩,
    (congrArg Path.sweep path).trans rfl, tape, tracker, sequencer, links, sensors, intake, loader⟩

/-! ### The retraction (R11) -/

/-- The sequencer without the retracted record, waiting for the cursor record to be filled. -/
def sequencerRetracted (ρ : Option Recovery) (q : Sequencer) : Sequencer :=
  { q with recordPoint := none, fillWait := true, recovery := ρ }

/-- What a retraction leaves before the motion stops, if it does. -/
structure RecordRetracted (i : Fin 16) (c : OrderContext) (s y : State) : Prop where
  block : y.record i = BlockRecord.blank
  others : ∀ j : Fin 16, j ≠ i → y.record j = s.record j
  cursors : y.tracker.recordCursor = s.tracker.recordCursor ∧ y.tracker.receiveCursor = s.tracker.receiveCursor
  context : ∃ c', y.tracker.context = some c' ∧ c'.span = c.span - 1 ∧ c'.n = c.n ∧ c'.first = c.first ∧ c'.slot = c.slot
  sequencer : ∃ ρ, (ρ = s.sequencer.recovery ∨ ρ = none) ∧ y.sequencer = sequencerRetracted ρ s.sequencer
  generator : y.generator = s.generator
  servos : y.servos = s.servos
  links : y.links = s.links
  sensors : y.sensors = s.sensors
  intake : y.intake = s.intake
  loader : y.loader = s.loader
  signals : y.signals = s.signals
  lower : y.path.claims = s.path.claims ∧ y.path.port = s.path.port
  sweep : y.path.sweep = s.path.sweep
  held : s.holding = true → y.path.upper = none ∧ y.path.answers = s.path.answers ++ [.retry]
  unheld : s.holding = false → y.path.answers = s.path.answers
  released : y.holding = false

theorem setRecord_some_context {i : Fin 16} {r : BlockRecord} {s : State} {c : OrderContext} (context : s.tracker.context = some c) :
    ∃ p d, (setRecord i r s).tracker.context = some { c with placed := p, done := d } := by
  have recounted (x : State) (same : x.tracker.context = some c) :
      ∃ p d, (recount x).tracker.context = some { c with placed := p, done := d } := by
    unfold recount
    rw [onTracker_tracker, same]
    by_cases writes : c.write = true
    · exact ⟨_, _, congrArg some (if_pos writes)⟩
    · exact ⟨c.placed, c.done, congrArg some (if_neg writes)⟩
  unfold setRecord
  dsimp only
  split
  · exact recounted _ context
  · exact recounted _ context

/-- The retracted record is free and the order waits. -/
def retractedAt (i : Fin 16) (s : State) : State :=
  (retryHeld (freeRecord i (shrinkSpan s))).onSequencer fun q => closeRecoveryOf i { q with recordPoint := none, fillWait := true }

theorem retract_eq (i : Fin 16) (s : State) :
    retract i s = if (retractedAt i s).sequencer.decisions.isEmpty then stopMotion (retractedAt i s) else retractedAt i s := rfl

theorem retractedAt_retracts {i : Fin 16} {c : OrderContext} {s x : State} (only : TrackerOnly s x) (tracker : x.tracker = s.tracker)
    (context : s.tracker.context = some c) : RecordRetracted i c s (retractedAt i x) := by
  obtain ⟨d, pathX⟩ := only.path
  let +generalize (eq := isR) r := freeRecord i (shrinkSpan x)
  have contextS : (shrinkSpan x).tracker.context = some { c with span := c.span - 1 } := by
    unfold shrinkSpan
    rw [onTracker_tracker, tracker, context]
    rfl
  have recordS (j : Fin 16) : (shrinkSpan x).record j = s.record j := by
    unfold State.record
    rw [← tracker]
    rfl
  obtain ⟨n, m, contextR⟩ := setRecord_some_context (i := i) (r := BlockRecord.blank) contextS
  obtain ⟨cursor, receive, -⟩ := setRecord_cursors i BlockRecord.blank (shrinkSpan x)
  have sameCursors : (shrinkSpan x).tracker.recordCursor = s.tracker.recordCursor ∧
      (shrinkSpan x).tracker.receiveCursor = s.tracker.receiveCursor := by
    rw [← tracker]
    exact ⟨rfl, rfl⟩
  obtain ⟨sequencerR, generatorR, servosR, linksR, sensorsR, intakeR, pathR, loaderR, signalsR, -⟩ := freeRecord_keeps i (shrinkSpan x)
  obtain ⟨sequencerS, generatorS, servosS, linksS, sensorsS, intakeS, pathS, loaderS, -, signalsS, -⟩ := shrinkSpan_keeps x
  obtain ⟨trackerH, sequencerH, generatorH, servosH, linksH, sensorsH, intakeH, loaderH, -, signalsH, -⟩ := retryHeld_keeps r
  obtain ⟨claims, port, -⟩ := retryHeld_path r
  have path : r.path = { s.path with descriptors := d } := (pathR.trans pathS).trans pathX
  have holding : r.holding = s.holding := holding_congr (by rw [path])
  have sequencer : (retryHeld r).sequencer = s.sequencer := (sequencerH.trans (sequencerR.trans sequencerS)).trans only.sequencer
  have eq : retractedAt i x = (retryHeld r).onSequencer fun q => closeRecoveryOf i { q with recordPoint := none, fillWait := true } := rfl
  have record (j : Fin 16) : (retractedAt i x).record j = r.record j := record_congr (a := retractedAt i x) (b := r) trackerH j
  have trackerY : (retractedAt i x).tracker = r.tracker := trackerH
  have answers : (retryHeld r).path.answers = if r.holding then r.path.answers ++ [.retry] else r.path.answers := by
    unfold retryHeld
    split <;> rfl
  constructor
  case block => rw [record, isR]; exact setRecord_self _ _ _
  case others =>
    intro j other
    rw [record, isR]
    exact (setRecord_other _ _ other).trans (recordS j)
  case cursors =>
    rw [trackerY]
    exact ⟨cursor.trans sameCursors.1, receive.trans sameCursors.2⟩
  case context =>
    rw [trackerY]
    exact ⟨_, contextR, rfl, rfl, rfl, rfl⟩
  case sequencer =>
    obtain ⟨ρ, closed, which⟩ := closeRecoveryOf_eq i { s.sequencer with recordPoint := none, fillWait := true }
    refine ⟨ρ, which, ?_⟩
    rw [eq, onSequencer_sequencer, sequencer, closed]
    rfl
  case generator => exact (generatorH.trans (generatorR.trans generatorS)).trans only.generator
  case servos => exact (servosH.trans (servosR.trans servosS)).trans only.servos
  case links => exact (linksH.trans (linksR.trans linksS)).trans only.links
  case sensors => exact (sensorsH.trans (sensorsR.trans sensorsS)).trans only.sensors
  case intake => exact (intakeH.trans (intakeR.trans intakeS)).trans only.intake
  case loader => exact (loaderH.trans (loaderR.trans loaderS)).trans only.loader
  case signals => exact (signalsH.trans (signalsR.trans signalsS)).trans only.signals
  case lower => exact ⟨claims.trans (by rw [path]), port.trans (by rw [path])⟩
  case sweep => exact (retryHeld_sweep r).trans (by rw [path])
  case held =>
    intro holds
    refine ⟨?_, ?_⟩
    · show (retryHeld r).path.upper = none
      unfold retryHeld
      rw [if_pos (by rw [holding]; exact holds)]
      rfl
    · refine answers.trans ?_
      rw [if_pos (by rw [holding]; exact holds), path]
  case unheld =>
    intro idle
    refine answers.trans ?_
    rw [if_neg (by rw [holding, idle]; decide), path]
  case released => exact retryHeld_holding r

theorem nothingDue_retracted {s : State} (nothing : NothingDue s) {ρ : Option Recovery} (which : ρ = s.sequencer.recovery ∨ ρ = none) :
    NothingDue (s.onSequencer (sequencerRetracted ρ)) :=
  { nothing with
    held := fun _ point => by cases point
    noShow := fun _ point => by cases point
    backup := fun r open_ backs => by
      obtain rfl | rfl := which
      · exact nothing.backup r open_ backs
      · cases open_ }

/-- A retraction that leaves the motion alone brings nothing more about. -/
theorem RecordRetracted.quiet {i : Fin 16} {c : OrderContext} {s y : State} (retracts : RecordRetracted i c s y) (quiet : Quiet s) :
    Quiet y := by
  obtain ⟨noSignal, nothing, noSettlement, noHandOver⟩ := quiet_iff_nothingDue.mp quiet
  obtain ⟨ρ, which, sequencer⟩ := retracts.sequencer
  refine quiet_iff_nothingDue.mpr ⟨retracts.signals.trans noSignal, ?_,
    settlementDue_congr (a := s) retracts.generator retracts.lower.1 retracts.lower.2 noSettlement,
    handOverDue_none_of noHandOver retracts.intake (by rw [retracts.sweep])⟩
  obtain ⟨-, sequencerH, generator, servos, -, -, intake, loader, -⟩ := retryHeld_keeps s
  refine (nothingDue_retracted (nothingDue_retryHeld nothing) (ρ := ρ) (by rw [sequencerH]; exact which)).of_samePlace ?_
  constructor
  case sequencer => rw [sequencer, onSequencer_sequencer, sequencerH]
  case slowing => rw [retracts.generator, onSequencer_generator, generator]; exact id
  case active => rw [retracts.generator, onSequencer_generator, generator]
  case tape => rw [retracts.servos, onSequencer_servos, servos]
  case groupB => rw [retracts.loader, onSequencer_loader, loader]
  case order => exact order_congr (by rw [retracts.intake, onSequencer_intake, intake])
  case holding => rw [retracts.released]; exact (retryHeld_holding s).symm

/-! ### The motion stops behind the retraction (R28, R39) -/

/-- In STOPPING without decision points nothing is due, where nothing was due before. -/
theorem nothingDue_stoppingAs {s u : State} (nothing : NothingDue s) (moves : s.sequencer.transport.moves = true)
    (noDecision : s.sequencer.decisions = []) {ρ : Option Recovery} {l : LoadStage}
    (sequencer : u.sequencer = { sequencerIn .stopping none (sequencerRetracted ρ s.sequencer) with loadStage := l })
    (tape : u.servos.t = s.servos.t) (groupB : u.loader.groupB = s.loader.groupB) (order : u.runningOrder = s.runningOrder) : NothingDue u := by
  refine nothingDue_of_stopping (by rw [sequencer]; rfl) ?_ ?_ (.inl (by rw [sequencer]; simp [sequencerIn]))
  · intro i d rest listed
    rw [sequencer] at listed
    exact absurd (noDecision.symm.trans listed) (by simp)
  · have eot := nothing.eot
    unfold State.beyondEot State.tapePos State.groupB at eot ⊢
    rw [sequencer, tape, groupB, order]
    exact fun forward held dir purpose free => eot forward held moves dir purpose free

/-- The stop begun behind a retraction, with the settlement that may follow it. -/
structure RetractionStops (y u : State) : Prop where
  sequencer : ∃ l, u.sequencer = { sequencerIn .stopping none y.sequencer with loadStage := l }
  mode : y.generator.mode = .accel ∨ y.generator.mode = .cruise → u.generator.mode = .decel
  v : u.generator.v = y.generator.v
  tape : u.servos.t = y.servos.t
  tracker : u.tracker = y.tracker
  links : u.links = y.links
  sensors : u.sensors = y.sensors
  intake : u.intake = y.intake
  loader : u.loader = y.loader
  ports : u.path.upper = y.path.upper ∧ u.path.answers = y.path.answers

theorem RecordRetracted.stops {i : Fin 16} {c : OrderContext} {s y : State} {p : Purpose} (retracts : RecordRetracted i c s y) (quiet : Quiet s)
    (underway : s.sequencer.transport.underway = true) (purpose : s.sequencer.purpose = some p) (noDecision : s.sequencer.decisions = [])
    (moving : s.generator.mode ≠ .hold) : ∃ u, finishEvent (stopMotion y) = arbitrate u ∧ RetractionStops y u := by
  obtain ⟨noSignal, nothing, noSettlement, noHandOver⟩ := quiet_iff_nothingDue.mp quiet
  obtain ⟨ρ, -, sequencer⟩ := retracts.sequencer
  let +generalize (eq := isM) m := setTransport .stopping none y
  have stops : stopMotion y = stopRequest p.stopChain m := by
    unfold stopMotion
    rw [if_pos (by rw [sequencer]; exact underway), show y.sequencer.purpose = some p by rw [sequencer]; exact purpose]
  obtain ⟨trackerM, generatorM, linksM, intakeM, pathM, loaderM, signalsM, -⟩ := setTransport_keeps .stopping none y
  have sensorsM : m.sensors = y.sensors :=
    setTransport_sensors (by decide) (by rw [sequencer]; exact underway_ne_faulted underway)
  have sequencerM : m.sequencer = sequencerIn .stopping none y.sequencer := setTransport_sequencer _ _ _
  have tapeM : m.servos.t = y.servos.t := setTransport_tape _ _ _
  obtain ⟨mode, slows, v, ⟨cs, port, path⟩, tracker, sequencerU, servos, links, sensors, intake, loader, signals⟩ :=
    stopRequest_asked (s := m) p.stopChain (by rw [generatorM, retracts.generator]; exact moving)
  rw [← isM] at trackerM generatorM linksM intakeM pathM loaderM signalsM
  rw [stops]
  generalize stopRequest p.stopChain m = b at *
  have still (u : State) (l : LoadStage) (same : u.sequencer = { b.sequencer with loadStage := l }) (servosU : u.servos = b.servos)
      (loaderU : u.loader = b.loader) (intakeU : u.intake = b.intake) : positionEvent u = none := by
    refine positionEvent_none_iff_nothingDue.mpr (nothingDue_stoppingAs nothing (underway_moves underway) noDecision (ρ := ρ) (l := l) ?_ ?_ ?_ ?_)
    · rw [same, sequencerU, sequencerM, sequencer]
    · rw [servosU, servos, tapeM, retracts.servos]
    · rw [loaderU, loader, loaderM, retracts.loader]
    · exact order_congr (by rw [intakeU, intake, intakeM, retracts.intake])
  obtain ⟨u, ends, -, settles⟩ := react_settling (s := b) (by rw [signals, signalsM, retracts.signals]; exact noSignal)
    (still b b.sequencer.loadStage rfl rfl rfl rfl)
    (handOverDue_none_of noHandOver (by rw [intake, intakeM, retracts.intake]) (by rw [path, pathM, retracts.sweep]))
    (.inl (by rw [sequencerU, sequencerM]; simp [sequencerIn])) (.inr (by obtain mode | mode := mode <;> rw [mode] <;> decide))
    fun u settles => by
      obtain ⟨l, same⟩ := settles.sequencer
      exact still u l same settles.servos settles.loader settles.intake
  obtain ⟨l, same⟩ := settles.sequencer
  obtain ⟨a, ch, ls, generatorU⟩ := settles.generator
  refine ⟨u, congrArg arbitrate (ends 62), ⟨l, by rw [same, sequencerU, sequencerM]⟩, ?_, ?_, ?_, ?_, ?_, ?_, ?_, ?_, ?_⟩
  · rw [generatorU, ← generatorM]; exact slows
  · rw [generatorU, ← generatorM]; exact v
  · rw [settles.servos, servos, tapeM]
  · rw [settles.tracker, tracker, trackerM]
  · rw [settles.links, links, linksM]
  · rw [settles.sensors, sensors, sensorsM]
  · rw [settles.intake, intake, intakeM]
  · rw [settles.loader, loader, loaderM]
  · obtain ⟨upper, answers, -⟩ := settles.ports
    rw [upper, answers, path, pathM]
    exact ⟨rfl, rfl⟩

end Sys2Proof.Machine
end

section
/-! EMPTY of the ARMED record in a motion whose start the generator still holds back, and the retraction as a command
(R11, R28, R33, R39). -/

namespace Sys2Proof.Machine

theorem running_of_order {s : State} {o : OrderCode} (order : s.runningOrder = some o) : s.intake.running.isSome = true := by
  unfold State.runningOrder State.runningTaken at order
  cases running : s.intake.running with
  | none =>
    rw [running] at order
    cases order
  | some i => rfl

/-! ### STOPPED in a WRITE that waits for its block (R39) -/

/-- The sequencer of a WRITE that waits in STOPPED. -/
def sequencerWaiting (a : Int) (g : GapKind) (q : Sequencer) : Sequencer :=
  { q with approach := none, noShowStop := false, fillHeld := false, anchor := a, gapKind := g }

theorem writeAtStopped_waits {s : State} (closed : s.sequencer.recovery = none) (noPoint : s.sequencer.recordPoint = none)
    (unnoticed : s.sequencer.fillHeld = false) : ∃ a g, writeAtStopped s = s.onSequencer (sequencerWaiting a g) := by
  unfold writeAtStopped armIfNoticed
  dsimp only
  rw [closed, noPoint, unnoticed]
  dsimp only
  rw [if_neg (by simp), if_neg (by simp)]
  split
  · exact ⟨_, _, rfl⟩
  · exact ⟨s.sequencer.anchor, s.sequencer.gapKind, rfl⟩

/-- STOPPED in a WRITE whose outcome is open and whose order is taken. -/
theorem orderAtStopped_write {s : State} (order : s.runningOrder = some .write) (taken : s.sequencer.held = false)
    (free : s.sequencer.fixed = none) : orderAtStopped s = writeAtStopped s := by
  unfold orderAtStopped
  have runs : s.intake.running.isNone = false := by
    rw [← Option.not_isSome, running_of_order order]
    rfl
  rw [if_neg (by rw [runs]; decide), if_neg (by rw [taken]; decide), free, order]
  rfl

/-- A motion that had not begun is over, and the WRITE waits in STOPPED. -/
structure RetractionRests (y u : State) : Prop where
  sequencer : ∃ a g l, u.sequencer = { sequencerWaiting a g { sequencerIn .stopped none (sequencerIn .stopping none y.sequencer) with
    writeMode := false, startFallback := false } with loadStage := l }
  mode : u.generator.mode = .hold
  waiting : u.generator.waiting = none
  dir : u.generator.dir = none
  tape : u.servos.t = y.servos.t
  tracker : u.tracker = y.tracker
  links : u.links = y.links
  sensors : u.sensors = y.sensors
  intake : u.intake = y.intake
  loader : u.loader = y.loader
  ports : u.path.upper = y.path.upper ∧ u.path.answers = y.path.answers

/-- The stop request of a motion that the generator holds back, and the report that follows it at once. -/
theorem stopMotion_drops {y : State} {p : Purpose} (underway : y.sequencer.transport.underway = true) (purpose : y.sequencer.purpose = some p)
    (hold : y.generator.mode = .hold) : StartDropped (setTransport .stopping none y) (stopMotion y) := by
  have generator : (setTransport .stopping none y).generator = y.generator := by simp
  unfold stopMotion
  rw [if_pos underway, purpose]
  exact stopRequest_drops p.stopChain (by rw [generator]; exact hold)

theorem RecordRetracted.rests {i : Fin 16} {c : OrderContext} {s y : State} {p : Purpose} (retracts : RecordRetracted i c s y) (quiet : Quiet s)
    (underway : s.sequencer.transport.underway = true) (purpose : s.sequencer.purpose = some p) (hold : s.generator.mode = .hold)
    (order : s.runningOrder = some .write) (free : s.sequencer.fixed = none) (closed : s.sequencer.recovery = none)
    (taken : s.sequencer.held = false) (unnoticed : s.sequencer.fillHeld = false) :
    ∃ u, finishEvent (stopMotion y) = arbitrate u ∧ RetractionRests y u := by
  obtain ⟨noSignal, -⟩ := quiet_iff_nothingDue.mp quiet
  obtain ⟨ρ, which, sequencer⟩ := retracts.sequencer
  have closedY : ρ = none := which.elim (fun same => same.trans closed) id
  let +generalize (eq := isM) m := setTransport .stopping none y
  have drops := stopMotion_drops (y := y) (p := p) (by rw [sequencer]; exact underway) (by rw [sequencer]; exact purpose)
    (by rw [retracts.generator]; exact hold)
  rw [← isM] at drops
  obtain ⟨trackerM, generatorM, linksM, intakeM, pathM, loaderM, signalsM, -⟩ := setTransport_keeps .stopping none y
  have sensorsM : m.sensors = y.sensors :=
    setTransport_sensors (by decide) (by rw [sequencer]; exact underway_ne_faulted underway)
  have sequencerM : m.sequencer = sequencerIn .stopping none y.sequencer := setTransport_sequencer _ _ _
  have tapeM : m.servos.t = y.servos.t := setTransport_tape _ _ _
  rw [← isM] at trackerM generatorM linksM intakeM pathM loaderM signalsM
  clear_value m
  generalize stopMotion y = b at *
  have reported : b.signals = [.stopEnd] := by rw [drops.signals, signalsM, retracts.signals, noSignal]; rfl
  let +generalize (eq := isA) a := b.setSignals []
  have sequencerA : a.sequencer = sequencerIn .stopping none y.sequencer := drops.sequencer.trans sequencerM
  let +generalize (eq := isX) x := stoppedAt a
  have sequencerX := stoppedAt_sequencer a
  rw [← isX, sequencerA] at sequencerX
  have intakeX : x.intake = s.intake := by
    rw [isX, stoppedAt, onSequencer_intake, (setTransport_keeps _ _ _).2.2.2.1]
    exact drops.intake.trans (intakeM.trans retracts.intake)
  have reaches : handleSignal .stopEnd a = orderAtStopped x := by
    show stopEnded a = _
    unfold stopEnded
    rw [sequencerA]
    rfl
  obtain ⟨n, g, waits⟩ := writeAtStopped_waits (s := x) (by rw [sequencerX, sequencer, closedY]; rfl) (by rw [sequencerX, sequencer]; rfl)
    (by rw [sequencerX, sequencer]; exact unnoticed)
  have acts : handleSignal .stopEnd a = x.onSequencer (sequencerWaiting n g) := by
    rw [reaches, orderAtStopped_write (by rw [order_congr intakeX]; exact order) (by rw [sequencerX, sequencer]; exact taken)
      (by rw [sequencerX, sequencer]; exact free), waits]
  have once : reactOnce b = some (x.onSequencer (sequencerWaiting n g)) := by
    unfold reactOnce
    rw [reported]
    exact congrArg some acts
  obtain ⟨trackerS, generatorS, linksS, intakeS, pathS, loaderS, signalsS, -⟩ := setTransport_keeps .stopped none a
  have trackerX : x.tracker = y.tracker := trackerS.trans (drops.tracker.trans trackerM)
  have generatorX : x.generator = { y.generator with dir := none, run := none, working := none, reload := none, waiting := none } :=
    generatorS.trans (drops.generator.trans (by rw [generatorM]))
  have linksX : x.links = y.links := linksS.trans (drops.links.trans linksM)
  have loaderX : x.loader = y.loader := loaderS.trans (drops.loader.trans loaderM)
  have signalsX : x.signals = [] := signalsS
  have sensorsX : x.sensors = y.sensors :=
    (setTransport_sensors (by decide) (by rw [sequencerA]; simp [sequencerIn])).trans (drops.sensors.trans sensorsM)
  have tapeX : x.servos.t = y.servos.t := (setTransport_tape _ _ _).trans (drops.tape.trans tapeM)
  have upperX : x.path.upper = y.path.upper := (congrArg Path.upper pathS).trans (drops.ports.1.trans (by rw [pathM]))
  have answersX : x.path.answers = y.path.answers := (congrArg Path.answers pathS).trans (drops.ports.2.trans (by rw [pathM]))
  clear_value x
  let +generalize (eq := isZ) z := x.onSequencer (sequencerWaiting n g)
  have sequencerZ : z.sequencer = sequencerWaiting n g x.sequencer := rfl
  have runs : z.intake.running.isSome = true := by
    show x.intake.running.isSome = true
    rw [intakeX]
    exact running_of_order order
  have atStopped (u : State) (l : LoadStage) (same : u.sequencer = { z.sequencer with loadStage := l }) : positionEvent u = none :=
    positionEvent_of_still (.inr (.inl (by rw [same, sequencerZ, sequencerX]; rfl))) (by
      rw [same, sequencerZ, sequencerX]
      simp [sequencerWaiting, sequencerIn])
  obtain ⟨u, ends, -, settles⟩ := react_settling (s := z) signalsX (atStopped z z.sequencer.loadStage rfl) (handOverDue_of_running runs)
    (.inl (by rw [sequencerZ, sequencerX]; simp [sequencerWaiting, sequencerIn]))
    (.inl (by show x.generator.waiting = none; rw [generatorX])) fun u settles => by
      obtain ⟨l, same⟩ := settles.sequencer
      exact atStopped u l same
  obtain ⟨l, same⟩ := settles.sequencer
  obtain ⟨_, _, _, generatorU⟩ := settles.generator
  have finish : finishEvent b = arbitrate u := by
    unfold finishEvent
    rw [show reactFuel = 63 + 1 from rfl, react_succ _ once]
    exact congrArg arbitrate (ends 61)
  have generatorZ : z.generator = x.generator := rfl
  rw [generatorZ, generatorX] at generatorU
  refine ⟨u, finish, ⟨n, g, l, by rw [same, sequencerZ, sequencerX]⟩, ?_, ?_, ?_, ?_, ?_, ?_, ?_, ?_, ?_, ?_⟩
  · rw [generatorU]
    show y.generator.mode = .hold
    rw [retracts.generator, hold]
  · rw [generatorU]
  · rw [generatorU]
  · rw [settles.servos]; exact tapeX
  · rw [settles.tracker]; exact trackerX
  · rw [settles.links]; exact linksX
  · rw [settles.sensors]; exact sensorsX
  · rw [settles.intake, retracts.intake]; exact intakeX
  · rw [settles.loader]; exact loaderX
  · obtain ⟨upper, answers, -⟩ := settles.ports
    rw [upper, answers]
    exact ⟨upperX, answersX⟩

/-! ### The command (R11) -/

theorem exec_empty_armed {i : Fin 16} {s : State} (watched : RingWatched s) (armed : (s.record i).state = .armed) :
    exec (.empty i) s = .next (finishEvent (retract i (codeWritten i 0#32 s))) := by
  have acts : stateEmpty i (codeWritten i 0#32 s) = retract i (codeWritten i 0#32 s) := by
    unfold stateEmpty
    rw [codeWritten_record, armed]
  show Host.Outcome.next (descriptorCommand i 0 s) = _
  rw [descriptorCommand_eq watched]
  exact congrArg (fun x => Host.Outcome.next (finishEvent x)) acts

theorem retract_stops {i : Fin 16} {s : State} (noDecision : (retractedAt i s).sequencer.decisions = []) :
    retract i s = stopMotion (retractedAt i s) := by
  rw [retract_eq, if_pos (by rw [noDecision]; rfl)]

theorem retract_goesOn {i : Fin 16} {s : State} (blocks : (retractedAt i s).sequencer.decisions ≠ []) : retract i s = retractedAt i s := by
  rw [retract_eq, if_neg (by simpa using blocks)]

theorem stopMotion_still {s : State} (still : s.sequencer.transport.underway = false ∨ s.sequencer.purpose = none) : stopMotion s = s := by
  unfold stopMotion
  obtain still | nowhere := still
  · rw [if_neg (by rw [still]; decide)]
  · split
    · rw [nowhere]
    · rfl

/-- The holding of a read, after the event as after the retraction. -/
theorem retracted_answers {i : Fin 16} {c : OrderContext} {s y u : State} (retracts : RecordRetracted i c s y)
    (ports : u.path.upper = y.path.upper ∧ u.path.answers = y.path.answers) :
    (s.holding = true → (arbitrate u).path.upper = none ∧ (arbitrate u).path.answers = s.path.answers ++ [.retry]) ∧
    (s.holding = false → (arbitrate u).path.answers = s.path.answers) := by
  have answers : (arbitrate u).path.answers = u.path.answers := (arbitrate_path u).2.2.2.2.2
  rw [answers, ports.2]
  refine ⟨fun holds => ?_, retracts.unheld⟩
  obtain ⟨upper, told⟩ := retracts.held holds
  refine ⟨?_, told⟩
  obtain same | ⟨t, before, -⟩ := arbitrate_upper u
  · rw [same, ports.1, upper]
  · rw [ports.1, upper] at before
    cases before

/-- Settles O46. -/
theorem emptyRetractsTheArmedRecord : Obligations.EmptyRetractsTheArmedRecord := by
  refine ⟨?goesOn, ?rests⟩
  case goesOn =>
    intro s i c sound watched armed context begun quiet
    have event := exec_empty_armed watched armed
    have retracts := retractedAt_retracts (i := i) (trackerOnly_codeWritten i 0#32 s) (codeWritten_keeps i 0#32 s).1 context
    have stops := retract_stops (i := i) (s := codeWritten i 0#32 s)
    have goes := retract_goesOn (i := i) (s := codeWritten i 0#32 s)
    generalize retractedAt i (codeWritten i 0#32 s) = y at *
    obtain ⟨ρ, -, sequencer⟩ := retracts.sequencer
    have decisions : y.sequencer.decisions = s.sequencer.decisions := by rw [sequencer]; rfl
    obtain ⟨cursor, receive⟩ := retracts.cursors
    by_cases stopping : s.sequencer.decisions = [] ∧ s.sequencer.transport.underway = true ∧ s.sequencer.purpose.isSome = true
    · obtain ⟨noDecision, underway, present⟩ := stopping
      obtain ⟨p, purpose⟩ := Option.isSome_iff_exists.mp present
      have moving : s.generator.mode ≠ .hold := (begun underway).resolve_right fun blocks => blocks noDecision
      obtain ⟨u, finish, ⟨l, sequencerU⟩, slows, v, tape, tracker, links, sensors, intake, loader, ports⟩ :=
        retracts.stops quiet underway purpose noDecision moving
      rw [stops (by rw [decisions, noDecision]), finish] at event
      have answers := retracted_answers retracts ports
      have record (j : Fin 16) : (arbitrate u).record j = y.record j := record_congr ((arbitrate_keeps u).1.trans tracker) j
      refine ⟨_, event, ?_⟩
      simp only [record]
      have begins (modes : s.generator.mode = .accel ∨ s.generator.mode = .cruise) : StopBegun s (arbitrate u) := by
        constructor <;> simp only [arbitrate_keeps]
        case transport => rw [sequencerU]; rfl
        case mode => exact slows (by rw [retracts.generator]; exact modes)
        case v => rw [v, retracts.generator]
        case dir => rw [sequencerU, sequencer]; rfl
        case order => rw [intake, retracts.intake]
      simp only [arbitrate_keeps]
      refine ⟨retracts.block, retracts.others, by rw [tracker]; exact cursor, by rw [tracker]; exact receive, by rw [tracker]; exact retracts.context,
        ?_, ?_, ?_, answers.1, answers.2, fun _ _ _ => begins, fun other => ?_, by rw [tape, retracts.servos], by rw [links, retracts.links],
        by rw [sensors, retracts.sensors], by rw [intake, retracts.intake], by rw [loader, retracts.loader]⟩
      · rw [sequencerU, sequencer]; rfl
      · rw [sequencerU, sequencer]; rfl
      · rw [sequencerU, sequencer]; rfl
      · obtain blocks | still := other
        · exact absurd noDecision blocks
        · rw [underway] at still
          cases still
    · have stays : retract i (codeWritten i 0#32 s) = y := by
        by_cases noDecision : s.sequencer.decisions = []
        · rw [stops (by rw [decisions, noDecision])]
          refine stopMotion_still ?_
          rw [sequencer]
          by_cases underway : s.sequencer.transport.underway = true
          · exact .inr (Option.not_isSome_iff_eq_none.mp fun present => stopping ⟨noDecision, underway, present⟩)
          · exact .inl (Bool.eq_false_iff.mpr underway)
        · exact goes (by rw [decisions]; exact noDecision)
      rw [stays, finishEvent_of_quiet (retracts.quiet quiet)] at event
      have answers := retracted_answers (u := y) retracts ⟨rfl, rfl⟩
      have record (j : Fin 16) : (arbitrate y).record j = y.record j := record_congr (arbitrate_keeps y).1 j
      refine ⟨_, event, ?_⟩
      simp only [record]
      have never (noDecision : s.sequencer.decisions = []) (underway : s.sequencer.transport.underway = true)
          (present : s.sequencer.purpose.isSome = true) (_ : s.generator.mode = .accel ∨ s.generator.mode = .cruise) :
          StopBegun s (arbitrate y) := absurd ⟨noDecision, underway, present⟩ stopping
      simp only [arbitrate_keeps]
      exact ⟨retracts.block, retracts.others, cursor, receive, retracts.context, by rw [sequencer]; rfl, by rw [sequencer]; rfl, decisions,
        answers.1, answers.2, never, fun _ => ⟨by rw [sequencer]; rfl, retracts.generator⟩, by rw [retracts.servos], retracts.links,
        retracts.sensors, retracts.intake, retracts.loader⟩
  case rests =>
    intro s i c sound watched armed context writes order underway _ present hold noDecision free closed taken unnoticed quiet
    obtain ⟨p, purpose⟩ := Option.isSome_iff_exists.mp present
    have event := exec_empty_armed watched armed
    have retracts := retractedAt_retracts (i := i) (trackerOnly_codeWritten i 0#32 s) (codeWritten_keeps i 0#32 s).1 context
    have stops := retract_stops (i := i) (s := codeWritten i 0#32 s)
    generalize retractedAt i (codeWritten i 0#32 s) = y at *
    obtain ⟨ρ, -, sequencer⟩ := retracts.sequencer
    obtain ⟨cursor, receive⟩ := retracts.cursors
    obtain ⟨u, finish, ⟨a, g, l, sequencerU⟩, mode, waiting, dir, tape, tracker, links, sensors, intake, loader, ports⟩ :=
      retracts.rests quiet underway purpose hold order free closed taken unnoticed
    rw [stops (by rw [sequencer]; exact noDecision), finish] at event
    have answers := retracted_answers retracts ports
    have record (j : Fin 16) : (arbitrate u).record j = y.record j := record_congr ((arbitrate_keeps u).1.trans tracker) j
    refine ⟨_, event, ?_⟩
    simp only [arbitrate_keeps, record]
    rw [tracker, sequencerU, sequencer]
    exact ⟨retracts.block, retracts.others, cursor, receive, retracts.context, rfl, rfl, noDecision, answers.1, answers.2, rfl, rfl, rfl, rfl,
      mode, waiting, dir, by rw [tape, retracts.servos], by rw [links, retracts.links], by rw [sensors, retracts.sensors],
      by rw [intake, retracts.intake], by rw [loader, retracts.loader]⟩

end Sys2Proof.Machine
end

section
/-! RECORDED_OK verifies a block, and the last one fixes the order's outcome (R8, R35, R42, R110). -/

namespace Sys2Proof.Machine

/-! ### The done count (R8) -/

/-- The verified blocks of an order. -/
def verifiedCount (c : OrderContext) (s : State) : Nat :=
  (c.indexes.filter fun j => decide ((s.record j).state = .verified)).length

theorem verifiedCount_congr {a b : State} (c : OrderContext) (same : ∀ j : Fin 16, (b.record j).state = .verified ↔ (a.record j).state = .verified) :
    verifiedCount c b = verifiedCount c a := by
  unfold verifiedCount
  simp only [same]

theorem setRecord_write_context {i : Fin 16} {r : BlockRecord} {s : State} {c : OrderContext} (context : s.tracker.context = some c)
    (writes : c.write = true) :
    ∃ p, (setRecord i r s).tracker.context = some { c with placed := p, done := verifiedCount c (setRecord i r s) } := by
  have recounted (x : State) (same : x.tracker.context = some c) :
      ∃ p, (recount x).tracker.context = some { c with placed := p, done := verifiedCount c (recount x) } := by
    unfold recount
    rw [onTracker_tracker, same]
    exact ⟨_, congrArg some (if_pos writes)⟩
  unfold setRecord
  dsimp only
  split
  · exact recounted _ context
  · exact recounted _ context

/-- A record given back is no verified one: the done count stays. -/
theorem giveBack_context {s : State} {c : OrderContext} (context : s.tracker.context = some c) (writes : c.write = true)
    (counted : c.done = verifiedCount c s) :
    ∃ p, (giveBack s).tracker.context = some { c with placed := p } ∧ verifiedCount c (giveBack s) = c.done := by
  have same (j : Fin 16) : ((giveBack s).record j).state = .verified ↔ (s.record j).state = .verified := by
    rw [giveBack_record]
    split
    · next h =>
      obtain ⟨rfl, expecting⟩ := h
      rw [expecting]
      exact ⟨fun free => BlockState.noConfusion free, fun other => BlockState.noConfusion other⟩
    · exact Iff.rfl
  have count : verifiedCount c (giveBack s) = c.done := (verifiedCount_congr c same).trans counted.symm
  by_cases expecting : (s.record s.tracker.receiveCursor).state = .expecting
  · have gives : giveBack s = setRecord s.tracker.receiveCursor BlockRecord.blank s := if_pos expecting
    obtain ⟨p, contextY⟩ := setRecord_write_context (i := s.tracker.receiveCursor) (r := BlockRecord.blank) context writes
    rw [← gives, count] at contextY
    exact ⟨p, contextY, count⟩
  · rw [giveBack_nothing expecting] at count ⊢
    exact ⟨c.placed, context, count⟩

/-- Once an outcome is fixed no position condition of an open order is met. -/
theorem nothingDue_fixed {s : State} (nothing : NothingDue s) (f : FixedOutcome) :
    NothingDue (s.onSequencer fun q => { q with fixed := some f }) :=
  { nothing with
    noShow := fun _ _ _ free => by cases free
    erase := fun _ _ _ free => by cases free
    blank := fun _ _ _ free => by cases free
    eot := fun _ _ _ _ _ free => by cases free
    near := fun _ _ free => by cases free
    limit := fun _ _ free => by cases free
    leader := fun _ _ _ _ _ free => by cases free }

/-- An outcome fixed in an event that is otherwise quiet. -/
theorem FixedInMotion.quiet {o : Outcome} {r : Reason} {s y : State} (fixes : FixedInMotion o r s y) (quiet : Quiet s) : Quiet y := by
  obtain ⟨noSignal, nothing, noSettlement, noHandOver⟩ := quiet_iff_nothingDue.mp quiet
  obtain ⟨sequencer, ⟨-, -, -, generator, servos, -, -, loader, intake, signals⟩, -, path, -⟩ := fixes
  refine quiet_iff_nothingDue.mpr ⟨signals.trans noSignal, (nothingDue_fixed nothing { outcome := o, reason := r }).of_samePlace ?_,
    settlementDue_congr (a := s) generator (by rw [path]) (by rw [path]) noSettlement, handOverDue_none_of noHandOver intake (by rw [path])⟩
  constructor
  case sequencer => exact sequencer
  case slowing => rw [generator]; exact id
  case active => rw [generator]; rfl
  case tape => rw [servos]; rfl
  case groupB => rw [loader]; rfl
  case order => exact order_congr intake
  case holding => exact holding_congr (by rw [path]; rfl)

/-- Settles O47. -/
theorem recordedOkVerifiesTheBlock : Obligations.RecordedOkVerifiesTheBlock := by
  intro s i c watched awaiting context writes free runs away quiet
  let +generalize (eq := isX) x := codeWritten i 2#32 s
  have onlyX := trackerOnly_codeWritten i 2#32 s
  have trackerX : x.tracker = s.tracker := (codeWritten_keeps i 2#32 s).1
  have recordX (j : Fin 16) : x.record j = s.record j := codeWritten_record i j 2#32 s
  let +generalize (eq := isR) r : BlockRecord := { s.record i with state := .verified, checkTimer := none }
  have verifies : stateCheck true i x = verifyBlock i x := by
    unfold stateCheck
    rw [recordX, awaiting]
    rfl
  have block : verifyBlock i x = if doneReached (setRecord i r x) then fixOutcome .done .none (setRecord i r x) else setRecord i r x := by
    rw [isR, ← recordX]
    rfl
  have only := onlyX.trans (trackerOnly_setRecord i r x)
  obtain ⟨p, contextY⟩ := setRecord_write_context (i := i) (r := r) (s := x) (by rw [trackerX]; exact context) writes
  have recordY (j : Fin 16) : (setRecord i r x).record j = if i = j then r else s.record j := by rw [setRecord_record, recordX]
  have receiveY : (setRecord i r x).tracker.receiveCursor = s.tracker.receiveCursor :=
    (setRecord_cursors i r x).2.1.trans (by rw [trackerX])
  have event : exec (.recordedOk i) s = .next (finishEvent (verifyBlock i x)) := by
    show Host.Outcome.next (descriptorCommand i 2 s) = _
    rw [descriptorCommand_eq watched]
    exact congrArg (fun x => Host.Outcome.next (finishEvent x)) verifies
  rw [block] at event
  have quietY := only.quiet quiet
  clear_value x
  generalize setRecord i r x = y at *
  have reached : doneReached y = decide (c.n ≤ verifiedCount c y) := by
    unfold doneReached
    rw [contextY]
    simp [writes]
  by_cases done : c.n ≤ verifiedCount c y
  · rw [reached, if_pos (decide_eq_true done)] at event
    have fixes := fixOutcome_fixes (s := y) .done .none (by rw [only.intake]; exact runs) (by rw [only.sequencer]; exact free)
      (by rw [only.sequencer]; exact away)
    rw [finishEvent_of_quiet (fixes.quiet quietY)] at event
    have given := fixOutcome_open (s := y) .done .none (by rw [only.intake]; exact runs) (by rw [only.sequencer]; exact free)
      (by rw [only.sequencer]; exact away)
    obtain ⟨p', contextZ, count⟩ := giveBack_context (s := outcomeFixed .done .none y) contextY writes rfl
    rw [← given] at contextZ count
    obtain ⟨sequencer, ⟨-, -, -, generator, servos, sensors, links, loader, intake, -⟩, -, -, -, -, -⟩ := fixes
    have recordZ (j : Fin 16) (other : j = i ∨ j ≠ s.tracker.receiveCursor) : (fixOutcome .done .none y).record j = y.record j := by
      rw [given, giveBack_record]
      refine if_neg fun h => ?_
      obtain ⟨atCursor, expecting⟩ := h
      obtain rfl | away := other
      · rw [atCursor] at expecting
        have state : (y.record j).state = .verified := by rw [recordY, if_pos rfl]
        exact BlockState.noConfusion (state.symm.trans expecting)
      · exact away (atCursor.symm.trans receiveY)
    generalize fixOutcome .done .none y = z at *
    refine ⟨_, event, ?_⟩
    have record (j : Fin 16) : (arbitrate z).record j = z.record j := record_congr (arbitrate_keeps z).1 j
    simp only [arbitrate_keeps, record]
    rw [recordZ i (.inl rfl), recordY, if_pos rfl]
    refine ⟨rfl, rfl, rfl, fun j other away => by rw [recordZ j (.inr away), recordY, if_neg (Ne.symm other)],
      ⟨_, contextZ, rfl, count.symm, ?_⟩, generator.trans only.generator, servos.trans only.servos, links.trans only.links,
      sensors.trans only.sensors, intake.trans only.intake, loader.trans only.loader⟩
    rw [sequencer]
    exact (if_pos done).symm
  · rw [reached, if_neg (by simpa using done), finishEvent_of_quiet quietY] at event
    refine ⟨_, event, ?_⟩
    have record (j : Fin 16) : (arbitrate y).record j = y.record j := record_congr (arbitrate_keeps y).1 j
    simp only [arbitrate_keeps, record]
    rw [recordY, if_pos rfl]
    refine ⟨rfl, rfl, rfl, fun j other _ => by rw [recordY, if_neg (Ne.symm other)], ⟨_, contextY, rfl, rfl, ?_⟩, only.generator, only.servos,
      only.links, only.sensors, only.intake, only.loader⟩
    rw [only.sequencer, free]
    exact (if_neg done).symm

end Sys2Proof.Machine
end

section
/-! Receipts of reading and spacing orders: what the record and the sequencer take, and the stop that may follow
(R5, R13, R15, R30, R35, R45, R47, R48). -/

namespace Sys2Proof.Machine

/-! ### A stop begun in an event (R28, R67) -/

/-- A motion that has begun to stop can only let a LOAD's settlement begin, where no decision point and no EOT limit is met. -/
theorem MotionStops.follows {p : Purpose} {s b : State} (stops : MotionStops p s b) (signals : s.signals = [])
    (noHandOver : handOverDue s = none)
    (decision : ∀ i d rest, s.sequencer.decisions = (i, d) :: rest → s.sequencer.dir = some .forward →
      s.sequencer.startFallback = false → s.servos.t < d)
    (eot : s.runningOrder = some .readFwd ∨ s.runningOrder = some .spaceFwd → s.sequencer.held = false →
      s.sequencer.dir = some .forward → s.sequencer.purpose = some .read ∨ s.sequencer.purpose = some .space →
      s.sequencer.fixed = none → s.beyondEot = false) :
    ∃ u, finishEvent b = arbitrate u ∧ MaySettle b u := by
  obtain ⟨run, working, reload, generator, -⟩ := stops.generator
  obtain ⟨cs, port, path⟩ := stops.path
  have sequencer := stops.sequencer
  have still (u : State) (l : LoadStage) (same : u.sequencer = { b.sequencer with loadStage := l }) (servosU : u.servos = b.servos)
      (loaderU : u.loader = b.loader) (intakeU : u.intake = b.intake) : positionEvent u = none := by
    rw [sequencer] at same
    rw [stops.servos] at servosU
    rw [stops.loader] at loaderU
    rw [stops.intake] at intakeU
    refine positionEvent_none_iff_nothingDue.mpr (nothingDue_of_stopping (by rw [same]; rfl) ?_ ?_ (.inl (by rw [same]; simp [sequencerIn])))
    · rw [same, servosU]
      exact decision
    · unfold State.beyondEot State.tapePos State.groupB at eot ⊢
      rw [same, servosU, loaderU, order_congr intakeU]
      exact eot
  obtain ⟨u, ends, -, settles⟩ := react_settling (s := b) (by rw [stops.signals]; exact signals) (still b b.sequencer.loadStage rfl rfl rfl rfl)
    (handOverDue_none_of noHandOver stops.intake (by rw [path])) (.inl (by rw [sequencer]; simp [sequencerIn]))
    (.inl (by rw [generator])) fun u settles => by
      obtain ⟨l, same⟩ := settles.sequencer
      exact still u l same settles.servos settles.loader settles.intake
  exact ⟨u, congrArg arbitrate (ends 62), settles⟩

/-- The drives of a sound motion follow the generator (R81). -/
theorem Sound.follows {s : State} (sound : Sound s) (running : s.sequencer.transport = .running) : s.servos.driveMode = .follow := by
  rw [sound.drive, running]
  rfl

/-! ### What a receipt takes (R5, R13, R30, R47) -/

theorem takeReceipt_codeWritten (d : Direction) (m : Bool) (k : Fin 16) (code : Word) (s : State) :
    takeReceipt d m k (codeWritten k code s) = takeReceipt d m k s := by
  have word := codeWritten_word k k 1 code s
  rw [if_neg (by simp)] at word
  unfold takeReceipt
  rw [word]
  rfl

/-- The boundary of the block that has passed the head. -/
def receiptBoundary (s : State) : Int := s.servos.t - s.loader.groupB.headOffset

/-- The anchor behind a received block. -/
def receiptAnchor (d : Direction) (s : State) : Int :=
  match d with
  | .forward => receiptBoundary s
  | .backward => receiptBoundary s - s.loader.groupB.gap

def sequencerReceived (d : Direction) (ρ : Option Recovery) (s : State) : Sequencer :=
  { s.sequencer with anchor := receiptAnchor d s, gapKind := .nominal, blankRef := some s.servos.t, recovery := ρ }

/-- A receipt of record k has been taken: the record is `b`, and the receive cursor stands at `cursor`. -/
structure ReceiptTaken (b : BlockRecord) (k cursor : Fin 16) (d : Direction) (c : OrderContext) (ρ : Option Recovery) (s y : State) : Prop where
  block : y.record k = b
  others : ∀ j : Fin 16, j ≠ k → y.record j = s.record j
  context : y.tracker.context = some { c with received := c.received + 1 }
  recordCursor : y.tracker.recordCursor = s.tracker.recordCursor
  receiveCursor : y.tracker.receiveCursor = cursor
  sequencer : y.sequencer = sequencerReceived d ρ s
  generator : y.generator = s.generator
  servos : y.servos = s.servos
  links : y.links = s.links
  sensors : y.sensors = s.sensors
  intake : y.intake = s.intake
  loader : y.loader = s.loader
  signals : y.signals = s.signals
  path : ∃ w, y.path = { s.path with descriptors := w }

theorem setRecord_read_context {i : Fin 16} {r : BlockRecord} {s : State} {c : OrderContext} (context : s.tracker.context = some c)
    (reads : c.write = false) : (setRecord i r s).tracker.context = some c := by
  have recounted (x : State) (same : x.tracker.context = some c) : (recount x).tracker.context = some c := by
    unfold recount
    rw [onTracker_tracker, same]
    exact congrArg some (if_neg (by rw [reads]; decide))
  unfold setRecord
  dsimp only
  split
  · exact recounted _ context
  · exact recounted _ context

theorem anchorAfterReceipt_eq (d : Direction) (tl : Nat) {s y : State} (loader : y.loader = s.loader) :
    anchorAfterReceipt d (receivedCoords d tl s) y = setAnchor (receiptAnchor d s) .nominal y := by
  cases d
  case forward => rfl
  case backward =>
    have gap : (y.groupB.gap : Nat) = s.loader.groupB.gap := congrArg (fun l => l.groupB.gap) loader
    unfold anchorAfterReceipt
    dsimp only
    rw [gap]
    rfl

/-- The record set, and the count of the order that it belongs to. -/
structure RecordReceived (b : BlockRecord) (k : Fin 16) (c : OrderContext) (s y : State) : Prop extends TrackerOnly s y where
  block : y.record k = b
  others : ∀ j : Fin 16, j ≠ k → y.record j = s.record j
  context : y.tracker.context = some { c with received := c.received + 1 }
  recordCursor : y.tracker.recordCursor = s.tracker.recordCursor

theorem recordReceived {b : BlockRecord} {k : Fin 16} {c : OrderContext} {s x : State} (only : TrackerOnly s x) (tracker : x.tracker = s.tracker)
    (context : s.tracker.context = some c) (reads : c.write = false) :
    RecordReceived b k c s (countReceived (setRecord k b x)) ∧
    (countReceived (setRecord k b x)).tracker.receiveCursor = s.tracker.receiveCursor ∧
    RecordReceived b k c s (countReceived (advanceReceive (setRecord k b x))) ∧
    (countReceived (advanceReceive (setRecord k b x))).tracker.receiveCursor = s.tracker.receiveCursor + 1 := by
  have contextX : (setRecord k b x).tracker.context = some c := setRecord_read_context (by rw [tracker]; exact context) reads
  obtain ⟨recordCursor, receiveCursor, -⟩ := setRecord_cursors k b x
  rw [tracker] at recordCursor receiveCursor
  have onlyY := only.trans (trackerOnly_setRecord k b x)
  have block : (setRecord k b x).record k = b := setRecord_self k b x
  have others (j : Fin 16) (other : j ≠ k) : (setRecord k b x).record j = s.record j :=
    (setRecord_other _ _ other).trans (record_congr tracker j)
  generalize setRecord k b x = y at *
  obtain ⟨sequencer, generator, servos, links, sensors, intake, loader, signals, w, path⟩ := onlyY
  have counted : (countReceived y).tracker.context = some { c with received := c.received + 1 } := by
    unfold countReceived
    rw [onTracker_tracker, contextX]
    rfl
  have countedNext : (countReceived (advanceReceive y)).tracker.context = some { c with received := c.received + 1 } := counted
  exact ⟨⟨⟨sequencer, generator, servos, links, sensors, intake, loader, signals, w, path⟩, block, others, counted, recordCursor⟩, receiveCursor,
    ⟨⟨sequencer, generator, servos, links, sensors, intake, loader, signals, w, path⟩, block, others, countedNext, recordCursor⟩,
    congrArg (· + 1) receiveCursor⟩

/-- The sequencer's part of a receipt, after the tracker's. -/
theorem RecordReceived.taken {b : BlockRecord} {k cursor : Fin 16} {c : OrderContext} {s y : State} (received : RecordReceived b k c s y)
    (receive : y.tracker.receiveCursor = cursor) (d : Direction) :
    ReceiptTaken b k cursor d c s.sequencer.recovery s (setBlankRef (setAnchor (receiptAnchor d s) .nominal y)) ∧
    ReceiptTaken b k cursor d c none s (setRecovery none (setBlankRef (setAnchor (receiptAnchor d s) .nominal y))) := by
  obtain ⟨⟨sequencer, generator, servos, links, sensors, intake, loader, signals, path⟩, block, others, context, recordCursor⟩ := received
  have sequencerZ : (setBlankRef (setAnchor (receiptAnchor d s) .nominal y)).sequencer = sequencerReceived d s.sequencer.recovery s := by
    have tape : y.servos.t = s.servos.t := by rw [servos]
    unfold sequencerReceived
    rw [← sequencer, ← tape]
    rfl
  exact ⟨⟨block, others, context, recordCursor, receive, sequencerZ, generator, servos, links, sensors, intake, loader, signals, path⟩,
    ⟨block, others, context, recordCursor, receive, congrArg (fun q : Sequencer => { q with recovery := none }) sequencerZ, generator, servos,
      links, sensors, intake, loader, signals, path⟩⟩

section
variable {s : State} {c : OrderContext} {k : Fin 16}

/-- A receipt of a block or a mark in a reading order. -/
theorem readingReceipt_taken (context : s.tracker.context = some c) (reads : c.write = false) (atCursor : s.tracker.receiveCursor = k)
    (o : OrderCode) (code : Word) {r : Receipt} {m : Bool} (good : r ≠ .error) (mark : decide (r = .mark) = m) :
    ∃ y, readingReceipt r o k (codeWritten k code s) = readDecision m (backingUp s) y ∧
      ReceiptTaken { takeReceipt o.dir m k s with state := .received } k (k + 1) o.dir c none s y := by
  subst mark
  obtain ⟨-, -, received, receive⟩ := recordReceived (b := { takeReceipt o.dir (decide (r = .mark)) k s with state := .received }) (k := k)
    (trackerOnly_codeWritten k code s) (codeWritten_keeps k code s).1 context reads
  rw [atCursor] at receive
  refine ⟨_, ?_, (received.taken receive o.dir).2⟩
  have eq : readingReceipt r o k (codeWritten k code s) =
      readReceipt (decide (r = .mark)) o.dir
        (receivedCoords o.dir (takeReceipt o.dir (decide (r = .mark)) k (codeWritten k code s)).tapeLength (codeWritten k code s))
        (countReceived (advanceReceive (setRecord k
          { takeReceipt o.dir (decide (r = .mark)) k (codeWritten k code s) with state := .received } (codeWritten k code s)))) := by
    cases r
    case block => rfl
    case mark => rfl
    case error => exact absurd rfl good
  rw [eq, takeReceipt_codeWritten]
  unfold readReceipt
  have backing : backingUp (countReceived (advanceReceive (setRecord k
      { takeReceipt o.dir (decide (r = .mark)) k s with state := .received } (codeWritten k code s)))) = backingUp s := by
    unfold backingUp
    rw [received.sequencer]
  rw [backing]
  dsimp only
  rw [anchorAfterReceipt_eq o.dir _ (s := codeWritten k code s) received.loader]
  rfl

/-- A receipt in a spacing order. -/
theorem spacingReceipt_taken (context : s.tracker.context = some c) (reads : c.write = false) (atCursor : s.tracker.receiveCursor = k)
    (o : OrderCode) (code : Word) {r : Receipt} {m : Bool} (mark : decide (r = .mark) = m) :
    ∃ y, spacingReceipt r o k (codeWritten k code s) = spaceDecision m y ∧
      ReceiptTaken (takeReceipt o.dir m k s) k k o.dir c s.sequencer.recovery s y := by
  subst mark
  obtain ⟨received, receive, -⟩ := recordReceived (b := takeReceipt o.dir (decide (r = .mark)) k s) (k := k)
    (trackerOnly_codeWritten k code s) (codeWritten_keeps k code s).1 context reads
  rw [atCursor] at receive
  refine ⟨_, ?_, (received.taken receive o.dir).1⟩
  unfold spacingReceipt spaceReceipt
  dsimp only
  rw [takeReceipt_codeWritten, anchorAfterReceipt_eq o.dir _ (s := codeWritten k code s) received.loader]
  rfl

end

/-- A receipt as a command. -/
theorem exec_receipt {s : State} {k : Fin 16} {o : OrderCode} (watched : RingWatched s) (order : s.runningOrder = some o)
    (expecting : (s.record k).state = .expecting) (r : Receipt) (code : Word) (codes : code.toNat = r.code) :
    descriptorCommand k code s = finishEvent (if o.isRead then readingReceipt r o k (codeWritten k code s)
      else if o.isSpace then spacingReceipt r o k (codeWritten k code s) else conflict k r.code (codeWritten k code s)) := by
  have orderX : (codeWritten k code s).runningOrder = some o := (order_congr (codeWritten_keeps k code s).2.2.2.2.2.2.1).trans order
  have acts : stateCodeWrite k code.toNat (codeWritten k code s) = stateReceipt r k (codeWritten k code s) := by
    rw [codes]
    cases r <;> rfl
  rw [descriptorCommand_eq watched, acts]
  unfold stateReceipt
  rw [codeWritten_record, if_pos expecting, orderX]

end Sys2Proof.Machine
end

section
/-! Receipts of reading and spacing orders: the block that goes on, and the stop at a mark, at the count and before a record
that is not free (R13, R15, R17, R35, R44, R45, R48). -/

namespace Sys2Proof.Machine

/-! ### What follows a receipt -/

theorem nothingDue_received {s : State} (nothing : NothingDue s) (d : Direction) {ρ : Option Recovery}
    (which : ρ = s.sequencer.recovery ∨ ρ = none) : NothingDue (s.onSequencer fun _ => sequencerReceived d ρ s) :=
  { nothing with
    blank := fun b same _ _ => by
      obtain rfl : s.servos.t = b := Option.some.inj same
      rw [show (s.onSequencer fun _ => sequencerReceived d ρ s).servos.t - s.servos.t = 0 from Int.sub_self _]
      exact Nat.zero_le _
    backup := fun r open_ backs => by
      obtain rfl | rfl := which
      · exact nothing.backup r open_ backs
      · cases open_ }

/-- A receipt that lets the motion go on brings nothing more about. -/
theorem ReceiptTaken.quiet {b : BlockRecord} {k cursor : Fin 16} {d : Direction} {c : OrderContext} {ρ : Option Recovery} {s y : State}
    (taken : ReceiptTaken b k cursor d c ρ s y) (which : ρ = s.sequencer.recovery ∨ ρ = none) (quiet : Quiet s) : Quiet y := by
  obtain ⟨noSignal, nothing, noSettlement, noHandOver⟩ := quiet_iff_nothingDue.mp quiet
  obtain ⟨-, -, -, -, -, sequencer, generator, servos, -, -, intake, loader, signals, w, path⟩ := taken
  refine quiet_iff_nothingDue.mpr ⟨signals.trans noSignal, (nothingDue_received nothing d which).of_samePlace ?_,
    settlementDue_congr (a := s) generator (by rw [path]) (by rw [path]) noSettlement, handOverDue_none_of noHandOver intake (by rw [path])⟩
  constructor
  case sequencer => exact sequencer
  case slowing => rw [generator]; exact id
  case active => rw [generator]; rfl
  case tape => rw [servos]; rfl
  case groupB => rw [loader]; rfl
  case order => exact order_congr intake
  case holding => exact holding_congr (by rw [path]; rfl)

/-- A motion at full speed. -/
structure Cruising (p : Purpose) (s : State) : Prop where
  running : s.sequencer.transport = .running
  purpose : s.sequencer.purpose = some p
  mode : s.generator.mode = .cruise
  drive : s.servos.driveMode = .follow

/-- A receipt taken, its outcome fixed, the wait for a free record begun or a recovery opened: what the stop sets out from. -/
structure ReceiptStands (s z : State) : Prop where
  sequencer : ∃ a g b ρ fx fw, z.sequencer =
    { s.sequencer with anchor := a, gapKind := g, blankRef := b, recovery := ρ, fixed := fx, freeWait := fw } ∧
    (fx = s.sequencer.fixed ∨ fx.isSome = true)
  generator : z.generator = s.generator
  servos : z.servos = s.servos
  intake : z.intake = s.intake
  loader : z.loader = s.loader
  signals : z.signals = s.signals
  sweep : z.path.sweep = s.path.sweep

/-- A stop begun from `z`, with the settlement that may follow it. -/
structure StopFollows (z u : State) : Prop where
  sequencer : ∃ l, u.sequencer = { sequencerIn .stopping none z.sequencer with loadStage := l }
  mode : u.generator.mode = .decel
  v : u.generator.v = z.generator.v
  tracker : u.tracker = z.tracker
  servos : u.servos = z.servos
  links : u.links = z.links
  sensors : u.sensors = z.sensors
  intake : u.intake = z.intake
  loader : u.loader = z.loader
  classes : ∀ n : Nat, z.reporter.pendingClasses.getLsbD n = true → u.reporter.pendingClasses.getLsbD n = true

theorem MotionStops.stopFollows {p : Purpose} {z b u : State} (stops : MotionStops p z b) (settles : MaySettle b u) : StopFollows z u := by
  obtain ⟨run, working, reload, generator, -⟩ := stops.generator
  obtain ⟨l, sequencer⟩ := settles.sequencer
  obtain ⟨a, ch, ls, generatorU⟩ := settles.generator
  exact ⟨⟨l, by rw [sequencer, stops.sequencer]⟩, by rw [generatorU, generator], by rw [generatorU, generator],
    settles.tracker.trans stops.tracker, settles.servos.trans stops.servos, settles.links.trans stops.links,
    settles.sensors.trans stops.sensors, settles.intake.trans stops.intake, settles.loader.trans stops.loader,
    fun n told => settles.classes n (by rw [stops.pending]; exact told)⟩

theorem ReceiptStands.stops {p : Purpose} {s z : State} (stands : ReceiptStands s z) (cruising : Cruising p s) (quiet : Quiet s) :
    ∃ u, finishEvent (stopMotion z) = arbitrate u ∧ StopFollows z u := by
  obtain ⟨noSignal, nothing, -, noHandOver⟩ := quiet_iff_nothingDue.mp quiet
  obtain ⟨⟨a, g, b, ρ, fx, fw, sequencer, which⟩, generator, servos, intake, loader, signals, sweep⟩ := stands
  have moves : s.sequencer.transport.moves = true := by rw [cruising.running]; rfl
  have stops := stopMotion_stops (s := z) (p := p)
    (by rw [sequencer]; exact (congrArg Transport.underway cruising.running).trans rfl)
    (by rw [sequencer]; exact cruising.purpose) (.inr (by rw [generator]; exact cruising.mode)) (by rw [servos]; exact cruising.drive)
  obtain ⟨u, finish, settles⟩ := stops.follows (signals.trans noSignal)
    (handOverDue_none_of noHandOver intake (by rw [sweep]))
    (by
      rw [sequencer, servos]
      exact fun i x rest listed dir => nothing.decision i x rest listed moves dir)
    (by
      have eot := nothing.eot
      unfold State.beyondEot State.tapePos State.groupB at eot ⊢
      rw [sequencer, servos, loader, order_congr intake]
      intro forward held dir purpose free
      obtain rfl | fixed := which
      · exact eot forward held moves dir purpose free
      · rw [show fx = none from free] at fixed
        cases fixed)
  exact ⟨u, finish, stops.stopFollows settles⟩

theorem ReceiptStands.stopBegun {s z u : State} (stands : ReceiptStands s z) (follows : StopFollows z u) : StopBegun s (arbitrate u) := by
  obtain ⟨a, g, b, ρ, fx, fw, sequencer, -⟩ := stands.sequencer
  obtain ⟨l, sequencerU⟩ := follows.sequencer
  constructor <;> simp only [arbitrate_keeps]
  case transport => rw [sequencerU]; rfl
  case mode => exact follows.mode
  case v => rw [follows.v, stands.generator]
  case dir => rw [sequencerU, sequencer]; rfl
  case order => rw [follows.intake, stands.intake]

/-! ### The outcome fixed at a receipt (R35, R45, R48) -/

theorem giveBack_read_tracker {s : State} {c : OrderContext} (context : s.tracker.context = some c) (reads : c.write = false) :
    (giveBack s).tracker.context = some c ∧ (giveBack s).tracker.recordCursor = s.tracker.recordCursor ∧
    (giveBack s).tracker.receiveCursor = s.tracker.receiveCursor := by
  unfold giveBack
  dsimp only
  split
  · obtain ⟨recordCursor, receiveCursor, -⟩ := setRecord_cursors s.tracker.receiveCursor BlockRecord.blank s
    exact ⟨setRecord_read_context context reads, recordCursor, receiveCursor⟩
  · exact ⟨context, rfl, rfl⟩

/-- A receipt that fixes the order's outcome. -/
structure ReceiptEnds (out : Outcome) (b : BlockRecord) (k cursor : Fin 16) (d : Direction) (c : OrderContext) (s t : State) : Prop where
  given : b.state = .expecting → cursor = k → t.record k = BlockRecord.blank
  block : cursor ≠ k → t.record k = b
  others : ∀ j : Fin 16, j ≠ k → j ≠ cursor → t.record j = s.record j
  context : t.tracker.context = some { c with received := c.received + 1 }
  recordCursor : t.tracker.recordCursor = s.tracker.recordCursor
  receiveCursor : t.tracker.receiveCursor = cursor
  fixed : t.sequencer.fixed = some { outcome := out, reason := .none }
  anchor : t.sequencer.anchor = receiptAnchor d s
  blankRef : t.sequencer.blankRef = some s.servos.t
  begun : StopBegun s t
  servos : t.servos = s.servos
  links : t.links = s.links
  sensors : t.sensors = s.sensors
  loader : t.loader = s.loader

theorem ReceiptTaken.ends {b : BlockRecord} {k cursor : Fin 16} {d : Direction} {c : OrderContext} {ρ : Option Recovery} {p : Purpose}
    {s y : State} (taken : ReceiptTaken b k cursor d c ρ s y) (reads : c.write = false) (cruising : Cruising p s) (quiet : Quiet s)
    (runs : s.intake.running.isSome = true) (free : s.sequencer.fixed = none) (out : Outcome) :
    ∃ u, finishEvent (fixAndStop out .none y) = arbitrate u ∧ ReceiptEnds out b k cursor d c s (arbitrate u) := by
  obtain ⟨block, others, context, recordCursor, receiveCursor, sequencer, generator, servos, links, sensors, intake, loader, signals, w, path⟩ := taken
  have runsY : y.intake.running.isSome = true := by rw [intake]; exact runs
  have freeY : y.sequencer.fixed = none := by rw [sequencer]; exact free
  have awayY : y.sequencer.transport ≠ .stopped := by
    rw [sequencer]
    show s.sequencer.transport ≠ .stopped
    rw [cruising.running]
    decide
  have fixes := fixOutcome_fixes (s := y) out .none runsY freeY awayY
  have opened := fixOutcome_open (s := y) out .none runsY freeY awayY
  obtain ⟨contextZ, recordZ, receiveZ⟩ := giveBack_read_tracker (s := outcomeFixed out .none y) context reads
  rw [← opened] at contextZ recordZ receiveZ
  show ∃ u, finishEvent (stopMotion (fixOutcome out .none y)) = arbitrate u ∧ _
  obtain ⟨sequencerZ, same, -, pathZ, given, kept, -⟩ := fixes
  generalize fixOutcome out .none y = z at *
  rw [sequencer] at sequencerZ
  have stands : ReceiptStands s z := ⟨⟨_, _, _, ρ, _, s.sequencer.freeWait, sequencerZ, .inr rfl⟩, same.generator.trans generator, same.servos.trans servos,
    same.intake.trans intake, same.loader.trans loader, same.signals.trans signals, by rw [pathZ, path]⟩
  obtain ⟨u, finish, follows⟩ := stands.stops cruising quiet
  have begun := stands.stopBegun follows
  obtain ⟨l, sequencerU⟩ := follows.sequencer
  have record (j : Fin 16) : (arbitrate u).record j = z.record j := record_congr ((arbitrate_keeps u).1.trans follows.tracker) j
  rw [receiveCursor] at given kept
  refine ⟨u, finish, ?_⟩
  constructor
  case begun => exact begun
  case given =>
    rintro expecting rfl
    rw [record]
    exact given (by rw [block]; exact expecting)
  case block =>
    intro other
    rw [record, kept k (Ne.symm other), block]
  case others =>
    intro j other away
    rw [record, kept j away, others j other]
  all_goals simp only [arbitrate_keeps]
  case context => rw [follows.tracker]; exact contextZ
  case recordCursor => rw [follows.tracker, recordZ]; exact recordCursor
  case receiveCursor => rw [follows.tracker, receiveZ]; exact receiveCursor
  case fixed => rw [sequencerU, sequencerZ]; rfl
  case anchor => rw [sequencerU, sequencerZ]; rfl
  case blankRef => rw [sequencerU, sequencerZ]; rfl
  case servos => rw [follows.servos, stands.servos]
  case links => exact follows.links.trans (same.links.trans links)
  case sensors => exact follows.sensors.trans (same.sensors.trans sensors)
  case loader => rw [follows.loader, stands.loader]

/-! ### The decisions (R45, R48) -/

section
variable {b : BlockRecord} {k cursor : Fin 16} {d : Direction} {c : OrderContext} {ρ : Option Recovery} {s y : State}
variable (taken : ReceiptTaken b k cursor d c ρ s y)
include taken

theorem ReceiptTaken.countReached : countReached y = (decide (1 ≤ c.n) && decide (c.n ≤ c.received + 1)) := by
  unfold Machine.countReached
  rw [taken.context]

theorem ReceiptTaken.fixed (free : s.sequencer.fixed = none) : y.sequencer.fixed.isSome = false := by
  rw [taken.sequencer]
  show s.sequencer.fixed.isSome = false
  rw [free]
  rfl

/-- A mark ends a reading order. -/
theorem ReceiptTaken.readMark (free : s.sequencer.fixed = none) (backing : Bool) :
    readDecision true backing y = fixAndStop .doneMark .none y := by
  unfold readDecision
  rw [if_neg (by rw [taken.fixed free]; decide), if_pos rfl]

theorem ReceiptTaken.spaceMark (free : s.sequencer.fixed = none) : spaceDecision true y = fixAndStop .doneMark .none y := by
  unfold spaceDecision
  rw [if_neg (by rw [taken.fixed free]; decide), if_pos rfl]

/-- The last block ends the order. -/
theorem ReceiptTaken.readLast (free : s.sequencer.fixed = none) (last : c.n = c.received + 1) (backing : Bool) :
    readDecision false backing y = fixAndStop .done .none y := by
  unfold readDecision
  rw [if_neg (by rw [taken.fixed free]; decide), if_neg (by decide), if_pos (by rw [taken.countReached]; simp [last])]

theorem ReceiptTaken.spaceLast (free : s.sequencer.fixed = none) (last : c.n = c.received + 1) :
    spaceDecision false y = fixAndStop .done .none y := by
  unfold spaceDecision
  rw [if_neg (by rw [taken.fixed free]; decide), if_neg (by decide), if_pos (by rw [taken.countReached]; simp [last])]

theorem ReceiptTaken.spaceMore (free : s.sequencer.fixed = none) (more : c.n = 0 ∨ c.received + 1 < c.n) : spaceDecision false y = y := by
  unfold spaceDecision
  rw [if_neg (by rw [taken.fixed free]; decide), if_neg (by decide), if_neg (by rw [taken.countReached]; simp; omega)]

/-- A block short of the count: the next record is expected, or awaited. -/
theorem ReceiptTaken.readMore (free : s.sequencer.fixed = none) (more : c.received + 1 < c.n) :
    readDecision false false y = if (y.record cursor).state = .free
      then setRecord cursor { y.record cursor with state := .expecting, slot := y.intake.running } y
      else stopMotion (y.onSequencer fun q => { q with freeWait := true }) := by
  unfold readDecision
  rw [if_neg (by rw [taken.fixed free]; decide), if_neg (by decide), if_neg (by rw [taken.countReached]; simp; omega)]
  unfold expectRequest
  dsimp only
  rw [taken.receiveCursor]
  by_cases next : (y.record cursor).state = .free
  · rw [if_pos next, if_pos next]
    exact if_neg (by decide)
  · rw [if_neg next, if_neg next]

end

end Sys2Proof.Machine
end

section
/-! Receipts as commands: a block, a mark and an error of the formatter (R13 to R15, R45, R48, R119, R121). -/

namespace Sys2Proof.Machine

theorem next_ne (k : Fin 16) : k + 1 ≠ k := by
  revert k
  decide

theorem backingUp_closed {s : State} (closed : s.sequencer.recovery = none) : backingUp s = false := by
  unfold backingUp
  rw [closed]

theorem isRead_of_isSpace {o : OrderCode} (spaces : o.isSpace = true) : o.isRead = false := by
  cases o
  case spaceFwd => rfl
  case spaceBwd => rfl
  all_goals cases spaces

/-- RECEIVED short of the count, with the next record free. -/
theorem received_goesOn {s : State} {o : OrderCode} {c : OrderContext} {k : Fin 16} (watched : RingWatched s) (order : s.runningOrder = some o)
    (reading : o.isRead = true) (atCursor : s.tracker.receiveCursor = k) (expecting : (s.record k).state = .expecting)
    (free : s.sequencer.fixed = none) (closed : s.sequencer.recovery = none) (context : s.tracker.context = some c) (reads : c.write = false)
    (more : c.received + 1 < c.n) (next : (s.record (k + 1)).state = .free) (quiet : Quiet s) :
    ∃ y, exec (.received k) s = .next (arbitrate (setRecord (k + 1) { y.record (k + 1) with state := .expecting, slot := y.intake.running } y)) ∧
      ReceiptTaken { takeReceipt o.dir false k s with state := .received } k (k + 1) o.dir c none s y := by
  obtain ⟨y, receipt, taken⟩ := readingReceipt_taken context reads atCursor o 4#32 (r := .block) (m := false) (by decide) rfl
  have event : exec (.received k) s = .next (descriptorCommand k 4#32 s) := rfl
  rw [exec_receipt watched order expecting .block 4#32 rfl, if_pos reading, receipt, backingUp_closed closed, taken.readMore free more,
    if_pos (by rw [taken.others _ (next_ne k)]; exact next),
    finishEvent_of_quiet ((trackerOnly_setRecord _ _ _).quiet (taken.quiet (.inr rfl) quiet))] at event
  exact ⟨y, event, taken⟩

/-- Settles O48. -/
theorem receiptsAreTaken : Obligations.ReceiptsAreTaken := by
  refine ⟨?goesOn, ?mark, ?stops, ?spaces⟩
  case goesOn =>
    intro s o c watched order reading expecting free closed context reads more next quiet k
    obtain ⟨y, event, taken⟩ := received_goesOn watched order reading rfl expecting free closed context reads more next quiet
    let +generalize (eq := isZ) z := setRecord (k + 1) { y.record (k + 1) with state := .expecting, slot := y.intake.running } y
    have only := trackerOnly_setRecord (k + 1) { y.record (k + 1) with state := .expecting, slot := y.intake.running } y
    have record (j : Fin 16) : (arbitrate z).record j = z.record j := record_congr (arbitrate_keeps z).1 j
    have atK : z.record k = { takeReceipt o.dir false k s with state := .received } :=
      (setRecord_other _ _ (Ne.symm (next_ne k))).trans taken.block
    have atNext : z.record (k + 1) = { y.record (k + 1) with state := .expecting, slot := y.intake.running } := setRecord_self _ _ _
    have contextZ : z.tracker.context = some { c with received := c.received + 1 } := setRecord_read_context taken.context reads
    obtain ⟨recordCursor, receiveCursor, -⟩ := setRecord_cursors (k + 1) { y.record (k + 1) with state := .expecting, slot := y.intake.running } y
    have elsewhere (j : Fin 16) (other : j ≠ k) (away : j ≠ k + 1) : z.record j = s.record j :=
      (setRecord_other _ _ away).trans (taken.others j other)
    rw [← isZ] at event only recordCursor receiveCursor
    clear_value z
    obtain ⟨sequencer, generator, servos, links, sensors, intake, loader, -⟩ := only
    refine ⟨_, event, ?_⟩
    dsimp only
    simp only [arbitrate_keeps, record]
    rw [atK, atNext, sequencer, taken.sequencer]
    exact ⟨rfl, rfl, rfl, rfl, rfl, receiveCursor.trans taken.receiveCursor, contextZ, rfl, elsewhere, recordCursor.trans taken.recordCursor, rfl,
      rfl, rfl, generator.trans taken.generator, servos.trans taken.servos, links.trans taken.links, sensors.trans taken.sensors,
      intake.trans taken.intake, loader.trans taken.loader⟩
  case mark =>
    intro s o p c sound watched order reading expecting free context reads running purpose mode quiet k
    have cruising : Cruising p s := ⟨running, purpose, mode, sound.follows running⟩
    obtain ⟨y, receipt, taken⟩ := readingReceipt_taken context reads (k := k) rfl o 5#32 (r := .mark) (m := true) (by decide) rfl
    have event : exec (.receivedMark k) s = .next (descriptorCommand k 5#32 s) := rfl
    rw [exec_receipt watched order expecting .mark 5#32 rfl, if_pos reading, receipt, taken.readMark free] at event
    obtain ⟨u, finish, ends⟩ := taken.ends reads cruising quiet (running_of_order order) free .doneMark
    rw [finish] at event
    refine ⟨_, event, ?_⟩
    rw [ends.block (next_ne k)]
    exact ⟨rfl, rfl, rfl, ends.receiveCursor, ends.context, ends.fixed, ends.begun.transport, ends.others, ends.recordCursor, ends.begun.mode,
      ends.begun.v, ends.servos, ends.links, ends.sensors, ends.begun.order, ends.loader⟩
  case stops =>
    intro s o p c sound watched order reading expecting free context reads closed running purpose mode quiet k b counts
    have cruising : Cruising p s := ⟨running, purpose, mode, sound.follows running⟩
    obtain ⟨y, receipt, taken⟩ := readingReceipt_taken context reads (k := k) rfl o 4#32 (r := .block) (m := false) (by decide) rfl
    have event : exec (.received k) s = .next (descriptorCommand k 4#32 s) := rfl
    rw [exec_receipt watched order expecting .block 4#32 rfl, if_pos reading, receipt, backingUp_closed closed] at event
    obtain last | ⟨more, next⟩ := counts
    · rw [taken.readLast free last] at event
      obtain ⟨u, finish, ends⟩ := taken.ends reads cruising quiet (running_of_order order) free .done
      rw [finish] at event
      refine ⟨_, event, ?_⟩
      rw [ends.block (next_ne k)]
      exact ⟨rfl, ends.receiveCursor, ends.context, ends.anchor, ends.blankRef, ends.begun, fun _ => ends.fixed,
        fun more => absurd last (by omega), ends.others, ends.recordCursor, ends.servos, ends.links, ends.sensors, ends.loader⟩
    · rw [taken.readMore free more, if_neg (by rw [taken.others _ (next_ne k)]; exact next)] at event
      obtain ⟨w, path⟩ := taken.path
      have stands : ReceiptStands s (y.onSequencer fun q => { q with freeWait := true }) :=
        ⟨⟨_, _, _, none, s.sequencer.fixed, true, by rw [onSequencer_sequencer, taken.sequencer]; rfl, .inl rfl⟩, taken.generator, taken.servos,
          taken.intake, taken.loader, taken.signals, by rw [onSequencer_path, path]⟩
      obtain ⟨u, finish, follows⟩ := stands.stops cruising quiet
      have begun := stands.stopBegun follows
      rw [finish] at event
      obtain ⟨l, sequencer⟩ := follows.sequencer
      rw [onSequencer_sequencer, taken.sequencer] at sequencer
      have tracker : u.tracker = y.tracker := follows.tracker
      have record (j : Fin 16) : (arbitrate u).record j = y.record j := record_congr ((arbitrate_keeps u).1.trans tracker) j
      refine ⟨_, event, ?_⟩
      simp only [record]
      rw [taken.block]
      refine ⟨rfl, ?_, ?_, ?_, ?_, begun, fun last => absurd last (by omega), fun _ => ⟨?_, ?_, taken.others _ (next_ne k)⟩,
        fun j other _ => taken.others j other, ?_, ?_, ?_, ?_, ?_⟩
      all_goals simp only [arbitrate_keeps]
      · rw [tracker]; exact taken.receiveCursor
      · rw [tracker]; exact taken.context
      · rw [sequencer]; rfl
      · rw [sequencer]; rfl
      · rw [sequencer]; exact free
      · rw [sequencer]; rfl
      · rw [tracker]; exact taken.recordCursor
      · exact follows.servos.trans taken.servos
      · exact follows.links.trans taken.links
      · exact follows.sensors.trans taken.sensors
      · exact follows.loader.trans taken.loader
  case spaces =>
    intro s o c watched order spaces expecting free context reads quiet k b anchor
    have other := isRead_of_isSpace spaces
    have event (r : Receipt) (m : Bool) (mark : decide (r = .mark) = m) (code : Word) (codes : code.toNat = r.code) :
        ∃ y, descriptorCommand k code s = finishEvent (spaceDecision m y) ∧
          ReceiptTaken (takeReceipt o.dir m k s) k k o.dir c s.sequencer.recovery s y := by
      obtain ⟨y, receipt, taken⟩ := spacingReceipt_taken context reads (k := k) rfl o code mark
      refine ⟨y, ?_, taken⟩
      rw [exec_receipt watched order expecting r code codes, if_neg (by rw [other]; decide), if_pos spaces, receipt]
    have counted (command : Instr) (commands : command = .received k ∨ command = .receivedError k) :
        ∃ y, exec command s = .next (finishEvent (spaceDecision false y)) ∧
          ReceiptTaken (takeReceipt o.dir false k s) k k o.dir c s.sequencer.recovery s y := by
      obtain rfl | rfl := commands
      · obtain ⟨y, acts, taken⟩ := event .block false rfl 4#32 rfl
        exact ⟨y, congrArg Host.Outcome.next acts, taken⟩
      · obtain ⟨y, acts, taken⟩ := event .error false rfl 6#32 rfl
        exact ⟨y, congrArg Host.Outcome.next acts, taken⟩
    refine ⟨fun command commands more => ?_, fun p command out sound running purpose mode ending => ?_⟩
    · obtain ⟨y, acts, taken⟩ := counted command commands
      rw [taken.spaceMore free more, finishEvent_of_quiet (taken.quiet (.inl rfl) quiet)] at acts
      have record (j : Fin 16) : (arbitrate y).record j = y.record j := record_congr (arbitrate_keeps y).1 j
      refine ⟨_, acts, ?_⟩
      dsimp only
      simp only [arbitrate_keeps, record]
      rw [taken.block]
      exact ⟨expecting, rfl, rfl, rfl, rfl, taken.context, taken.receiveCursor, taken.others, taken.recordCursor, taken.sequencer, taken.generator,
        taken.servos, taken.links, taken.sensors, taken.intake, taken.loader⟩
    · have cruising : Cruising p s := ⟨running, purpose, mode, sound.follows running⟩
      have ended : ∃ y m, exec command s = .next (finishEvent (fixAndStop out .none y)) ∧
          ReceiptTaken (takeReceipt o.dir m k s) k k o.dir c s.sequencer.recovery s y := by
        obtain ⟨rfl, rfl⟩ | ⟨commands, last, rfl⟩ := ending
        · obtain ⟨y, acts, taken⟩ := event .mark true rfl 5#32 rfl
          exact ⟨y, true, congrArg Host.Outcome.next (acts.trans (congrArg finishEvent (taken.spaceMark free))), taken⟩
        · obtain ⟨y, acts, taken⟩ := counted command commands
          exact ⟨y, false, acts.trans (congrArg (fun x => Host.Outcome.next (finishEvent x)) (taken.spaceLast free last)), taken⟩
      obtain ⟨y, m, acts, taken⟩ := ended
      obtain ⟨u, finish, ends⟩ := taken.ends reads cruising quiet (running_of_order order) free out
      rw [finish] at acts
      exact ⟨_, acts, ends.given expecting rfl, fun j away => ends.others j away away, ends.context, ends.receiveCursor, ends.recordCursor,
        ends.fixed, ends.anchor, ends.blankRef, ends.begun, ends.servos, ends.links, ends.sensors, ends.loader⟩

/-! ### RECEIVED_ERROR in a reading order (R119, R121) -/

/-- The record of a receipt with an error, counted. -/
def failedReceipt (o : OrderCode) (k : Fin 16) (s : State) : BlockRecord :=
  { takeReceipt o.dir false k s with attempts := (s.record k).attempts + 1 }

/-- The recovery that the error opens. -/
def readRecoveryOpened (o : OrderCode) (k : Fin 16) (s : State) : Recovery :=
  { kind := .read, index := k, phase := .settle
    target := readTarget o.dir (receivedCoords o.dir (takeReceipt o.dir false k s).tapeLength s) s }

/-- The tracker and the sequencer before the stop of a read recovery. -/
structure ReadRecoveryOpened (o : OrderCode) (k : Fin 16) (s z : State) : Prop extends ReceiptStands s z where
  block : z.record k = failedReceipt o k s
  others : ∀ j : Fin 16, j ≠ k → z.record j = s.record j
  cursors : z.tracker.recordCursor = s.tracker.recordCursor ∧ z.tracker.receiveCursor = s.tracker.receiveCursor
  recovery : z.sequencer.recovery = some (readRecoveryOpened o k s)
  links : z.links = s.links
  sensors : z.sensors = s.sensors
  told : z.reporter.pendingClasses.getLsbD 2 = true

theorem setRecovery_transport (r : Option Recovery) (s : State) : (setRecovery r s).sequencer.transport = s.sequencer.transport := rfl

theorem readTarget_congr {a b : State} (loader : b.loader = a.loader) (d : Direction) (c : Coords) : readTarget d c b = readTarget d c a := by
  unfold readTarget State.headOffset State.groupB
  rw [loader]

theorem readErrorTaken_opens {k : Fin 16} {o : OrderCode} {c : Coords} {s : State} (closed : s.sequencer.recovery = none)
    (few : (s.record k).attempts < s.loader.groupB.readRetry) (running : s.sequencer.transport = .running) :
    readErrorTaken k o c s = stopMotion (setRecovery (some { kind := .read, index := k, phase := .settle, target := readTarget o.dir c s })
      (raiseBlock .readError k (wordOfNat ((s.record k).attempts + 1)) (wordOfNat (directionCode (some o.dir)))
        (setRecord k { s.record k with attempts := (s.record k).attempts + 1 } s))) := by
  have attempts : min ((s.record k).attempts + 1) (s.loader.groupB.readRetry + 1) = (s.record k).attempts + 1 := by omega
  have counts : errorNotCounted s = false := by
    unfold errorNotCounted
    rw [closed]
  let +generalize (eq := isX) x := setRecord k { s.record k with attempts := (s.record k).attempts + 1 } s
  have opens : readErrorTaken k o c s = openReadRecovery k o c x := by
    unfold readErrorTaken State.groupB
    dsimp only
    rw [if_neg (by rw [counts]; decide), attempts, if_neg (by omega)]
  have attemptsX : (x.record k).attempts = (s.record k).attempts + 1 := by rw [isX, setRecord_self]
  obtain ⟨sequencer, -, servos, -, -, -, -, loader, -⟩ := setRecord_keeps k { s.record k with attempts := (s.record k).attempts + 1 } s
  rw [← isX] at sequencer servos loader
  rw [opens]
  unfold openReadRecovery
  dsimp only
  rw [attemptsX, readTarget_congr loader, if_neg]
  rw [setRecovery_transport, (raiseBlock_keeps _ _ _ _ _).2.1, sequencer, running]
  decide

theorem readingReceipt_error {s : State} {o : OrderCode} {k : Fin 16} (closed : s.sequencer.recovery = none)
    (few : (s.record k).attempts < s.loader.groupB.readRetry) (running : s.sequencer.transport = .running) (code : Word) :
    ∃ z, readingReceipt .error o k (codeWritten k code s) = stopMotion z ∧ ReadRecoveryOpened o k s z := by
  let +generalize (eq := isX) x := codeWritten k code s
  let +generalize (eq := isY) y := setBlankRef (setRecord k (takeReceipt o.dir false k s) x)
  have trackerX : x.tracker = s.tracker := (codeWritten_keeps k code s).1
  have receipt : readingReceipt .error o k x =
      readErrorTaken k o (receivedCoords o.dir (takeReceipt o.dir false k s).tapeLength s) y := by
    show readErrorTaken k o (receivedCoords o.dir (takeReceipt o.dir false k x).tapeLength x) (setBlankRef (setRecord k (takeReceipt o.dir false k x) x)) = _
    rw [isX, takeReceipt_codeWritten]
    rfl
  obtain ⟨sequencerR, generator, servos, links, sensors, intake, loader, signals, w, path⟩ :=
    (trackerOnly_codeWritten k code s).trans (trackerOnly_setRecord k (takeReceipt o.dir false k s) x)
  obtain ⟨recordCursor, receiveCursor, -⟩ := setRecord_cursors k (takeReceipt o.dir false k s) x
  rw [trackerX] at recordCursor receiveCursor
  have sequencer : y.sequencer = { s.sequencer with blankRef := some s.servos.t } := by
    have tape : (setRecord k (takeReceipt o.dir false k s) x).servos.t = s.servos.t := by rw [servos]
    rw [← sequencerR, ← tape]
    rfl
  have block : y.record k = takeReceipt o.dir false k s := setRecord_self k _ x
  have others (j : Fin 16) (other : j ≠ k) : y.record j = s.record j := (setRecord_other _ x other).trans (codeWritten_record k j code s)
  have attempts : (y.record k).attempts = (s.record k).attempts := by rw [block]; rfl
  have opens := readErrorTaken_opens (k := k) (o := o) (c := receivedCoords o.dir (takeReceipt o.dir false k s).tapeLength s) (s := y)
    (by rw [sequencer]; exact closed) (by rw [attempts]; exact Nat.le_trans few (Nat.le_of_eq (congrArg (fun l => l.groupB.readRetry) loader).symm))
    (by rw [sequencer]; exact running)
  rw [readTarget_congr (a := s) (b := y) loader, block] at opens
  have cursorsY : y.tracker.recordCursor = s.tracker.recordCursor ∧ y.tracker.receiveCursor = s.tracker.receiveCursor := ⟨recordCursor, receiveCursor⟩
  have keepsY : y.generator = s.generator ∧ y.servos = s.servos ∧ y.links = s.links ∧ y.sensors = s.sensors ∧ y.intake = s.intake ∧
      y.loader = s.loader ∧ y.signals = s.signals ∧ y.path.sweep = s.path.sweep :=
    ⟨generator, servos, links, sensors, intake, loader, signals, (congrArg Path.sweep path).trans rfl⟩
  clear_value y
  obtain ⟨generator, servos, links, sensors, intake, loader, signals, sweep⟩ := keepsY
  refine ⟨_, receipt.trans opens, ?_⟩
  let +generalize (eq := isV) v := setRecord k (failedReceipt o k s) y
  obtain ⟨sequencerV, generatorV, servosV, linksV, sensorsV, intakeV, pathV, loaderV, signalsV, -⟩ := setRecord_keeps k (failedReceipt o k s) y
  obtain ⟨recordCursorV, receiveCursorV, -⟩ := setRecord_cursors k (failedReceipt o k s) y
  have blockV : v.record k = failedReceipt o k s := setRecord_self k _ y
  have othersV (j : Fin 16) (other : j ≠ k) : v.record j = s.record j := (setRecord_other _ y other).trans (others j other)
  rw [← isV] at sequencerV generatorV servosV linksV sensorsV intakeV pathV loaderV signalsV recordCursorV receiveCursorV
  show ReadRecoveryOpened o k s (setRecovery (some (readRecoveryOpened o k s))
    (raiseBlock .readError k (wordOfNat ((takeReceipt o.dir false k s).attempts + 1)) (wordOfNat (directionCode (some o.dir))) v))
  clear_value v
  let +generalize (eq := isE) e := raiseBlock .readError k (wordOfNat ((takeReceipt o.dir false k s).attempts + 1)) (wordOfNat (directionCode (some o.dir))) v
  obtain ⟨trackerE, sequencerE, generatorE, servosE, linksE, sensorsE, intakeE, pathE, loaderE, signalsE, -⟩ :=
    raiseBlock_keeps .readError k (wordOfNat ((takeReceipt o.dir false k s).attempts + 1)) (wordOfNat (directionCode (some o.dir))) v
  have told : e.reporter.pendingClasses.getLsbD 2 = true := raise_makes_pending _ _
  rw [← isE] at trackerE sequencerE generatorE servosE linksE sensorsE intakeE pathE loaderE signalsE
  clear_value e
  constructor
  case toReceiptStands =>
    refine ⟨⟨s.sequencer.anchor, s.sequencer.gapKind, some s.servos.t, some (readRecoveryOpened o k s), s.sequencer.fixed, s.sequencer.freeWait, ?_,
      .inl rfl⟩, (generatorE.trans generatorV).trans generator, (servosE.trans servosV).trans servos, (intakeE.trans intakeV).trans intake,
      (loaderE.trans loaderV).trans loader, (signalsE.trans signalsV).trans signals, (congrArg Path.sweep (pathE.trans pathV)).trans sweep⟩
    exact congrArg (fun q : Sequencer => { q with recovery := some (readRecoveryOpened o k s) }) ((sequencerE.trans sequencerV).trans sequencer)
  case block => exact (record_congr trackerE k).trans blockV
  case others => exact fun j other => (record_congr trackerE j).trans (othersV j other)
  case cursors =>
    exact ⟨(congrArg Tracker.recordCursor trackerE).trans (recordCursorV.trans cursorsY.1),
      (congrArg Tracker.receiveCursor trackerE).trans (receiveCursorV.trans cursorsY.2)⟩
  case recovery => rfl
  case links => exact (linksE.trans linksV).trans links
  case sensors => exact (sensorsE.trans sensorsV).trans sensors
  case told => exact told

/-- Settles O49. -/
theorem receivedErrorOpensRecovery : Obligations.ReceivedErrorOpensRecovery := by
  intro s o p sound watched order reading expecting free closed few running purpose mode quiet k
  have cruising : Cruising p s := ⟨running, purpose, mode, sound.follows running⟩
  obtain ⟨z, receipt, opened⟩ := readingReceipt_error (o := o) (k := k) closed few running 6#32
  have event : exec (.receivedError k) s = .next (descriptorCommand k 6#32 s) := rfl
  obtain ⟨u, finish, follows⟩ := opened.toReceiptStands.stops cruising quiet
  have begun := opened.toReceiptStands.stopBegun follows
  rw [exec_receipt watched order expecting .error 6#32 rfl, if_pos reading, receipt, finish] at event
  have record (j : Fin 16) : (arbitrate u).record j = z.record j := record_congr ((arbitrate_keeps u).1.trans follows.tracker) j
  obtain ⟨l, sequencerU⟩ := follows.sequencer
  refine ⟨_, event, ?_⟩
  rw [record, opened.block]
  simp only [record]
  refine ⟨expecting, rfl, ?_, ⟨receivedCoords o.dir (takeReceipt o.dir false k s).tapeLength s, rfl, ?_⟩, opened.others, ?_, begun.transport, ?_,
    ?_, ?_, ?_, begun.order, ?_⟩
  all_goals simp only [arbitrate_keeps]
  · rw [follows.tracker]; exact opened.cursors.2
  · rw [sequencerU]; exact opened.recovery
  · rw [follows.tracker]; exact opened.cursors.1
  · exact follows.classes 2 opened.told
  · exact follows.servos.trans opened.servos
  · exact follows.links.trans opened.links
  · exact follows.sensors.trans opened.sensors
  · exact follows.loader.trans opened.loader

end Sys2Proof.Machine
end

section
/-! Commits taken into a slot: the queued orders that wait, the busy slot, and the code that no order has (R144 to R149, R191). -/

namespace Sys2Proof.Machine

/-! ### A commit taken (R144, R145, R147, R148) -/

/-- The final T of the new result and the state that it is recorded in. -/
def commitBase (o : OrderCode) (i : Fin 8) (q : Byte) (s : State) : Int × State :=
  if o.acceptedOutcome = .done then (s.servos.t, committed i o.code q s) else takeFree (committed i o.code q s)

/-- The state after an order is taken, before its effect. -/
def takenIn (o : OrderCode) (i : Fin 8) (q : Byte) (s : State) : State :=
  recordCommit i (takenOrder o i q s) o.acceptedOutcome .none (commitBase o i q s).1 (commitBase o i q s).2

/-- What a state `t` after a commit keeps of the state `s` before: the slot's commit word, result and taken order are new. -/
structure TakenInSlot (o : OrderCode) (i : Fin 8) (q : Byte) (s t : State) : Prop where
  result : ∃ x, t.intake.results[i] =
    { code := o.code.toNat, tag := s.slotWord i 2, seq := q.toNat, outcome := o.acceptedOutcome, reason := .none,
      arg := (takenOrder o i q s).arg, clamped := (takenOrder o i q s).clamped, blocks := 0, finalT := x }
  results : ∀ j : Fin 8, j ≠ i → t.intake.results[j] = s.intake.results[j]
  order : t.intake.taken[i] = takenOrder o i q s
  taken : ∀ j : Fin 8, j ≠ i → t.intake.taken[j] = s.intake.taken[j]
  queue : t.intake.queue = s.intake.queue
  running : t.intake.running = s.intake.running
  suspended : t.intake.suspended = s.intake.suspended
  path : ∃ w, t.path = { s.path with slots := w }
  tracker : t.tracker = s.tracker
  sequencer : t.sequencer = s.sequencer
  generator : t.generator = s.generator
  servos : t.servos = s.servos
  links : t.links = s.links
  sensors : t.sensors = s.sensors
  loader : t.loader = s.loader
  signals : t.signals = s.signals
  pending : t.reporter.pendingClasses = s.reporter.pendingClasses

/-- The state in which a commit is recorded has the shadow of the slot alone changed, and a free value used. -/
theorem commitBase_keeps (o : OrderCode) (i : Fin 8) (q : Byte) (s : State) : ∃ n,
    (commitBase o i q s).2 = { committed i o.code q s with freeCount := n } := by
  unfold commitBase
  split
  · exact ⟨s.freeCount, rfl⟩
  · exact ⟨s.freeCount + 1, rfl⟩

theorem takenIn_takes (o : OrderCode) (i : Fin 8) (q : Byte) (s : State) : TakenInSlot o i q s (takenIn o i q s) := by
  obtain ⟨n, base⟩ := commitBase_keeps o i q s
  unfold takenIn
  rw [base]
  generalize (commitBase o i q s).1 = x
  let +generalize (eq := isB) b : State := { committed i o.code q s with freeCount := n }
  obtain ⟨queue, suspended, running, taken⟩ := recordCommit_intake i (takenOrder o i q s) o.acceptedOutcome .none x b
  have results (j : Fin 8) := recordCommit_results i j (takenOrder o i q s) o.acceptedOutcome .none x b
  exact {
    result := ⟨x, (results i).trans (if_pos rfl)⟩
    results := fun j other => (results j).trans (if_neg other.symm)
    order := by rw [taken, Fin.getElem_fin, Vector.getElem_set_self]
    taken := fun j other => by
      rw [taken, Fin.getElem_fin, Fin.getElem_fin, Vector.getElem_set_ne _ _ (fun e => other (Fin.ext e.symm))]
      rfl
    queue := queue
    running := running
    suspended := suspended
    path := ⟨b.path.slots, by rw [(recordCommit_keeps _ _ _ _ _ _).2.2.2.2.2.2.1]; rfl⟩
    tracker := by simp [isB, committed]
    sequencer := by simp [isB, committed]
    generator := by simp [isB, committed]
    servos := by simp [isB, committed]
    links := by simp [isB, committed]
    sensors := by simp [isB, committed]
    loader := by simp [isB, committed]
    signals := by simp [isB, committed]
    pending := by rw [recordCommit_reporter]; simp [isB, committed] }

/-- A command with an order that its slot takes. -/
theorem slotCommand_takes {o : OrderCode} {i : Fin 8} {s : State} (q : Byte) (slot : SlotFree i s)
    (arg : (argumentOf o (s.slotWord i 0) (s.slotWord i 1) s.loader.groupA.storeSize).accepted = true) :
    slotCommand i o.code q s = finishEvent (orderEffect o i (takenOrder o i q s).arg (takenIn o i q s)) := by
  unfold slotCommand
  rw [if_pos slot.configured, slotWrite_eq, judgeCommit_accepts o i q s slot.free arg]
  unfold takenIn commitBase
  by_cases done : o.acceptedOutcome = .done
  · simp only [done, if_true]
  · simp only [done, if_false]

/-- A slot that does not run leaves the running order as it is. -/
theorem runningOrder_congr {a b : State} (running : b.intake.running = a.intake.running)
    (taken : ∀ j : Fin 8, a.intake.running = some j → b.intake.taken[j] = a.intake.taken[j]) : b.runningOrder = a.runningOrder := by
  unfold State.runningOrder State.runningTaken
  rw [running]
  cases runs : a.intake.running with
  | none => rfl
  | some j => rw [Option.map_some, Option.map_some, taken j runs]

theorem TakenInSlot.runningOrder {o : OrderCode} {i : Fin 8} {q : Byte} {s t : State} (takes : TakenInSlot o i q s t)
    (other : s.intake.running ≠ some i) : t.runningOrder = s.runningOrder :=
  runningOrder_congr takes.running fun j runs => takes.taken j fun same => other (same ▸ runs)

/-! ### Quiet ends of commits -/

/-- A state that differs from a quiet one at the intake, in the reports and in the slots' shadow alone is quiet, when it hands
no order over and the running order is the same. -/
theorem quiet_of_intake {s t : State} (quiet : Quiet s) (sequencer : t.sequencer = s.sequencer) (generator : t.generator = s.generator)
    (servos : t.servos = s.servos) (loader : t.loader = s.loader) (signals : t.signals = s.signals)
    (path : ∃ w, t.path = { s.path with slots := w }) (order : t.runningOrder = s.runningOrder)
    (noHandOver : handOverDue s = none → handOverDue t = none) : Quiet t := by
  obtain ⟨w, path⟩ := path
  refine quiet_of_samePlace quiet ⟨sequencer, fun slows => by rw [generator]; exact slows, by rw [generator], by rw [servos], by rw [loader],
    order, holding_congr (by rw [path])⟩ signals ?_ noHandOver
  exact settlementDue_congr (a := s) generator (by rw [path]) (by rw [path])

/-! ### Queued orders (R149) -/

theorem orderEffect_queued {o : OrderCode} (queued : o.queued = true) (i : Fin 8) (arg : Nat) (s : State) :
    orderEffect o i arg s = setQueue (s.intake.queue ++ [i]) s := by
  unfold orderEffect
  cases o
  case halt | flush | resume | ack | ceiling | profileSelect | softReset => cases queued
  all_goals rfl

theorem acceptedOutcome_queued {o : OrderCode} (queued : o.queued = true) : o.acceptedOutcome = .queued := if_pos queued

theorem exec_queued {o : OrderCode} (queued : o.queued = true) (i : Fin 8) (q : Byte) (s : State) :
    exec (commitOf o i q) s = .next (slotCommand i o.code q s) := by
  cases o
  case halt | flush | resume | ack | ceiling | profileSelect | softReset => cases queued
  all_goals rfl

theorem handOverDue_held {s : State} (held : QueueHeld s) : handOverDue s = none := by
  unfold handOverDue
  obtain suspended | runs := held
  · rw [suspended]
    rfl
  · rw [runs, Bool.or_true]
    rfl

/-- Settles O50. -/
theorem queuedCommitWaits : Obligations.QueuedCommitWaits := by
  intro s o i q queued slot held other accepted quiet
  have takes := takenIn_takes o i q s
  have event : exec (commitOf o i q) s = .next (finishEvent (setQueue ((takenIn o i q s).intake.queue ++ [i]) (takenIn o i q s))) := by
    rw [exec_queued queued, slotCommand_takes q slot accepted, orderEffect_queued queued]
  generalize takenIn o i q s = y at *
  rw [takes.queue] at event
  let +generalize (eq := isZ) z := setQueue (s.intake.queue ++ [i]) y
  obtain ⟨tracker, sequencer, generator, servos, links, sensors, path, loader, signals, -⟩ := setQueue_keeps (s.intake.queue ++ [i]) y
  have intake : z.intake = { y.intake with queue := s.intake.queue ++ [i] } := setQueue_intake _ y
  rw [← isZ] at event tracker sequencer generator servos links sensors path loader signals
  clear_value z
  obtain ⟨w, pathY⟩ := takes.path
  have quietZ : Quiet z := by
    refine quiet_of_intake quiet (sequencer.trans takes.sequencer) (generator.trans takes.generator) (servos.trans takes.servos)
      (loader.trans takes.loader) (signals.trans takes.signals) ⟨w, path.trans pathY⟩ ?_ fun _ => handOverDue_held ?_
    · exact (runningOrder_congr (by rw [intake]) fun j _ => by rw [intake]).trans (takes.runningOrder other)
    · unfold QueueHeld
      rw [intake]
      show y.intake.suspended = true ∨ y.intake.running.isSome = true
      rw [takes.suspended, takes.running]
      exact held
  rw [finishEvent_of_quiet quietZ] at event
  obtain ⟨x, result⟩ := takes.result
  rw [acceptedOutcome_queued queued] at result
  refine ⟨_, event, ?_⟩
  simp only [arbitrate_keeps, intake]
  exact ⟨trivial, ⟨x, result⟩, takes.results, takes.running, takes.suspended, tracker.trans takes.tracker, sequencer.trans takes.sequencer,
    generator.trans takes.generator, servos.trans takes.servos, links.trans takes.links, sensors.trans takes.sensors, loader.trans takes.loader⟩

/-! ### Commits that are not taken (R145, R191) -/

/-- A commit as a command, of whatever code: the event is followed, or the commit brings nothing about. -/
theorem exec_commit {s : State} {i : Fin 8} {q : Byte} {command : Instr} (configured : s.path.configured = true)
    (commits : (∃ o, command = commitOf o i q) ∨ ∃ code, command = .unknownOrder i code q) :
    ∃ code, exec command s = .next (finishEvent (judgeCommit i (committed i code q s))) ∨
      exec command s = .next (judgeCommit i (committed i code q s)) := by
  have followed (code : Byte) : slotCommand i code q s = finishEvent (judgeCommit i (committed i code q s)) := if_pos configured
  have plain (code : Byte) : quietSlotCommand i code q s = judgeCommit i (committed i code q s) := if_pos configured
  obtain ⟨o, rfl⟩ | ⟨code, rfl⟩ := commits
  · refine ⟨o.code, ?_⟩
    rw [← followed, ← plain]
    cases o
    case flush | ack | ceiling => exact .inr rfl
    all_goals exact .inl rfl
  · exact ⟨code, .inr (congrArg Host.Outcome.next (plain code))⟩

/-- What an event stored in style ROLL leaves in the log. -/
structure EventStored (e : Event) (s t : State) : Prop where
  stored : t.reporter.log[s.reporter.writeIndex] = some
    { seq := s.reporter.nextSeq, event := e.name, slot := e.slot, index := e.index, t := s.servos.t, d0 := e.d0, d1 := e.d1, d2 := e.d2 }
  others : ∀ j : Fin 8, j ≠ s.reporter.writeIndex → t.reporter.log[j] = s.reporter.log[j]
  writeIndex : t.reporter.writeIndex = s.reporter.writeIndex + 1
  count : t.reporter.stored = min (s.reporter.stored + 1) 8
  nextSeq : t.reporter.nextSeq = s.reporter.nextSeq + 1
  dropped : t.reporter.dropped = s.reporter.dropped

/-- The record that the log takes of an event. -/
def recordOf (e : Event) (s : State) : LogRecord :=
  { seq := s.reporter.nextSeq, event := e.name, slot := e.slot, index := e.index, t := s.servos.t, d0 := e.d0, d1 := e.d1, d2 := e.d2 }

/-- The reporter with a record stored at the write index. -/
def reporterStored (g : LogRecord) (d : List RecordName) (r : Reporter) : Reporter :=
  { r with log := r.log.set r.writeIndex (some g), stored := min (r.stored + 1) 8, writeIndex := r.writeIndex + 1, dirty := d }

theorem storeEvent_reporter (g : LogRecord) (s : State) : ∃ d, (storeEvent g s).reporter = reporterStored g d s.reporter :=
  ⟨_, mark_reporter _ _⟩

theorem logEvent_rolls {s : State} (e : Event) (roll : s.loader.groupC.style = .roll) (room : s.reporter.nextSeq < Config.sequenceCap) :
    logEvent e s = storeEvent (recordOf e s) (s.onReporter fun r => { r with nextSeq := s.reporter.nextSeq + 1 }) := by
  unfold logEvent
  dsimp only
  rw [if_pos room, roll]
  rfl

theorem raise_rolls {s : State} (e : Event) (roll : s.loader.groupC.style = .roll) (room : s.reporter.nextSeq < Config.sequenceCap) :
    EventStored e s (raise e s) := by
  let +generalize (eq := isM) m := mark .logHeader s
  have reporterM : m.reporter = { s.reporter with dirty := marked .logHeader s.reporter.dirty } := mark_reporter _ _
  have loaderM : m.loader = s.loader := by simp [isM]
  have servosM : m.servos = s.servos := by simp [isM]
  have recordM : recordOf e m = recordOf e s := by
    unfold recordOf
    rw [reporterM, servosM]
  have logged := logEvent_rolls (s := m) e (by rw [loaderM]; exact roll) (by rw [reporterM]; exact room)
  obtain ⟨d, reporterL⟩ := storeEvent_reporter (recordOf e m) (m.onReporter fun r => { r with nextSeq := m.reporter.nextSeq + 1 })
  rw [← logged, onReporter_reporter, reporterM, recordM] at reporterL
  have reporter : ∃ p n d, (raise e s).reporter = { (logEvent e m).reporter with pendingClasses := p, notice := n, dirty := d } :=
    ⟨_, _, _, setPendingClasses_reporter _ _⟩
  obtain ⟨p, n, d', reporter⟩ := reporter
  rw [reporterL] at reporter
  constructor
  case stored =>
    refine (congrArg (fun r : Reporter => r.log[s.reporter.writeIndex]) reporter).trans ?_
    simp [reporterStored, recordOf]
  case others =>
    intro j other
    rw [reporter]
    exact Vector.getElem_set_ne s.reporter.writeIndex.isLt j.isLt fun same => other (Fin.ext same.symm)
  all_goals rw [reporter]; rfl

/-- The order word of a refused code. -/
theorem packPair_bytes (code q : Byte) : packPair code.toNat q.toNat = BitVec.ofNat 32 (code.toNat + 256 * q.toNat) := by
  unfold packPair wordOfNat
  rw [Nat.mod_eq_of_lt code.isLt, Nat.mod_eq_of_lt q.isLt]

/-- Settles O51. -/
theorem commitsThatAreNotTaken : Obligations.CommitsThatAreNotTaken := by
  refine ⟨?busy, ?unknown⟩
  case busy =>
    intro s i q configured busy quiet command commits
    obtain ⟨code, event⟩ := exec_commit configured commits
    let +generalize (eq := isZ) z := raise { name := .slotBusy, slot := some i, d0 := packPair code.toNat q.toNat } (committed i code q s)
    rw [judgeCommit_busy i code q s busy, ← isZ] at event
    obtain ⟨tracker, sequencer, generator, servos, links, sensors, intake, path, loader, signals, -⟩ :=
      raise_keeps { name := .slotBusy, slot := some i, d0 := packPair code.toNat q.toNat } (committed i code q s)
    have pending : z.reporter.pendingClasses = s.reporter.pendingClasses ||| 0x10#9 := (raise_pending _ _).1
    rw [← isZ] at tracker sequencer generator servos links sensors intake path loader signals
    clear_value z
    have quietZ : Quiet z := quiet_of_intake quiet sequencer generator servos loader signals ⟨_, path⟩ (order_congr intake)
      fun none => handOverDue_none_of none intake (by rw [path]; rfl)
    obtain followed | plain := event
    · rw [finishEvent_of_quiet quietZ] at followed
      refine ⟨_, followed, ?_⟩
      simp only [arbitrate_keeps]
      exact ⟨intake, pending, tracker, sequencer, generator, servos, links, sensors, loader⟩
    · exact ⟨_, plain, intake, pending, tracker, sequencer, generator, servos, links, sensors, loader⟩
  case unknown =>
    intro s i code q slot undefined_
    let +generalize (eq := isC) c := committed i code q s
    let +generalize (eq := isT) t : TakenOrder := takenFrom i 0 false c
    have code_ : t.code = code.toNat := by
      rw [isT, isC]
      unfold takenFrom
      dsimp only
      rw [committed_word3, commitCode_of]
    have seq_ : t.seq = q.toNat := by
      rw [isT, isC]
      unfold takenFrom
      dsimp only
      rw [committed_word3, commitSeq_of]
    let +generalize (eq := isY) y := recordCommit i t .refused .unknownOrder c.tapePos c
    have event : exec (.unknownOrder i code q) s =
        .next (raise { name := .orderRefused, slot := some i, d0 := packPair t.code t.seq, d1 := wordOfNat Reason.unknownOrder.code } y) := by
      have judged : quietSlotCommand i code q s = judgeCommit i c := if_pos slot.configured
      show Host.Outcome.next (quietSlotCommand i code q s) = _
      rw [judged, judgeCommit_unknown i code q s slot.free undefined_]
      rfl
    rw [code_, seq_, packPair_bytes] at event
    let +generalize (eq := isE) e : Event := { name := .orderRefused, slot := some i, d0 := BitVec.ofNat 32 (code.toNat + 256 * q.toNat), d1 := wordOfNat Reason.unknownOrder.code }
    obtain ⟨tracker, sequencer, generator, servos, links, sensors, intake, -, loader, -⟩ := raise_keeps e y
    have pending : (raise e y).reporter.pendingClasses = y.reporter.pendingClasses ||| 0x10#9 := (raise_pending _ _).1
    obtain ⟨trackerY, sequencerY, generatorY, servosY, linksY, sensorsY, -, loaderY, -⟩ := recordCommit_keeps i t .refused .unknownOrder c.tapePos c
    obtain ⟨queue, -, running, -⟩ := recordCommit_intake i t .refused .unknownOrder c.tapePos c
    have results (j : Fin 8) := recordCommit_results i j t .refused .unknownOrder c.tapePos c
    have reporterY : y.reporter = { s.reporter with dirty := marked (.result i) s.reporter.dirty } := recordCommit_reporter _ _ _ _ _ _
    rw [← isY] at trackerY sequencerY generatorY servosY linksY sensorsY loaderY queue running results
    have result := (results i).trans (if_pos rfl)
    rw [code_, seq_] at result
    have rolls := raise_rolls e (s := y)
    clear_value y
    have tape : y.servos.t = s.servos.t := congrArg Servos.t servosY
    refine ⟨_, event, ?_⟩
    rw [intake, pending, reporterY]
    refine ⟨by rw [result], by rw [result], by rw [result], by rw [result], by rw [result]; rfl,
      fun j other => (results j).trans (if_neg (Ne.symm other)), rfl, ?_, queue, running, tracker.trans trackerY, sequencer.trans sequencerY,
      generator.trans generatorY, servos.trans servosY, links.trans linksY, sensors.trans sensorsY, loader.trans loaderY⟩
    intro roll room
    obtain ⟨stored, others, writeIndex, count, nextSeq, dropped⟩ := rolls (by rw [loaderY]; exact roll) (by rw [reporterY]; exact room)
    have index : y.reporter.writeIndex = s.reporter.writeIndex := by rw [reporterY]
    have number : y.reporter.nextSeq = s.reporter.nextSeq := by rw [reporterY]
    simp only [index, number, tape] at stored
    rw [reporterY] at others writeIndex count nextSeq dropped
    exact ⟨stored, others, writeIndex, count, nextSeq, dropped⟩

end Sys2Proof.Machine
end

section
/-! Queued orders handed over at once (R149, R150), and motions that start (R27, R28, R32, R47, R51). -/

namespace Sys2Proof.Machine

/-! ### The hand-over (R150) -/

/-- What a hand-over of slot i leaves: the slot is the running one, and the deck is as it was. -/
structure HandedOver (i : Fin 8) (rest : List (Fin 8)) (s h : State) : Prop where
  running : h.intake.running = some i
  queue : h.intake.queue = rest
  suspended : h.intake.suspended = s.intake.suspended
  result : ∃ x, h.intake.results[i] = { s.intake.results[i] with outcome := .running, finalT := x }
  results : ∀ j : Fin 8, j ≠ i → h.intake.results[j] = s.intake.results[j]
  taken : h.intake.taken = s.intake.taken
  tracker : h.tracker = s.tracker
  sequencer : h.sequencer = s.sequencer
  generator : h.generator = s.generator
  servos : h.servos = s.servos
  links : h.links = s.links
  sensors : h.sensors = s.sensors
  path : h.path = s.path
  loader : h.loader = s.loader
  signals : h.signals = s.signals

theorem handOver_hands (i : Fin 8) (rest : List (Fin 8)) (s : State) : HandedOver i rest s (handOver i rest s) := by
  obtain ⟨tracker, sequencer, generator, servos, links, sensors, path, loader, signals, -⟩ := handOver_keeps i rest s
  let +generalize (eq := isY) y := setQueue rest (takeFree s).2
  have intakeY : y.intake = { s.intake with queue := rest } := setQueue_intake rest _
  let +generalize (eq := isF) f : OrderResult → OrderResult := fun r => { r with outcome := .running, finalT := (takeFree s).1 }
  have eq : handOver i rest s = setRunning (some i) (setResult i f y) := rfl
  have intake : (handOver i rest s).intake = { (setResult i f y).intake with running := some i } := by rw [eq, setRunning_intake]
  obtain ⟨queue, suspended, -, taken⟩ := setResult_intake i f y
  have results (j : Fin 8) : (handOver i rest s).intake.results[j] = if i = j then f s.intake.results[i] else s.intake.results[j] := by
    simp only [intake]
    rw [setResult_results i j f y]
    simp only [intakeY]
  constructor
  case running => rw [intake]
  case queue => rw [intake]; exact queue.trans (by rw [intakeY])
  case suspended => rw [intake]; exact suspended.trans (by rw [intakeY])
  case result => exact ⟨_, (results i).trans (if_pos rfl)⟩
  case results => exact fun j other => (results j).trans (if_neg (Ne.symm other))
  case taken => rw [intake]; exact taken.trans (by rw [intakeY])
  all_goals assumption

/-- Where nothing else is due the queue's head is handed over. -/
theorem reactOnce_handOver {s : State} {i : Fin 8} {rest : List (Fin 8)} (signals : s.signals = []) (noPosition : positionEvent s = none)
    (noSettlement : settlementDue s = none) (due : handOverDue s = some (i, rest)) :
    reactOnce s = some (takeRunning (handOver i rest s)) := by
  unfold reactOnce
  rw [signals]
  show (positionEvent s <|> settlementEvent s <|> handOverEvent s) = _
  rw [noPosition, settlementEvent, noSettlement, handOverEvent, due]
  rfl

/-- The order of slot i, as its commit took it, has been handed over at once. -/
structure OrderHanded (o : OrderCode) (i : Fin 8) (q : Byte) (s h : State) : Prop where
  runs : Runs i o h
  taken : h.intake.taken[i] = takenOrder o i q s
  tracker : h.tracker = s.tracker
  sequencer : h.sequencer = s.sequencer
  generator : h.generator = s.generator
  servos : h.servos = s.servos
  links : h.links = s.links
  sensors : h.sensors = s.sensors
  path : ∃ w, h.path = { s.path with slots := w }
  loader : h.loader = s.loader
  signals : h.signals = s.signals

theorem OrderHanded.order {o : OrderCode} {i : Fin 8} {q : Byte} {s h : State} (handed : OrderHanded o i q s h) : h.runningOrder = some o := by
  unfold State.runningOrder State.runningTaken
  rw [handed.runs.running, Option.map_some, handed.taken]
  exact orderOfCode_code o

/-- A queued order committed to an idle intake is taken in the same event. -/
theorem commit_handsOver {o : OrderCode} {i : Fin 8} {s : State} (queued : o.queued = true) (q : Byte) (slot : SlotFree i s) (idle : IntakeIdle s)
    (accepted : (argumentOf o (s.slotWord i 0) (s.slotWord i 1) s.loader.groupA.storeSize).accepted = true) (quiet : Quiet s) :
    ∃ h, OrderHanded o i q s h ∧ ∀ w, takeRunning h = w → Quiet w → exec (commitOf o i q) s = .next (arbitrate w) := by
  have takes := takenIn_takes o i q s
  have event : exec (commitOf o i q) s = .next (finishEvent (setQueue ((takenIn o i q s).intake.queue ++ [i]) (takenIn o i q s))) := by
    rw [exec_queued queued, slotCommand_takes q slot accepted, orderEffect_queued queued]
  generalize takenIn o i q s = y at *
  rw [takes.queue, idle.queue, List.nil_append] at event
  let +generalize (eq := isZ) z := setQueue [i] y
  obtain ⟨tracker, sequencer, generator, servos, links, sensors, path, loader, signals, -⟩ := setQueue_keeps [i] y
  have intake : z.intake = { y.intake with queue := [i] } := setQueue_intake _ y
  rw [← isZ] at event tracker sequencer generator servos links sensors path loader signals
  clear_value z
  obtain ⟨w, pathY⟩ := takes.path
  have pathZ : z.path = { s.path with slots := w } := path.trans pathY
  have sequencerZ := sequencer.trans takes.sequencer
  have generatorZ := generator.trans takes.generator
  have servosZ := servos.trans takes.servos
  have loaderZ := loader.trans takes.loader
  have signalsZ := signals.trans takes.signals
  obtain ⟨noSignal, nothing, noSettlement, -⟩ := quiet_iff_nothingDue.mp quiet
  have noPosition : positionEvent z = none := positionEvent_none_iff_nothingDue.mpr (nothing.of_samePlace
    ⟨sequencerZ, fun slows => by rw [generatorZ]; exact slows, by rw [generatorZ], by rw [servosZ], by rw [loaderZ],
      (runningOrder_congr (by rw [intake]) fun j _ => by rw [intake]).trans (takes.runningOrder (by rw [idle.running]; simp)),
      holding_congr (by rw [pathZ])⟩)
  have due : handOverDue z = some (i, []) := by
    unfold handOverDue
    rw [intake, pathZ]
    show (if (y.intake.suspended || y.intake.running.isSome || s.path.sweep.isSome) = true then _ else _) = _
    rw [takes.suspended, takes.running, idle.active, idle.running, idle.sweep]
    rfl
  have once := reactOnce_handOver (signalsZ.trans noSignal) noPosition
    (settlementDue_congr (a := s) generatorZ (by rw [pathZ]) (by rw [pathZ]) noSettlement) due
  have hands := handOver_hands i [] z
  generalize handOver i [] z = h at *
  obtain ⟨x, result⟩ := takes.result
  obtain ⟨x', resultH⟩ := hands.result
  simp only [intake] at resultH
  rw [result] at resultH
  refine ⟨h, ?_, fun w eq quietW => ?_⟩
  · exact {
      runs := ⟨hands.running, hands.queue, by rw [resultH], by rw [resultH]⟩
      taken := by rw [hands.taken, intake]; exact takes.order
      tracker := hands.tracker.trans (tracker.trans takes.tracker)
      sequencer := hands.sequencer.trans sequencerZ
      generator := hands.generator.trans generatorZ
      servos := hands.servos.trans servosZ
      links := hands.links.trans (links.trans takes.links)
      sensors := hands.sensors.trans (sensors.trans takes.sensors)
      path := ⟨w, hands.path.trans pathZ⟩
      loader := hands.loader.trans loaderZ
      signals := hands.signals.trans signalsZ }
  · rw [eq] at once
    rw [event, finishEvent_of_once once quietW]

/-- The running order of an intake, as the sequencer takes it. -/
theorem takeRunning_eq {o : OrderCode} {i : Fin 8} {h : State} {t : TakenOrder} (running : h.intake.running = some i)
    (taken : h.intake.taken[i] = t) (code : orderOfCode t.code = some o) :
    takeRunning h = match o with
      | .load => takeLoad (h.onSequencer fun q => { q with held := false })
      | .rewind => takeRewind (h.onSequencer fun q => { q with held := false })
      | .unload => takeUnload (h.onSequencer fun q => { q with held := false })
      | o => if o.ofSequencer then takeMotionOrder o i t.arg (h.onSequencer fun q => { q with held := false })
        else h.onSequencer fun q => { q with held := false } := by
  have of : h.runningTaken = some t := by
    unfold State.runningTaken
    rw [running, Option.map_some, taken]
  unfold takeRunning
  rw [running, of]
  simp only [code]
  cases o <;> rfl

/-! ### A motion starts (R27, R28) -/

/-- A motion has been started from `s`. -/
structure MotionStarted (d : Direction) (p : Purpose) (s u : State) : Prop where
  sequencer : u.sequencer = sequencerStarted d p s.servos.t (sequencerIn .starting none s.sequencer)
  tracker : u.tracker = s.tracker
  links : u.links = s.links
  sensors : u.sensors = s.sensors
  intake : u.intake = s.intake
  loader : u.loader = s.loader
  signals : u.signals = s.signals
  tape : u.servos.t = s.servos.t
  active : u.generator.active = s.generator.active
  settlement : settlementDue s = none → settlementDue u = none
  sweep : u.path.sweep = s.path.sweep

theorem startMotion_starts {s : State} (d : Direction) (p : Purpose) (sound : s.sequencer.transport ≠ .faulted) :
    MotionStarted d p s (startMotion d p s) := by
  let +generalize (eq := isB) b := markStatus ((setTransport .starting none s).onSequencer (sequencerStarted d p s.tapePos))
  have sequencer : b.sequencer = sequencerStarted d p s.servos.t (sequencerIn .starting none s.sequencer) := by
    rw [isB]
    unfold markStatus
    rw [(mark_keeps _ _).2.1, onSequencer_sequencer, setTransport_sequencer]
    rfl
  obtain ⟨tracker, generator, links, intake, path, loader, signals, -⟩ := setTransport_keeps .starting none s
  have sensors : (setTransport .starting none s).sensors = s.sensors := setTransport_sensors (by decide) sound
  have tape : (setTransport .starting none s).servos.t = s.servos.t := setTransport_tape _ _ _
  have keeps : b.tracker = s.tracker ∧ b.generator = s.generator ∧ b.links = s.links ∧ b.intake = s.intake ∧ b.path = s.path ∧
      b.loader = s.loader ∧ b.signals = s.signals ∧ b.sensors = s.sensors ∧ b.servos.t = s.servos.t :=
    ⟨tracker, generator, links, intake, path, loader, signals, sensors, tape⟩
  have asked : StartAsked b (startMotion d p s) := startRequest_asked p.startChain d b
  clear_value b
  obtain ⟨tracker, generator, links, intake, path, loader, signals, sensors, tape⟩ := keeps
  exact {
    sequencer := asked.sequencer.trans sequencer
    tracker := asked.tracker.trans tracker
    links := asked.links.trans links
    sensors := asked.sensors.trans sensors
    intake := asked.intake.trans intake
    loader := asked.loader.trans loader
    signals := asked.signals.trans signals
    tape := asked.tape.trans tape
    active := asked.active.trans (by rw [generator])
    settlement := fun none => asked.settlement (settlementDue_congr (a := s) generator (by rw [path]) (by rw [path]) none)
    sweep := asked.sweep.trans (by rw [path]) }

/-- What a motion's start may bring about at once: nothing, where its targets lie ahead. -/
theorem nothingDue_starting {s : State} (starting : s.sequencer.transport = .starting) (noDecision : s.sequencer.decisions = [])
    (closed : s.sequencer.recovery = none) (noApproach : s.sequencer.approach = none) (phase : s.sequencer.phase = none)
    (noShow : ∀ r, s.sequencer.recordPoint = some r → s.servos.t ≤ r + s.loader.groupB.xExt)
    (erase : ∀ e, s.sequencer.eraseEnd = some e → s.servos.t < e - s.distance .stop)
    (blank : ∀ b, s.sequencer.blankRef = some b → b = s.servos.t)
    (bot : s.sequencer.dir = some .backward → 0 < s.servos.t)
    (eot : s.runningOrder = some .readFwd ∨ s.runningOrder = some .spaceFwd → s.beyondEot = false) : NothingDue s := by
  have noStep : s.rewindStep = none := by simp [State.rewindStep, starting]
  exact {
    held := fun r _ _ => by simp [releaseCondition, starting]
    decision := fun i d rest listed => by rw [noDecision] at listed; cases listed
    noShow := fun r point _ _ => noShow r point
    erase := fun e target _ _ => erase e target
    backup := fun r open_ => by rw [closed] at open_; cases open_
    approach := fun x point => by rw [noApproach] at point; cases point
    blank := fun b mark _ _ => by
      rw [blank b mark, Int.sub_self]
      exact Nat.zero_le _
    bot := fun _ => bot
    eot := fun order _ _ _ _ _ => eot order
    near := fun step => by simp [noStep] at step
    limit := fun step => by simp [noStep] at step
    leader := fun l _ leader => by rw [phase] at leader; cases leader }

/-! ### STOPPED without an order (R34, R35) -/

/-- The parts of the sequencer that are free of an order. -/
structure OrderFree (q : Sequencer) : Prop where
  decisions : q.decisions = []
  recordPoint : q.recordPoint = none
  recovery : q.recovery = none
  approach : q.approach = none
  eraseEnd : q.eraseEnd = none
  blankRef : q.blankRef = none
  fixed : q.fixed = none
  held : q.held = false

theorem NoOrderState.orderFree {s : State} (clear : NoOrderState s) : OrderFree s.sequencer := by
  unfold NoOrderState at clear
  rw [← clear]
  exact ⟨rfl, rfl, rfl, rfl, rfl, rfl, rfl, rfl⟩

/-- The sequencer as an order of its chapter begins. -/
def sequencerBegun (q : Sequencer) : Sequencer := { q with noShow := 0, fixed := none, held := false }

/-- An order of the sequencer's chapter begins in STOPPED, its checks passed. -/
theorem takeRunning_begins {o : OrderCode} {i : Fin 8} {q : Byte} {s h : State} (handed : OrderHanded o i q s h) (motion : o.ofSequencer = true)
    (stopped : s.sequencer.transport = .stopped) (passes : startCheck o (h.onSequencer fun q => { q with held := false }) = none) :
    takeRunning h = beginOrder o i (takenOrder o i q s).arg (h.onSequencer fun q => { q with held := false }) := by
  have taken : takeRunning h = takeMotionOrder o i (takenOrder o i q s).arg (h.onSequencer fun q => { q with held := false }) := by
    rw [takeRunning_eq handed.runs.running handed.taken (orderOfCode_code o)]
    cases o
    case load | rewind | unload | halt | flush | resume | ack | ceiling | profileSelect | softReset => cases motion
    all_goals rfl
  rw [taken]
  unfold takeMotionOrder
  rw [show (h.onSequencer fun q => { q with held := false }).sequencer.transport = .stopped from
    (congrArg Sequencer.transport handed.sequencer).trans stopped]
  dsimp only
  rw [passes]

end Sys2Proof.Machine
end

section
/-! WRITE, ERASE, READ and SPACE orders begin in STOPPED (R16, R17, R32, R34, R36, R43, R44, R48). -/

namespace Sys2Proof.Machine

/-! ### The start checks (R34) -/

theorem startCheck_passes {o : OrderCode} {s : State} (stopped : s.sequencer.transport = .stopped) (trusted : s.sequencer.trusted = true)
    (ring : o = .write ∨ o = .erase → s.sensors.ring.debounced = true) (short : s.beyondEot = false)
    (bot : o = .readBwd ∨ o = .spaceBwd → 0 < s.servos.t) : startCheck o s = none := by
  have protected_ : ((decide (o = .write) || decide (o = .erase)) && !s.sensors.ring.debounced) = false := by
    by_cases writes : o = .write ∨ o = .erase
    · rw [ring writes]
      exact Bool.and_false _
    · simp only [not_or] at writes
      simp [writes]
  have atLoadPoint : ((decide (o = .readBwd) || decide (o = .spaceBwd)) && decide (s.tapePos ≤ 0)) = false := by
    by_cases backs : o = .readBwd ∨ o = .spaceBwd
    · have ahead := bot backs
      rw [show decide (s.tapePos ≤ 0) = false from decide_eq_false (by unfold State.tapePos; omega)]
      exact Bool.and_false _
    · simp only [not_or] at backs
      simp [backs]
  unfold startCheck
  dsimp only
  rw [if_neg (by rw [stopped]; decide), if_neg (by rw [stopped, trusted]; decide), if_neg (by rw [protected_]; decide),
    if_neg (by rw [short, Bool.and_false]; decide), if_neg (by rw [atLoadPoint]; decide)]

/-- An order that has been handed over in STOPPED, before its checks: the sequencer is free of an order. -/
theorem handed_held {o : OrderCode} {i : Fin 8} {q : Byte} {s h : State} (handed : OrderHanded o i q s h) :
    (h.onSequencer fun q => { q with held := false }).sequencer = { s.sequencer with held := false } := by
  rw [onSequencer_sequencer, handed.sequencer]

theorem beyondEot_congr {a b : State} (eot : b.sequencer.eot = a.sequencer.eot) (tape : b.servos.t = a.servos.t)
    (groupB : b.loader.groupB = a.loader.groupB) : b.beyondEot = a.beyondEot := by
  unfold State.beyondEot State.tapePos State.groupB
  rw [eot, tape, groupB]

/-! ### Starts from STOPPED -/

/-- What the events of an order's start keep of the deck. -/
structure StartKept (s u : State) : Prop where
  tape : u.servos.t = s.servos.t
  links : u.links = s.links
  sensors : u.sensors = s.sensors
  loader : u.loader = s.loader
  signals : u.signals = s.signals
  active : u.generator.active = s.generator.active
  settlement : settlementDue s = none → settlementDue u = none

theorem OrderHanded.startKept {o : OrderCode} {i : Fin 8} {q : Byte} {s h : State} (handed : OrderHanded o i q s h) : StartKept s h := by
  obtain ⟨w, path⟩ := handed.path
  exact ⟨by rw [handed.servos], handed.links, handed.sensors, handed.loader, handed.signals, by rw [handed.generator],
    settlementDue_congr (a := s) handed.generator (by rw [path]) (by rw [path])⟩

theorem StartKept.trans {s t u : State} (first : StartKept s t) (second : StartKept t u) : StartKept s u :=
  ⟨second.tape.trans first.tape, second.links.trans first.links, second.sensors.trans first.sensors, second.loader.trans first.loader,
    second.signals.trans first.signals, second.active.trans first.active, second.settlement ∘ first.settlement⟩

theorem MotionStarted.startKept {d : Direction} {p : Purpose} {s u : State} (started : MotionStarted d p s u) : StartKept s u :=
  ⟨started.tape, started.links, started.sensors, started.loader, started.signals, started.active, started.settlement⟩

/-- A started motion of an order brings nothing more about. -/
theorem quiet_started {i : Fin 8} {s u : State} (quiet : Quiet s) (kept : StartKept s u) (running : u.intake.running = some i)
    (nothing : NothingDue u) : Quiet u := by
  obtain ⟨noSignal, -, noSettlement, -⟩ := quiet_iff_nothingDue.mp quiet
  exact quiet_iff_nothingDue.mpr ⟨kept.signals.trans noSignal, nothing, kept.settlement noSettlement,
    handOverDue_of_running (by rw [running]; rfl)⟩

theorem forwardStart_near {x : Int} {p : Purpose} {s : State} (room : s.servos.t ≤ x - approachRun s) :
    forwardStart x p s = startMotion .forward p s := if_pos room

/-! ### WRITE (R16, R36) -/

/-- The arm of a fresh WRITE: the record at the cursor is ARMED, R is set, and the sequencer waits for nothing. -/
structure WriteArmed (c : OrderContext) (b z : State) : Prop where
  sequencer : z.sequencer =
    { b.sequencer with fillWait := false, fillHeld := false, recordPoint := some (b.sequencer.anchor + (b.gapAfterAnchor : Nat)) }
  block : z.record b.tracker.recordCursor = { b.record b.tracker.recordCursor with state := .armed, slot := some c.slot }
  others : ∀ j : Fin 16, j ≠ b.tracker.recordCursor → z.record j = b.record j
  context : ∃ p d, z.tracker.context = some { c with span := 1, placed := p, done := d }
  cursors : z.tracker.recordCursor = b.tracker.recordCursor ∧ z.tracker.receiveCursor = b.tracker.receiveCursor
  generator : z.generator = b.generator
  servos : z.servos = b.servos
  links : z.links = b.links
  sensors : z.sensors = b.sensors
  intake : z.intake = b.intake
  loader : z.loader = b.loader
  signals : z.signals = b.signals
  path : z.path = b.path

theorem ringAdd_zero (k : Fin 16) : ringAdd k 0 = k := by
  revert k
  decide

/-- The arm request of a fresh WRITE with the block at its cursor FILLED. -/
theorem armFlow_arms {b : State} {c : OrderContext} (context : b.tracker.context = some c) (fresh : c.span = 0 ∧ c.placed = 0)
    (first : c.first = b.tracker.recordCursor) (wanted : 0 < c.n) (filled : (b.record b.tracker.recordCursor).state = .filled)
    (free : b.sequencer.fixed = none) (short : b.beyondEot = false) :
    ∃ z, armFlow b = startToRecord z ∧ WriteArmed c b z := by
  let +generalize (eq := isB') b' := b.onTracker fun k => { k with outOfTurn := false, context := some { c with span := 1 } }
  let +generalize (eq := isR) r : BlockRecord := { b.record b.tracker.recordCursor with state := .armed, slot := some c.slot }
  let +generalize (eq := isY) y := setRecord b.tracker.recordCursor r b'
  have arms : armRequest b = some y := by
    unfold armRequest
    dsimp only
    rw [context]
    dsimp only
    have grows : (decide (c.span < 16) && decide (b.tracker.recordCursor = ringAdd c.first c.span)) = true := by
      rw [fresh.1, first, ringAdd_zero]
      simp
    rw [if_pos ⟨filled, by rw [fresh.2]; exact wanted⟩, grows, if_pos rfl, fresh.1]
  obtain ⟨sequencer, generator, servos, links, sensors, intake, path, loader, signals, -⟩ := setRecord_keeps b.tracker.recordCursor r b'
  obtain ⟨recordCursor, receiveCursor, -⟩ := setRecord_cursors b.tracker.recordCursor r b'
  have contextY : ∃ p d, y.tracker.context = some { c with span := 1, placed := p, done := d } :=
    setRecord_some_context (i := b.tracker.recordCursor) (r := r) (s := b') (c := { c with span := 1 }) rfl
  refine ⟨setRecordPoint (endFillWait y), ?_, ?_⟩
  · unfold armFlow
    rw [if_neg (by rw [free]; decide), if_neg (by rw [short]; decide), arms]
  · have sequencerY : y.sequencer = b.sequencer := sequencer
    have gap : (endFillWait y).gapAfterAnchor = b.gapAfterAnchor := by
      have same : y.loader = b.loader := loader
      unfold State.gapAfterAnchor State.groupB endFillWait
      rw [onSequencer_sequencer, sequencerY, onSequencer_loader, same]
    exact {
      sequencer := by
        unfold setRecordPoint
        rw [gap, onSequencer_sequencer]
        unfold endFillWait
        rw [onSequencer_sequencer, sequencerY]
      block := setRecord_self _ _ _
      others := fun j other => setRecord_other r b' other
      context := contextY
      cursors := ⟨recordCursor, receiveCursor⟩
      generator := generator, servos := servos, links := links, sensors := sensors, intake := intake, loader := loader, signals := signals
      path := path }

theorem startToRecord_near {z : State} {r : Int} (point : z.sequencer.recordPoint = some r) (stopped : z.sequencer.transport = .stopped)
    (room : z.servos.t ≤ r - approachRun z) : startToRecord z = startMotion .forward .write z := by
  unfold startToRecord
  rw [point]
  dsimp only
  rw [if_pos stopped, forwardStart_near room]

/-- A WRITE with room to start begins. -/
theorem write_begins {i : Fin 8} {q : Byte} {s h : State} (handed : OrderHanded .write i q s h) (ready : ReadyToMove s)
    (ring : s.sensors.ring.debounced = true) (short : s.beyondEot = false) (asks : 1 ≤ (s.slotWord i 0).toNat)
    (filled : (s.record s.tracker.recordCursor).state = .filled)
    (room : s.servos.t ≤ s.sequencer.anchor + s.gapAfterAnchor - (s.distance .start + s.loader.groupB.margin)) :
    ∃ c b z, takeRunning h = startMotion .forward .write z ∧ WriteArmed c b z ∧ StartKept s z ∧
      (c.slot = i ∧ c.write = true ∧ c.n = min (s.slotWord i 0).toNat 16) ∧ b.sequencer = sequencerBegun s.sequencer ∧
      (∀ j : Fin 16, b.record j = s.record j) ∧ b.tracker.recordCursor = s.tracker.recordCursor ∧
      b.tracker.receiveCursor = s.tracker.receiveCursor ∧ b.gapAfterAnchor = s.gapAfterAnchor ∧ z.intake = h.intake := by
  let +generalize (eq := isX) x := h.onSequencer fun q => { q with held := false }
  have sequencerX : x.sequencer = { s.sequencer with held := false } := handed_held handed
  have shortX : x.beyondEot = false := (beyondEot_congr (a := s) (by rw [sequencerX]) (by rw [← handed.servos]; rfl) (by rw [← handed.loader]; rfl)).trans short
  have begins := takeRunning_begins handed rfl ready.stopped (startCheck_passes (by rw [← isX, sequencerX]; exact ready.stopped)
    (by rw [← isX, sequencerX]; exact ready.trusted) (fun _ => (congrArg (fun n : Sensors => n.ring.debounced) handed.sensors).trans ring) shortX
    (by rintro (w | w) <;> cases w))
  let +generalize (eq := isN) n := (takenOrder .write i q s).arg
  have count : n = min (s.slotWord i 0).toNat 16 := rfl
  let +generalize (eq := isB) b := openContext i true n (x.onSequencer fun q => { q with noShow := 0, fixed := none, held := false })
  have opens : takeRunning h = armFlow b := begins.trans rfl
  let +generalize (eq := isC) c : OrderContext := { slot := i, write := true, n := n, first := h.tracker.recordCursor, span := 0, placed := 0, done := 0, received := 0 }
  have contextB : b.tracker.context = some c := rfl
  have sequencerB : b.sequencer = sequencerBegun s.sequencer :=
    congrArg (fun q : Sequencer => { q with noShow := 0, fixed := none, held := false }) sequencerX
  have recordB (j : Fin 16) : b.record j = s.record j := record_congr (a := h) handed.tracker j
  have cursorB : b.tracker.recordCursor = s.tracker.recordCursor := by
    show h.tracker.recordCursor = _
    rw [handed.tracker]
  have receiveB : b.tracker.receiveCursor = s.tracker.receiveCursor := by
    show h.tracker.receiveCursor = _
    rw [handed.tracker]
  have servosB : b.servos = s.servos := handed.servos
  have loaderB : b.loader = s.loader := handed.loader
  have shortB : b.beyondEot = false := (beyondEot_congr (a := s) (by rw [sequencerB]; rfl) (by rw [servosB]) (by rw [loaderB])).trans short
  have gap : b.gapAfterAnchor = s.gapAfterAnchor := by
    unfold State.gapAfterAnchor State.groupB
    rw [sequencerB, loaderB]
    rfl
  obtain ⟨z, arms, armed⟩ := armFlow_arms contextB ⟨rfl, rfl⟩ rfl (by show 0 < n; rw [count]; omega)
    (by rw [recordB, cursorB]; exact filled) (by rw [sequencerB]; rfl) shortB
  have keptB : StartKept s b := by
    obtain ⟨tape, links, sensors, loader, signals, active, settlement⟩ := handed.startKept
    exact ⟨tape, links, sensors, loader, signals, active, fun none => settlementDue_congr (a := h) rfl rfl rfl (settlement none)⟩
  have intakeB : b.intake = h.intake := rfl
  rw [opens]
  clear_value b c
  have keptZ : StartKept b z := ⟨by rw [armed.servos], armed.links, armed.sensors, armed.loader, armed.signals, by rw [armed.generator],
    settlementDue_congr (a := b) armed.generator (by rw [armed.path]) (by rw [armed.path])⟩
  have run : approachRun z = s.distance .start + s.loader.groupB.margin := by
    unfold approachRun State.distance State.groupB
    rw [(keptB.trans keptZ).active, (keptB.trans keptZ).loader]
  refine ⟨c, b, z, ?_, armed, keptB.trans keptZ, ?_, sequencerB, recordB, cursorB, receiveB, gap, armed.intake.trans intakeB⟩
  · rw [arms]
    refine startToRecord_near (by rw [armed.sequencer]) (by rw [armed.sequencer, sequencerB]; exact ready.stopped) ?_
    rw [run, (keptB.trans keptZ).tape, sequencerB, gap]
    exact room
  · rw [isC]
    exact ⟨rfl, rfl, count⟩

/-- The quiet end of a WRITE's start. -/
theorem quiet_writeStarted {i : Fin 8} {s u : State} (ready : ReadyToMove s) (kept : StartKept s u) (running : u.intake.running = some i)
    (order : u.runningOrder = some .write) {x : Int} (sequencer : u.sequencer = sequencerStarted .forward .write x (sequencerIn .starting none
      { sequencerBegun s.sequencer with fillWait := false, fillHeld := false, recordPoint := some (s.sequencer.anchor + (s.gapAfterAnchor : Nat)) }))
    (room : s.servos.t ≤ s.sequencer.anchor + s.gapAfterAnchor - (s.distance .start + s.loader.groupB.margin)) : Quiet u := by
  have free := NoOrderState.orderFree ready.clear
  have distance : (0 : Int) ≤ s.distance .start := by
    unfold State.distance
    omega
  refine quiet_started ready.quiet kept running (nothingDue_starting ?_ ?_ ?_ ?_ ?_ ?_ ?_ ?_ ?_ ?_)
  case refine_6 =>
    intro r point
    rw [sequencer] at point
    obtain rfl := Option.some.inj point
    rw [kept.tape]
    omega
  case refine_10 => rw [order]; simp
  all_goals rw [sequencer]
  · rfl
  · exact free.decisions
  · exact free.recovery
  · exact free.approach
  · rfl
  · exact fun e target => absurd (free.eraseEnd.symm.trans target) (by simp)
  · exact fun b mark => absurd (free.blankRef.symm.trans mark) (by simp)
  · exact fun backward => Direction.noConfusion (Option.some.inj backward)

/-! ### ERASE (R43) -/

/-- The sequencer as an ERASE of n steps begins. -/
def sequencerErasing (n : Nat) (q : Sequencer) : Sequencer := { sequencerBegun q with eraseEnd := some (q.anchor + (n : Nat)) }

/-- An ERASE with room to start begins. -/
theorem erase_begins {i : Fin 8} {q : Byte} {s h : State} (handed : OrderHanded .erase i q s h) (ready : ReadyToMove s)
    (ring : s.sensors.ring.debounced = true) (short : s.beyondEot = false)
    (room : s.servos.t ≤ s.sequencer.anchor - (s.distance .start + s.loader.groupB.margin)) :
    ∃ z, takeRunning h = startMotion .forward .erase z ∧
      z.sequencer = sequencerErasing (min (s.slotWord i 0).toNat 65535) s.sequencer ∧ StartKept s z ∧ z.tracker = s.tracker ∧
      z.intake = h.intake := by
  let +generalize (eq := isX) x := h.onSequencer fun q => { q with held := false }
  have sequencerX : x.sequencer = { s.sequencer with held := false } := handed_held handed
  have shortX : x.beyondEot = false := (beyondEot_congr (a := s) (by rw [sequencerX]) (by rw [← handed.servos]; rfl) (by rw [← handed.loader]; rfl)).trans short
  have begins := takeRunning_begins handed rfl ready.stopped (startCheck_passes (by rw [← isX, sequencerX]; exact ready.stopped)
    (by rw [← isX, sequencerX]; exact ready.trusted) (fun _ => (congrArg (fun n : Sensors => n.ring.debounced) handed.sensors).trans ring) shortX
    (by rintro (w | w) <;> cases w))
  let +generalize (eq := isN) n := (takenOrder .erase i q s).arg
  have count : n = min (s.slotWord i 0).toNat 65535 := rfl
  let +generalize (eq := isZ) z := (x.onSequencer fun q => { q with noShow := 0, fixed := none, held := false }).onSequencer
    fun q => { q with eraseEnd := some (q.anchor + (n : Nat)) }
  have sequencerZ : z.sequencer = sequencerErasing n s.sequencer :=
    congrArg (fun q : Sequencer => { { q with noShow := 0, fixed := none, held := false } with eraseEnd := some (q.anchor + (n : Nat)) }) sequencerX
  have starts : takeRunning h = forwardStart x.sequencer.anchor .erase z := begins.trans rfl
  have keptZ : StartKept s z := by
    obtain ⟨tape, links, sensors, loader, signals, active, settlement⟩ := handed.startKept
    exact ⟨tape, links, sensors, loader, signals, active, fun none => settlementDue_congr (a := h) rfl rfl rfl (settlement none)⟩
  have trackerZ : z.tracker = s.tracker := handed.tracker
  have intakeZ : z.intake = h.intake := rfl
  have run : approachRun z = s.distance .start + s.loader.groupB.margin := by
    unfold approachRun State.distance State.groupB
    rw [keptZ.active, keptZ.loader]
  refine ⟨z, ?_, by rw [sequencerZ, count], keptZ, trackerZ, intakeZ⟩
  rw [starts]
  refine forwardStart_near ?_
  rw [run, keptZ.tape, sequencerX]
  exact room

theorem quiet_eraseStarted {i : Fin 8} {s u : State} {n : Nat} (ready : ReadyToMove s) (kept : StartKept s u) (running : u.intake.running = some i)
    (order : u.runningOrder = some .erase) {x : Int}
    (sequencer : u.sequencer = sequencerStarted .forward .erase x (sequencerIn .starting none (sequencerErasing n s.sequencer)))
    (room : s.servos.t < s.sequencer.anchor + (n : Nat) - s.distance .stop) : Quiet u := by
  have free := NoOrderState.orderFree ready.clear
  refine quiet_started ready.quiet kept running (nothingDue_starting ?_ ?_ ?_ ?_ ?_ ?_ ?_ ?_ ?_ ?_)
  case refine_7 =>
    intro e target
    rw [sequencer] at target
    obtain rfl := Option.some.inj target
    unfold State.distance at room ⊢
    rw [kept.tape, kept.active]
    exact room
  case refine_10 => rw [order]; simp
  all_goals rw [sequencer]
  · rfl
  · exact free.decisions
  · exact free.recovery
  · exact free.approach
  · rfl
  · exact fun r point => absurd (free.recordPoint.symm.trans point) (by simp)
  · exact fun b mark => absurd (free.blankRef.symm.trans mark) (by simp)
  · exact fun backward => Direction.noConfusion (Option.some.inj backward)

/-- The running order is that of the slot through a start. -/
theorem OrderHanded.started {o : OrderCode} {i : Fin 8} {q : Byte} {s h u : State} (handed : OrderHanded o i q s h) (intake : u.intake = h.intake) :
    u.intake.running = some i ∧ u.runningOrder = some o ∧ Runs i o (arbitrate u) := by
  refine ⟨by rw [intake]; exact handed.runs.running, (order_congr intake).trans handed.order, ?_⟩
  constructor <;> simp only [arbitrate_keeps, intake]
  · exact handed.runs.running
  · exact handed.runs.queue
  · exact handed.runs.code
  · exact handed.runs.outcome

/-- Settles O53. -/
theorem writeAndEraseBegin : Obligations.WriteAndEraseBegin := by
  refine ⟨?write, ?erase⟩
  case write =>
    intro s i q slot ready ring short asks filled room
    obtain ⟨h, handed, event⟩ := commit_handsOver (o := .write) rfl q slot ready.idle (decide_eq_true asks) ready.quiet
    obtain ⟨c, b, z, begins, armed, keptZ, ⟨slotC, writes, count⟩, sequencerB, recordB, cursorB, receiveB, gap, intakeZ⟩ :=
      write_begins handed ready ring short asks filled room
    have sequencerZ := armed.sequencer
    rw [sequencerB, gap] at sequencerZ
    have started := startMotion_starts (s := z) .forward .write (by rw [sequencerZ]; exact fun f => Transport.noConfusion (ready.stopped.symm.trans f))
    have kept := keptZ.trans started.startKept
    have sequencerU := started.sequencer
    rw [sequencerZ] at sequencerU
    obtain ⟨running, order, runs⟩ := handed.started (started.intake.trans intakeZ)
    have acts := event _ begins (quiet_writeStarted ready kept running order sequencerU room)
    have trackerU := started.tracker
    generalize startMotion .forward .write z = u at *
    have record (j : Fin 16) : (arbitrate u).record j = z.record j := record_congr ((arbitrate_keeps u).1.trans trackerU) j
    have block := armed.block
    rw [cursorB, recordB, slotC] at block
    obtain ⟨p, d, context⟩ := armed.context
    refine ⟨_, acts, runs, ?_⟩
    simp only [arbitrate_keeps, record]
    rw [block, trackerU, sequencerU]
    refine ⟨rfl, rfl, rfl, rfl, rfl, rfl, rfl, ⟨_, context, writes, count, rfl⟩, fun j other => ?_, armed.cursors.1.trans cursorB,
      armed.cursors.2.trans receiveB, kept.tape, kept.links, kept.sensors, kept.loader⟩
    rw [armed.others j (by rw [cursorB]; exact other), recordB]
  case erase =>
    intro s i q slot ready ring short asks near room
    obtain ⟨h, handed, event⟩ := commit_handsOver (o := .erase) rfl q slot ready.idle (decide_eq_true asks) ready.quiet
    obtain ⟨z, begins, sequencerZ, keptZ, trackerZ, intakeZ⟩ := erase_begins handed ready ring short near
    have started := startMotion_starts (s := z) .forward .erase (by rw [sequencerZ]; exact fun f => Transport.noConfusion (ready.stopped.symm.trans f))
    have kept := keptZ.trans started.startKept
    have sequencerU := started.sequencer
    rw [sequencerZ] at sequencerU
    obtain ⟨running, order, runs⟩ := handed.started (started.intake.trans intakeZ)
    have acts := event _ begins (quiet_eraseStarted ready kept running order sequencerU room)
    have trackerU := started.tracker
    generalize startMotion .forward .erase z = u at *
    refine ⟨_, acts, runs, ?_⟩
    simp only [arbitrate_keeps]
    rw [sequencerU]
    exact ⟨rfl, rfl, rfl, rfl, rfl, trackerU.trans trackerZ, kept.tape, kept.links, kept.sensors, kept.loader⟩

end Sys2Proof.Machine
end

section
/-! READ and SPACE orders begin in STOPPED (R10, R34, R44, R47, R48). -/

namespace Sys2Proof.Machine

/-! ### The reading and spacing orders -/

/-- What the reading and spacing orders have in common. -/
structure Receiving (o : OrderCode) : Prop where
  queued : o.queued = true
  motion : o.ofSequencer = true
  purpose : o.purpose = if o.isRead then .read else .space
  blanks : o.purpose.blanks = true
  plain : ¬(o = .write ∨ o = .erase)
  backward : o = .readBwd ∨ o = .spaceBwd → o.dir = .backward
  begins : ∀ (i : Fin 8) (n : Nat) (s : State), beginOrder o i n s =
    expectAndStart o (openContext i false n (s.onSequencer fun q => { q with noShow := 0, fixed := none, held := false }))
  accepts : ∀ (a b : Word) (m : Nat), 1 ≤ a.toNat → (argumentOf o a b m).accepted = true

theorem receiving_of_mem {o : OrderCode} (receives : o ∈ [OrderCode.readFwd, .readBwd, .spaceFwd, .spaceBwd]) : Receiving o := by
  simp only [List.mem_cons, List.not_mem_nil, or_false] at receives
  obtain rfl | rfl | rfl | rfl := receives
  all_goals refine ⟨rfl, rfl, rfl, rfl, by decide, by decide, fun i n s => rfl, fun a b m asks => ?_⟩
  · exact decide_eq_true asks
  · exact decide_eq_true asks
  · exact decide_eq_true (Nat.zero_le a.toNat)
  · exact decide_eq_true (Nat.zero_le a.toNat)

theorem startReading_near {o : OrderCode} {s : State} (short : s.beyondEot = false) : startReading o s = startMotion o.dir o.purpose s :=
  if_neg (by rw [short, Bool.and_false]; decide)

/-! ### The expect request (R17, R44) -/

/-- The expected record at the receive cursor. -/
structure CursorExpected (b z : State) : Prop where
  sequencer : z.sequencer = { b.sequencer with freeWait := false }
  block : (z.record b.tracker.receiveCursor).state = .expecting
  others : ∀ j : Fin 16, j ≠ b.tracker.receiveCursor → z.record j = b.record j
  cursors : z.tracker.recordCursor = b.tracker.recordCursor ∧ z.tracker.receiveCursor = b.tracker.receiveCursor
  intake : z.intake = b.intake
  kept : StartKept b z

theorem expectAndStart_free {o : OrderCode} {b : State} (free : (b.record b.tracker.receiveCursor).state = .free) :
    ∃ z, expectAndStart o b = startReading o z ∧ CursorExpected b z := by
  let +generalize (eq := isR) r : BlockRecord := { b.record b.tracker.receiveCursor with state := .expecting, slot := b.intake.running }
  let +generalize (eq := isY) y := setRecord b.tracker.receiveCursor r b
  have expects : expectRequest b = some y := if_pos free
  obtain ⟨sequencer, generator, servos, links, sensors, intake, path, loader, signals, -⟩ := setRecord_keeps b.tracker.receiveCursor r b
  obtain ⟨recordCursor, receiveCursor, -⟩ := setRecord_cursors b.tracker.receiveCursor r b
  refine ⟨y.onSequencer fun q => { q with freeWait := false }, ?_, ?_⟩
  · unfold expectAndStart
    rw [if_neg (by rw [free]; decide), expects]
  · exact {
      sequencer := congrArg (fun q : Sequencer => { q with freeWait := false }) sequencer
      block := congrArg BlockRecord.state (setRecord_self _ r b)
      others := fun j other => setRecord_other r b other
      cursors := ⟨recordCursor, receiveCursor⟩
      intake := intake
      kept := ⟨congrArg Servos.t servos, links, sensors, loader, signals, congrArg Generator.active generator,
        settlementDue_congr (a := b) generator (by rw [onSequencer_path, path]) (by rw [onSequencer_path, path])⟩ }

/-- A reading or spacing order begins. -/
theorem reading_begins {o : OrderCode} {i : Fin 8} {q : Byte} {s h : State} (receiving : Receiving o) (handed : OrderHanded o i q s h)
    (ready : ReadyToMove s) (short : s.beyondEot = false) (bot : o.dir = .backward → 0 < s.servos.t)
    (free : (s.record s.tracker.receiveCursor).state = .free) :
    ∃ z, takeRunning h = startMotion o.dir o.purpose z ∧ z.sequencer = { sequencerBegun s.sequencer with freeWait := false } ∧
      (z.record s.tracker.receiveCursor).state = .expecting ∧ (∀ j : Fin 16, j ≠ s.tracker.receiveCursor → z.record j = s.record j) ∧
      z.tracker.recordCursor = s.tracker.recordCursor ∧ z.tracker.receiveCursor = s.tracker.receiveCursor ∧ z.intake = h.intake ∧
      StartKept s z := by
  have keptH := handed.startKept
  have trackerH := handed.tracker
  let +generalize (eq := isX) x := h.onSequencer fun q => { q with held := false }
  have sequencerX : x.sequencer = { s.sequencer with held := false } := handed_held handed
  have shortX : x.beyondEot = false := (beyondEot_congr (a := s) (b := x) (by rw [sequencerX]) keptH.tape (congrArg Loader.groupB keptH.loader)).trans short
  have begins := takeRunning_begins handed receiving.motion ready.stopped (startCheck_passes (by rw [← isX, sequencerX]; exact ready.stopped)
    (by rw [← isX, sequencerX]; exact ready.trusted) (fun writes => absurd writes receiving.plain) shortX
    fun backs => keptH.tape.symm ▸ bot (receiving.backward backs))
  rw [← isX, receiving.begins] at begins
  let +generalize (eq := isB) b := openContext i false (takenOrder o i q s).arg (x.onSequencer fun q => { q with noShow := 0, fixed := none, held := false })
  have sequencerB : b.sequencer = sequencerBegun s.sequencer :=
    congrArg (fun q : Sequencer => { q with noShow := 0, fixed := none, held := false }) sequencerX
  have keptB : StartKept s b := by
    obtain ⟨tape, links, sensors, loader, signals, active, settlement⟩ := keptH
    exact ⟨tape, links, sensors, loader, signals, active, fun none => settlementDue_congr (a := h) rfl rfl rfl (settlement none)⟩
  have recordB (j : Fin 16) : b.record j = s.record j := record_congr (a := h) trackerH j
  have cursorB : b.tracker.recordCursor = s.tracker.recordCursor := Eq.trans (b := h.tracker.recordCursor) rfl (by rw [trackerH])
  have receiveB : b.tracker.receiveCursor = s.tracker.receiveCursor := Eq.trans (b := h.tracker.receiveCursor) rfl (by rw [trackerH])
  have intakeB : b.intake = h.intake := rfl
  rw [← isB] at begins
  clear_value b
  obtain ⟨z, expects, expected⟩ := expectAndStart_free (o := o) (b := b) (by rw [receiveB, recordB]; exact free)
  have keptZ := keptB.trans expected.kept
  have shortZ : z.beyondEot = false := (beyondEot_congr (a := s) (by rw [expected.sequencer, sequencerB]; rfl) keptZ.tape
    (congrArg Loader.groupB keptZ.loader)).trans short
  refine ⟨z, ?_, ?_, ?_, fun j other => ?_, expected.cursors.1.trans cursorB, expected.cursors.2.trans receiveB,
    expected.intake.trans intakeB, keptZ⟩
  · rw [begins, expects, startReading_near shortZ]
  · rw [expected.sequencer, sequencerB]
  · rw [← receiveB]
    exact expected.block
  · rw [expected.others j (by rw [receiveB]; exact other), recordB]

/-- The quiet end of a reading or spacing order's start. -/
theorem quiet_readingStarted {o : OrderCode} {i : Fin 8} {s u : State} (receiving : Receiving o) (ready : ReadyToMove s) (kept : StartKept s u)
    (running : u.intake.running = some i) (short : s.beyondEot = false) (bot : o.dir = .backward → 0 < s.servos.t)
    (sequencer : u.sequencer = sequencerStarted o.dir o.purpose s.servos.t (sequencerIn .starting none
      { sequencerBegun s.sequencer with freeWait := false })) : Quiet u := by
  have free := NoOrderState.orderFree ready.clear
  have blankRef : u.sequencer.blankRef = some s.servos.t := by
    rw [sequencer]
    exact if_pos receiving.blanks
  refine quiet_started ready.quiet kept running (nothingDue_starting ?_ ?_ ?_ ?_ ?_ ?_ ?_ ?_ ?_ ?_)
  case refine_8 =>
    intro b mark
    rw [kept.tape]
    exact Option.some.inj (mark.symm.trans blankRef)
  case refine_10 =>
    intro _
    exact (beyondEot_congr (a := s) (by rw [sequencer]; rfl) kept.tape (congrArg Loader.groupB kept.loader)).trans short
  case refine_9 =>
    rw [sequencer, kept.tape]
    exact fun backward => bot (Option.some.inj backward)
  all_goals rw [sequencer]
  · rfl
  · exact free.decisions
  · exact free.recovery
  · exact free.approach
  · rfl
  · exact fun r point => absurd (free.recordPoint.symm.trans point) (by simp)
  · exact fun e target => absurd (free.eraseEnd.symm.trans target) (by simp)

/-- Settles O54. -/
theorem readsAndSpacesBegin : Obligations.ReadsAndSpacesBegin := by
  intro s o i q reads slot ready short bot asks free
  have receiving : Receiving o := receiving_of_mem reads
  obtain ⟨h, handed, event⟩ := commit_handsOver receiving.queued q slot ready.idle (receiving.accepts _ _ _ asks) ready.quiet
  obtain ⟨z, begins, sequencerZ, block, others, recordCursor, receiveCursor, intakeZ, keptZ⟩ :=
    reading_begins receiving handed ready short bot free
  have started := startMotion_starts (s := z) o.dir o.purpose (by rw [sequencerZ]; exact fun f => Transport.noConfusion (ready.stopped.symm.trans f))
  have kept := keptZ.trans started.startKept
  have sequencerU := started.sequencer
  rw [sequencerZ, keptZ.tape] at sequencerU
  obtain ⟨running, -, runs⟩ := handed.started (started.intake.trans intakeZ)
  have acts := event _ begins (quiet_readingStarted receiving ready kept running short bot sequencerU)
  have trackerU := started.tracker
  generalize startMotion o.dir o.purpose z = u at *
  have record (j : Fin 16) : (arbitrate u).record j = z.record j := record_congr ((arbitrate_keeps u).1.trans trackerU) j
  refine ⟨_, acts, runs, ?_⟩
  simp only [arbitrate_keeps, record]
  rw [trackerU, sequencerU]
  exact ⟨rfl, rfl, congrArg some receiving.purpose, if_pos receiving.blanks, block, others, recordCursor, receiveCursor, kept.tape,
    kept.links, kept.sensors, kept.loader⟩

end Sys2Proof.Machine
end

section
/-! LOAD, REWIND and UNLOAD begin (R74, R127, R128, R136, R138, R176). -/

namespace Sys2Proof.Machine

/-! ### LOAD (R128, R176) -/

theorem loaderOnly_startGroupRead_B (s : State) : LoaderOnly s (startGroupRead .readingB s) :=
  (loaderOnly_onLoader s rfl).trans (loaderOnly_makeSetupClaim _ _ _)

/-- The sequencer as a fresh LOAD begins: the vacuum is asked for, and group B is being read. -/
def sequencerLoading (q : Sequencer) : Sequencer :=
  { sequencerIn .loading (some .vacuum) q with
    seekOrigin := some .fresh, trusted := false, vacuumRequest := true, loadStage := .reading, fixed := none, phaseTimer := some 2000 }

/-- A LOAD's beginning, with everything before the group B read done. -/
structure LoadBegins (s w : State) : Prop where
  sequencer : w.sequencer = sequencerLoading s.sequencer
  tracker : w.tracker = s.tracker
  generator : w.generator = s.generator
  links : w.links = s.links
  sensors : w.sensors = s.sensors
  intake : w.intake = s.intake
  path : w.path = s.path
  loader : w.loader = s.loader
  signals : w.signals = s.signals
  drive : w.servos.driveMode = .off
  tape : w.servos.t = s.servos.t

theorem beginLoad_begins {s : State} (unthreaded : s.sequencer.transport = .unthreaded) (door : s.sensors.door.debounced = true)
    (tape : s.sensors.tapeInPath.debounced = true) (idle : s.loader.activity = .idle) :
    ∃ w, beginLoad .fresh s = startGroupRead .readingB w ∧ LoadBegins s w := by
  let +generalize (eq := isY) y := setTransport .loading (some .vacuum) s
  obtain ⟨tracker, generator, links, intake, path, loader, signals, -⟩ := setTransport_keeps .loading (some .vacuum) s
  let +generalize (eq := isV) v := startPhaseTimer Config.vacuumMs (y.onSequencer fun q =>
    { q with seekOrigin := some .fresh, trusted := false, vacuumRequest := true, loadStage := .asked, fixed := none })
  have idleV : v.loader.activity = .idle := (congrArg Loader.activity loader).trans idle
  refine ⟨v.onSequencer fun q => { q with loadStage := if q.loadStage = .asked then .reading else q.loadStage }, ?_, ?_⟩
  · unfold beginLoad
    rw [door, tape]
    exact if_pos idleV
  · exact {
      sequencer := by
        have sequencerY : y.sequencer = sequencerIn .loading (some .vacuum) s.sequencer := setTransport_sequencer _ _ _
        rw [isV]
        unfold startPhaseTimer
        simp only [onSequencer_sequencer, sequencerY]
        rfl
      tracker := tracker, generator := generator, links := links, intake := intake, path := path, loader := loader, signals := signals
      sensors := setTransport_sensors (by decide) (by rw [unthreaded]; decide)
      drive := setTransport_drive _ _ _
      tape := setTransport_tape _ _ _ }

/-- A LOAD that has begun brings nothing more about. -/
theorem quiet_loadBegun {s w : State} (begins : LoadBegins s w) (unthreaded : s.sequencer.transport = .unthreaded) (signals : s.signals = [])
    (noSettlement : settlementDue s = none) (running : s.intake.running.isSome = true) : Quiet w := by
  refine quiet_iff_nothingDue.mpr ⟨begins.signals.trans signals, nothingDue_of_still ?_ ?_ ?_, ?_, handOverDue_of_running ?_⟩
  · rw [begins.sequencer]
    rfl
  · unfold State.rewindStep
    rw [begins.sequencer]
    rfl
  · intro l started
    rw [begins.sequencer] at started
    unfold sequencerLoading sequencerIn at started
    simp [unthreaded] at started
  · exact settlementDue_congr (a := s) begins.generator (by rw [begins.path]) (by rw [begins.path]) noSettlement
  · rw [begins.intake]
    exact running

/-! ### The rewind of REWIND and UNLOAD (R74, R136, R138) -/

theorem beginStart_dir (q : StartRequest) (s : State) : (beginStart q s).generator.dir = some q.dir := by
  have turned : (setGenDir (some q.dir) (dropChain s)).generator.dir = some q.dir := by
    unfold setGenDir
    split
    · next same => exact same.symm
    · rfl
  unfold beginStart
  dsimp only
  split
  · exact turned
  · rw [(claimHead_keeps _ _ _).2.2.1]
    exact turned

/-- A start request in HOLD, where nothing settles, sets the direction at once. -/
theorem startRequest_dir {s : State} (c : Chain) (d : Direction) (hold : s.generator.mode = .hold) (free : s.generator.settling = false) :
    (startRequest c d s).generator.dir = some d := by
  have begins : startRequest c d s = beginStart { chain := c, dir := d } s := by
    unfold startRequest
    simp only [hold, free]
    rfl
  rw [begins]
  exact beginStart_dir _ _

/-- A fast rewind has been asked for from `s`: its step is RAMP, and the tape turns backward. -/
structure FarRewind (s u : State) : Prop where
  dir : u.generator.dir = some .backward
  tracker : u.tracker = s.tracker
  intake : u.intake = s.intake
  sequencer : u.sequencer = (setRewindStep .ramp s).sequencer
  kept : StartKept s u
  loadSet : u.generator.loadSet = s.generator.loadSet

theorem setRewindStep_sensors {s : State} (r : RewindStep) (sound : s.sequencer.transport ≠ .faulted) : (setRewindStep r s).sensors = s.sensors := by
  unfold setRewindStep
  split
  · simp
  · exact setTransport_sensors (by decide) sound

theorem beginRewind_far {s : State} (far : (s.loader.groupB.approachDistance : Int) < s.servos.t) (hold : s.generator.mode = .hold)
    (free : s.generator.settling = false) (sound : s.sequencer.transport ≠ .faulted) : FarRewind s (beginRewind s) := by
  have begins : beginRewind s = startRequest .rewindStart .backward (setRewindStep .ramp s) := if_pos (decide_eq_true far)
  rw [begins]
  let +generalize (eq := isY) y := setRewindStep .ramp s
  obtain ⟨tracker, generator, links, intake, path, loader, signals, -⟩ := setRewindStep_keeps .ramp s
  have sensors : y.sensors = s.sensors := setRewindStep_sensors .ramp sound
  have tape : y.servos.t = s.servos.t := setRewindStep_tape .ramp s
  rw [← isY] at tracker generator links intake path loader signals
  have asked := startRequest_asked .rewindStart .backward y
  exact {
    dir := startRequest_dir _ _ (by rw [generator]; exact hold) (by rw [generator]; exact free)
    tracker := asked.tracker.trans tracker
    intake := asked.intake.trans intake
    sequencer := asked.sequencer
    loadSet := asked.loadSet.trans (by rw [generator])
    kept := ⟨asked.tape.trans tape, asked.links.trans links, asked.sensors.trans sensors, asked.loader.trans loader,
      asked.signals.trans signals, asked.active.trans (by rw [generator]),
      asked.settlement ∘ settlementDue_congr (a := s) generator (by rw [path]) (by rw [path])⟩ }

/-- A fast rewind far from the load point brings nothing more about. -/
theorem quiet_farRewind {u : State} (signals : u.signals = []) (settled : u.generator.loadSet = none) (runs : u.intake.running.isSome = true)
    (step : u.rewindStep = some .ramp) (far : (u.loader.groupB.approachDistance : Int) < u.servos.t) : Quiet u := by
  obtain ⟨rewinds, notLeader⟩ := rewindStep_transport step
  refine quiet_iff.mpr ⟨signals, ?_, settlementDue_of_none settled, handOverDue_of_running runs⟩
  rw [positionEvent_still (rewinding_moves rewinds).1, rewindNear_none_iff.mpr fun _ _ _ => decide_eq_true far,
    rewindLimit_none_iff.mpr fun creep => by rw [step] at creep; simp at creep,
    leaderDue_none_iff.mpr fun _ _ leader => absurd leader notLeader]
  rfl

/-- What the beginning of a REWIND or an UNLOAD leaves. -/
structure RewindTaken (s u : State) : Prop where
  dir : u.generator.dir = some .backward
  tape : u.servos.t = s.servos.t
  tracker : u.tracker = s.tracker
  links : u.links = s.links
  sensors : u.sensors = s.sensors
  loader : u.loader = s.loader
  quiet : Quiet u

/-- A REWIND or UNLOAD handed over in STOPPED begins its rewind from a state `y` that differs from the deck's at the sequencer alone. -/
theorem FarRewind.taken {o : OrderCode} {i : Fin 8} {q : Byte} {s h y u : State} (rewind : FarRewind y u) (handed : OrderHanded o i q s h)
    (quiet : Quiet s) (kept : StartKept h y) (tracker : y.tracker = h.tracker) (intake : y.intake = h.intake)
    (generator : y.generator = h.generator) (step : u.rewindStep = some .ramp) (far : (s.loader.groupB.approachDistance : Int) < s.servos.t)
    (free : s.generator.settling = false) : RewindTaken s u := by
  have all := (handed.startKept.trans kept).trans rewind.kept
  have settled : s.generator.loadSet = none := Option.isNone_iff_eq_none.mp (by
    unfold Generator.settling at free
    simp only [Bool.or_eq_false_iff] at free
    simpa using free.2)
  exact {
    dir := rewind.dir
    tape := all.tape
    tracker := rewind.tracker.trans (tracker.trans handed.tracker)
    links := all.links
    sensors := all.sensors
    loader := all.loader
    quiet := quiet_farRewind (all.signals.trans (quiet_iff.mp quiet).1) (by rw [rewind.loadSet, generator, handed.generator, settled])
      (by rw [rewind.intake, intake, handed.runs.running]; rfl) step (by rw [all.loader, all.tape]; exact far) }

theorem startKept_onSequencer (f : Sequencer → Sequencer) (s : State) : StartKept s (s.onSequencer f) :=
  ⟨rfl, rfl, rfl, rfl, rfl, rfl, settlementDue_congr (a := s) rfl rfl rfl⟩

theorem startKept_setTransport {t : Transport} {s : State} (p : Option Phase) (threaded : t ≠ .unthreaded ∧ t ≠ .faulted)
    (sound : s.sequencer.transport ≠ .faulted) : StartKept s (setTransport t p s) := by
  obtain ⟨-, generator, links, -, path, loader, signals, -⟩ := setTransport_keeps t p s
  exact ⟨setTransport_tape _ _ _, links, setTransport_sensors threaded sound, loader, signals, by rw [generator],
    settlementDue_congr (a := s) generator (by rw [path]) (by rw [path])⟩

/-- A REWIND begins. -/
theorem rewind_begins {i : Fin 8} {q : Byte} {s h : State} (handed : OrderHanded .rewind i q s h) (ready : ReadyToMove s)
    (far : (s.loader.groupB.approachDistance : Int) < s.servos.t) (hold : s.generator.mode = .hold) (free : s.generator.settling = false) :
    ∃ u, takeRunning h = u ∧ RewindTaken s u ∧ u.intake = h.intake ∧ u.sequencer.transport = .rewinding ∧
      u.sequencer.phase = some (.step .ramp) := by
  let +generalize (eq := isX) x := h.onSequencer fun q => { q with held := false }
  have stopped : x.sequencer.transport = .stopped := (congrArg Sequencer.transport handed.sequencer).trans ready.stopped
  have keptX : StartKept h x := startKept_onSequencer _ h
  have tape : x.servos.t = s.servos.t := handed.startKept.tape
  have loader : x.loader = s.loader := handed.loader
  have generator : x.generator = s.generator := handed.generator
  have takes : takeRunning h = beginRewind x := by
    rw [takeRunning_eq handed.runs.running handed.taken (orderOfCode_code .rewind)]
    show takeRewind x = _
    unfold takeRewind
    rw [stopped]
    exact if_neg (by unfold State.tapePos; omega)
  have rewind := beginRewind_far (s := x) (by rw [loader, tape]; exact far) (by rw [generator]; exact hold) (by rw [generator]; exact free)
    (by rw [stopped]; decide)
  have steps : setRewindStep .ramp x = setTransport .rewinding (some (.step .ramp)) x := if_neg (by rw [stopped]; decide)
  have sequencer := rewind.sequencer
  rw [steps, setTransport_sequencer] at sequencer
  refine ⟨_, takes, rewind.taken handed ready.quiet keptX rfl rfl rfl ?_ far free, rewind.intake, ?_, ?_⟩
  · unfold State.rewindStep
    rw [sequencer]
    rfl
  · rw [sequencer]
    rfl
  · rw [sequencer]
    rfl

/-- An UNLOAD begins. -/
theorem unload_begins {i : Fin 8} {q : Byte} {s h : State} (handed : OrderHanded .unload i q s h) (ready : ReadyToMove s)
    (far : (s.loader.groupB.approachDistance : Int) < s.servos.t) (hold : s.generator.mode = .hold) (free : s.generator.settling = false) :
    ∃ u, takeRunning h = u ∧ RewindTaken s u ∧ u.intake = h.intake ∧ u.sequencer.transport = .unloading ∧
      u.sequencer.phase = some .rewind ∧ u.sequencer.rewindStep = some .ramp := by
  let +generalize (eq := isX) x := h.onSequencer fun q => { q with held := false }
  have stopped : x.sequencer.transport = .stopped := (congrArg Sequencer.transport handed.sequencer).trans ready.stopped
  let +generalize (eq := isY) y := setTransport .unloading (some .rewind) x
  have keptX : StartKept h x := startKept_onSequencer _ h
  have keptY : StartKept x y := startKept_setTransport _ (by decide) (by rw [stopped]; decide)
  have all := handed.startKept.trans (keptX.trans keptY)
  obtain ⟨tracker, generatorY, -, intake, -⟩ := setTransport_keeps .unloading (some .rewind) x
  have generator : y.generator = s.generator := generatorY.trans handed.generator
  have sequencerY : y.sequencer = sequencerIn .unloading (some .rewind) x.sequencer := setTransport_sequencer _ _ _
  have takes : takeRunning h = beginRewind y := by
    rw [takeRunning_eq handed.runs.running handed.taken (orderOfCode_code .unload)]
    show takeUnload x = _
    unfold takeUnload
    rw [stopped]
    refine if_neg ?_
    have here : y.servos.t = s.servos.t := all.tape
    show ¬y.servos.t ≤ 0
    omega
  have rewind := beginRewind_far (s := y) (by rw [all.loader, all.tape]; exact far) (by rw [generator]; exact hold) (by rw [generator]; exact free)
    (by rw [sequencerY]; exact (by decide : Transport.unloading ≠ .faulted))
  have steps : setRewindStep .ramp y = markStatusIf (decide (y.sequencer.rewindStep ≠ some .ramp))
      (y.onSequencer fun q => { q with rewindStep := some .ramp }) := if_pos (by rw [sequencerY]; rfl)
  have sequencer : (beginRewind y).sequencer = { sequencerIn .unloading (some .rewind) x.sequencer with rewindStep := some .ramp } := by
    rw [rewind.sequencer, steps, markStatusIf_sequencer, onSequencer_sequencer, sequencerY]
  refine ⟨_, takes, rewind.taken handed ready.quiet (keptX.trans keptY) tracker intake generatorY ?_ far free, rewind.intake.trans intake, ?_, ?_, ?_⟩
  · unfold State.rewindStep
    rw [sequencer]
    rfl
  · rw [sequencer]
    rfl
  · rw [sequencer]
    rfl
  · rw [sequencer]

/-- Settles O52. -/
theorem loadRewindAndUnloadBegin : Obligations.LoadRewindAndUnloadBegin := by
  refine ⟨?load, fun s i q slot ready far hold free => ⟨?rewind, ?unload⟩⟩
  case load =>
    intro s i q slot idle quiet unthreaded door tape loaderIdle
    obtain ⟨h, handed, event⟩ := commit_handsOver (o := .load) rfl q slot idle rfl quiet
    let +generalize (eq := isX) x := h.onSequencer fun q => { q with held := false }
    have unthreadedX : x.sequencer.transport = .unthreaded := (congrArg Sequencer.transport handed.sequencer).trans unthreaded
    have takes : takeRunning h = beginLoad .fresh x := by
      rw [takeRunning_eq handed.runs.running handed.taken (orderOfCode_code .load)]
      show takeLoad x = _
      unfold takeLoad
      rw [unthreadedX]
    obtain ⟨w, loads, begins⟩ := beginLoad_begins unthreadedX (by rw [show x.sensors = s.sensors from handed.sensors]; exact door)
      (by rw [show x.sensors = s.sensors from handed.sensors]; exact tape) (by rw [show x.loader = s.loader from handed.loader]; exact loaderIdle)
    obtain ⟨noSignal, -, noSettlement, -⟩ := quiet_iff_nothingDue.mp quiet
    have quietW : Quiet w := quiet_loadBegun begins unthreadedX (handed.signals.trans noSignal) ((handed.startKept.trans (startKept_onSequencer _ h)).settlement noSettlement)
      (by rw [show x.intake = h.intake from rfl, handed.runs.running]; rfl)
    have only := loaderOnly_startGroupRead_B w
    have acts := event _ (takes.trans loads) (only.quiet quietW)
    have reading : (startGroupRead .readingB w).loader.activity = .readingB := rfl
    generalize startGroupRead .readingB w = u at *
    have sequencer : u.sequencer = sequencerLoading x.sequencer := only.sequencer.trans begins.sequencer
    have intake : u.intake = h.intake := only.intake.trans begins.intake
    obtain ⟨-, -, runs⟩ := handed.started intake
    refine ⟨_, acts, runs, ?_⟩
    simp only [arbitrate_keeps]
    rw [sequencer, only.servos]
    exact ⟨rfl, rfl, rfl, rfl, rfl, rfl, reading, begins.drive, begins.tape.trans handed.startKept.tape,
      only.tracker.trans (begins.tracker.trans handed.tracker), only.generator.trans (begins.generator.trans handed.generator),
      only.sensors.trans (begins.sensors.trans handed.sensors), only.links.trans (begins.links.trans handed.links)⟩
  case rewind =>
    obtain ⟨h, handed, event⟩ := commit_handsOver (o := .rewind) rfl q slot ready.idle rfl ready.quiet
    obtain ⟨u, takes, taken, intake, transport, phase⟩ := rewind_begins handed ready far hold free
    obtain ⟨-, -, runs⟩ := handed.started intake
    refine ⟨_, event _ takes taken.quiet, runs, ?_⟩
    simp only [arbitrate_keeps]
    exact ⟨transport, phase, taken.dir, taken.tape, taken.tracker, taken.links, taken.sensors, taken.loader⟩
  case unload =>
    obtain ⟨h, handed, event⟩ := commit_handsOver (o := .unload) rfl q slot ready.idle rfl ready.quiet
    obtain ⟨u, takes, taken, intake, transport, phase, step⟩ := unload_begins handed ready far hold free
    obtain ⟨-, -, runs⟩ := handed.started intake
    refine ⟨_, event _ takes taken.quiet, runs, ?_⟩
    simp only [arbitrate_keeps]
    exact ⟨transport, phase, step, taken.dir, taken.tape, taken.tracker, taken.links, taken.sensors, taken.loader⟩

end Sys2Proof.Machine
end

section
/-! HALT in RUNNING (R28, R35, R52, R152). -/

namespace Sys2Proof.Machine

/-! ### A motion is asked to stop (R28, R75) -/

/-- The stop of a motion has been asked for. -/
structure MotionHalted (s b : State) : Prop where
  sequencer : b.sequencer = sequencerIn .stopping none s.sequencer
  mode : b.generator.mode = .decel ∨ b.generator.mode = .fallback
  slows : s.generator.mode = .accel ∨ s.generator.mode = .cruise → b.generator.mode = .decel
  v : b.generator.v = s.generator.v
  tape : b.servos.t = s.servos.t
  tracker : b.tracker = s.tracker
  links : b.links = s.links
  sensors : b.sensors = s.sensors
  intake : b.intake = s.intake
  loader : b.loader = s.loader
  signals : b.signals = s.signals

theorem stopMotion_halts {s : State} {p : Purpose} (underway : s.sequencer.transport.underway = true) (purpose : s.sequencer.purpose = some p)
    (moves : s.generator.mode ≠ .hold) : MotionHalted s (stopMotion s) := by
  have stops : stopMotion s = stopRequest p.stopChain (setTransport .stopping none s) := by
    unfold stopMotion
    rw [if_pos underway, purpose]
  rw [stops]
  obtain ⟨tracker, generator, links, intake, -, loader, signals, -⟩ := setTransport_keeps .stopping none s
  have sensors : (setTransport .stopping none s).sensors = s.sensors := setTransport_sensors (by decide) (underway_ne_faulted underway)
  have asked := stopRequest_asked (s := setTransport .stopping none s) p.stopChain (by rw [generator]; exact moves)
  exact {
    sequencer := asked.sequencer.trans (setTransport_sequencer _ _ _)
    mode := asked.mode
    slows := by rw [← generator]; exact asked.slows
    v := asked.v.trans (by rw [generator])
    tape := (congrArg Servos.t asked.servos).trans (setTransport_tape _ _ _)
    tracker := asked.tracker.trans tracker
    links := asked.links.trans links
    sensors := asked.sensors.trans sensors
    intake := asked.intake.trans intake
    loader := asked.loader.trans loader
    signals := asked.signals.trans signals }

/-! ### The running order is cut (R35, R52) -/

/-- The sequencer at the cut of the running order: its order state, the no-show count and WRITE MODE go, and the anchor may be set. -/
theorem cutOrder_sequencer {s : State} (runs : s.intake.running.isSome = true) (o : Outcome) (r : Reason) (k : Bool) :
    ∃ a g, (cutOrder o r k s).sequencer =
      { clearOrderState { s.sequencer with anchor := a, gapKind := g } with noShow := 0, writeMode := false } := by
  obtain ⟨a, g, sequencer⟩ := endOrder_sequencer o r k s
  refine ⟨a, g, ?_⟩
  unfold cutOrder
  rw [if_pos runs, onSequencer_sequencer, sequencer]

theorem cutOrder_context {s : State} (runs : s.intake.running.isSome = true) (o : Outcome) (r : Reason) (k : Bool) :
    (cutOrder o r k s).tracker.context = none := by
  unfold cutOrder
  rw [if_pos runs]
  exact (endOrder_spec o r k s).context

/-- A stop without an order, the queue suspended, lets a LOAD's settlement begin and no more. -/
theorem stopping_settles {s : State} (signals : s.signals = []) (stopping : s.sequencer.transport = .stopping) (phase : s.sequencer.phase = none)
    (noDecision : s.sequencer.decisions = []) (nobody : s.intake.running = none) (suspended : s.intake.suspended = true)
    (mode : s.generator.mode = .decel) : ∃ u, finishEvent s = arbitrate u ∧ MaySettle s u := by
  have still (u : State) (l : LoadStage) (sequencer : u.sequencer = { s.sequencer with loadStage := l }) (intake : u.intake = s.intake) :
      positionEvent u = none := by
    have noOrder : u.runningOrder = none := by
      unfold State.runningOrder State.runningTaken
      rw [intake, nobody]
      rfl
    refine positionEvent_none_iff_nothingDue.mpr (nothingDue_of_stopping ?_ ?_ ?_ (.inl ?_))
    · rw [sequencer]
      exact stopping
    · intro i d rest listed
      rw [sequencer] at listed
      exact absurd (noDecision.symm.trans listed) (by simp)
    · rw [noOrder]
      simp
    · rw [sequencer]
      exact fun leader => absurd (phase.symm.trans leader) (by simp)
  obtain ⟨u, ends, -, settles⟩ := react_settling signals (still s s.sequencer.loadStage rfl rfl) (handOverDue_held (.inl suspended))
    (.inl (by rw [stopping]; decide)) (.inr (by rw [mode]; decide)) fun u settles => by
      obtain ⟨l, sequencer⟩ := settles.sequencer
      exact still u l sequencer settles.intake
  exact ⟨u, congrArg arbitrate (ends 62), settles⟩

/-- Settles O55. -/
theorem haltAbortsTheOrder : Obligations.HaltAbortsTheOrder := by
  intro s i j q p slot runs other running purpose cruise signals
  have takes := takenIn_takes .halt i q s
  have event : exec (.halt i q) s = .next (finishEvent (haltDeck (takenIn .halt i q s))) :=
    congrArg Host.Outcome.next (slotCommand_takes (o := .halt) q slot rfl)
  generalize takenIn .halt i q s = y at *
  have halts : haltMotion y = stopMotion y := by
    unfold haltMotion
    rw [takes.sequencer, running]
  have halted := stopMotion_halts (s := y) (p := p) (by rw [takes.sequencer, running]; rfl) (by rw [takes.sequencer]; exact purpose)
    (by rw [takes.generator, cruise]; decide)
  generalize stopMotion y = b at *
  have runsB : b.intake.running = some j := by rw [halted.intake, takes.running, runs]
  have deck : haltDeck y = cutOrder .aborted .halt false b := by
    unfold haltDeck
    rw [halts]
    exact if_pos (by rw [runsB]; rfl)
  rw [deck] at event
  obtain ⟨ended, -⟩ := cutOrder_spec .aborted .halt false b
  obtain ⟨anchor, kind, sequencer⟩ := cutOrder_sequencer (s := b) (by rw [runsB]; rfl) .aborted .halt false
  have context := cutOrder_context (s := b) (by rw [runsB]; rfl) .aborted .halt false
  obtain ⟨generator, servos, sensors, signalsC⟩ := cutOrder_deck .aborted .halt false b
  obtain ⟨links, loader, -⟩ := cutOrder_keeps .aborted .halt false b
  generalize cutOrder .aborted .halt false b = c at *
  rw [halted.sequencer, takes.sequencer] at sequencer
  have decel : c.generator.mode = .decel := by
    rw [generator]
    exact halted.slows (.inr (by rw [takes.generator, cruise]))
  have suspended : c.intake.suspended = true := ended.suspended (by rw [runsB]; rfl) rfl
  obtain ⟨u, ends, settles⟩ := stopping_settles (s := c) (by rw [signalsC, halted.signals, takes.signals, signals]) (by rw [sequencer]; rfl)
    (by rw [sequencer]; rfl) (by rw [sequencer]; rfl) ended.running suspended decel
  obtain ⟨l, sequencerU⟩ := settles.sequencer
  obtain ⟨a, ch, ls, generatorU⟩ := settles.generator
  rw [ends] at event
  have result := ended.result j runsB
  have own : c.intake.results[i] = y.intake.results[i] := by
    rw [ended.others i (by rw [runsB]; exact fun same => other (Option.some.inj same)), halted.intake]
  obtain ⟨x, resultI⟩ := takes.result
  refine ⟨_, event, ⟨?_, ?_, ?_⟩, ?_⟩
  · simp only [arbitrate_keeps, settles.intake]
    exact ended.running
  · intro k runsK
    obtain rfl : j = k := Option.some.inj (runs.symm.trans runsK)
    simp only [arbitrate_keeps, settles.intake]
    exact result
  · intro _
    simp only [arbitrate_keeps, settles.intake]
    exact suspended
  · simp only [arbitrate_keeps, settles.intake]
    rw [sequencerU, sequencer, generatorU, settles.tracker, own, resultI]
    refine ⟨rfl, rfl, rfl, decel, ?_, rfl, context, ?_, ?_, ?_, ?_, ?_⟩
    · show c.generator.v = s.generator.v
      rw [generator, halted.v, takes.generator]
    · rw [ended.queue, halted.intake, takes.queue]
    · rw [settles.servos, servos, halted.tape, takes.servos]
    · rw [settles.links, links, halted.links, takes.links]
    · rw [settles.sensors, sensors, halted.sensors, takes.sensors]
    · rw [settles.loader, loader, halted.loader, takes.loader]

end Sys2Proof.Machine
end

section
/-! FLUSH and RESUME (R34, R148 to R154). -/

namespace Sys2Proof.Machine

/-! ### The queue is cancelled (R148, R153, R158) -/

theorem cancelResult_results (i j : Fin 8) (rsn : Reason) (s : State) : (cancelResult i rsn s).intake.results[j] =
    if i = j then { s.intake.results[i] with outcome := .cancelled, reason := rsn, finalT := s.tapePos } else s.intake.results[j] :=
  setResult_results i j _ s

/-- What the cancelling of the slots `is` leaves of the intake. -/
structure SlotsCancelled (rsn : Reason) (is : List (Fin 8)) (s u : State) : Prop where
  cancelled : ∀ j ∈ is, (u.intake.results[j]).outcome = .cancelled ∧ (u.intake.results[j]).reason = rsn
  others : ∀ j : Fin 8, j ∉ is → u.intake.results[j] = s.intake.results[j]
  suspended : u.intake.suspended = s.intake.suspended
  running : u.intake.running = s.intake.running
  pending : u.reporter.pendingClasses = s.reporter.pendingClasses

theorem slotsCancelled_foldl (rsn : Reason) (is : List (Fin 8)) (s : State) :
    SlotsCancelled rsn is s (is.foldl (fun a i => cancelResult i rsn a) s) := by
  induction is generalizing s with
  | nil => exact ⟨fun j listed => by simp at listed, fun j _ => rfl, rfl, rfl, rfl⟩
  | cons i is ih =>
    obtain ⟨cancelled, others, suspended, running, pending⟩ := ih (cancelResult i rsn s)
    obtain ⟨-, suspended', running', -⟩ := setResult_intake i (fun r => { r with outcome := .cancelled, reason := rsn, finalT := s.tapePos }) s
    have pending' : (cancelResult i rsn s).reporter.pendingClasses = s.reporter.pendingClasses := by
      unfold cancelResult setResult
      rw [mark_reporter]
      rfl
    constructor
    case cancelled =>
      intro j listed
      by_cases later : j ∈ is
      · exact cancelled j later
      · obtain rfl : j = i := by simpa [later] using listed
        rw [List.foldl_cons, others j later, cancelResult_results, if_pos rfl]
        exact ⟨rfl, rfl⟩
    case others =>
      intro j away
      simp only [List.mem_cons, not_or] at away
      rw [List.foldl_cons, others j away.2, cancelResult_results, if_neg (Ne.symm away.1)]
    case suspended => exact suspended.trans suspended'
    case running => exact running.trans running'
    case pending => exact pending.trans pending'

theorem cancelQueue_cancels (rsn : Reason) (s : State) :
    SlotsCancelled rsn s.intake.queue s (cancelQueue rsn s) ∧ (cancelQueue rsn s).intake.queue = [] := by
  obtain ⟨cancelled, others, suspended, running, pending⟩ := slotsCancelled_foldl rsn s.intake.queue s
  unfold cancelQueue
  generalize s.intake.queue.foldl (fun a i => cancelResult i rsn a) s = x at *
  have intake : (setQueue [] x).intake = { x.intake with queue := [] } := setQueue_intake [] x
  have reporter : (setQueue [] x).reporter.pendingClasses = x.reporter.pendingClasses := by
    unfold setQueue
    simp [markStatusIf_reporter]
  refine ⟨⟨?_, ?_, ?_, ?_, reporter.trans pending⟩, ?_⟩
  all_goals simp only [intake]
  · exact cancelled
  · exact others
  · exact suspended
  · exact running

/-! ### FLUSH (R153) -/

theorem flushCancelsTheQueue {s : State} {i : Fin 8} (q : Byte) (slot : SlotFree i s) :
    ∃ t, exec (.flush i q) s = .next t ∧ t.intake.queue = [] ∧
      (∀ j ∈ s.intake.queue, (t.intake.results[j]).outcome = .cancelled ∧ (t.intake.results[j]).reason = .flush) ∧
      (i ∉ s.intake.queue → (t.intake.results[i]).outcome = .done) ∧
      (∀ j : Fin 8, j ∉ s.intake.queue → j ≠ i → t.intake.results[j] = s.intake.results[j]) ∧
      t.intake.suspended = s.intake.suspended ∧ t.intake.running = s.intake.running ∧
      t.tracker = s.tracker ∧ t.sequencer = s.sequencer ∧ t.generator = s.generator ∧ t.servos = s.servos ∧ t.links = s.links ∧
      t.sensors = s.sensors ∧ t.loader = s.loader ∧ t.reporter.pendingClasses = s.reporter.pendingClasses := by
  have event : exec (.flush i q) s = .next (cancelQueue .flush (takenDone .flush i q s)) :=
    congrArg Host.Outcome.next (quietSlotCommand_done .flush q slot rfl rfl)
  have done := takenDone_doneInSlot .flush i q s
  have reporter := takenDone_reporter .flush i q s
  generalize takenDone .flush i q s = y at *
  obtain ⟨⟨cancelled, others, suspended, running, pending⟩, empty⟩ := cancelQueue_cancels .flush y
  obtain ⟨tracker, sequencer, generator, servos, links, sensors, -, loader, -⟩ := cancelQueue_keeps .flush y
  rw [done.queue] at cancelled others
  refine ⟨_, event, empty, cancelled, ?_, ?_, suspended.trans done.suspended, running.trans done.running, tracker.trans done.tracker,
    sequencer.trans done.sequencer, generator.trans done.generator, servos.trans done.servos, links.trans done.links,
    sensors.trans done.sensors, loader.trans done.loader, ?_⟩
  · intro away
    rw [others i away]
    exact done.outcome
  · intro j away other
    rw [others j away]
    exact done.results j other
  · rw [pending, reporter]

/-! ### RESUME (R149, R154) -/

/-- The state after a RESUME has set the queue active, before anything follows. -/
structure Resumed (i : Fin 8) (s z : State) : Prop where
  result : (z.intake.results[i]).outcome = .done
  results : ∀ j : Fin 8, j ≠ i → z.intake.results[j] = s.intake.results[j]
  taken : ∀ j : Fin 8, j ≠ i → z.intake.taken[j] = s.intake.taken[j]
  suspended : z.intake.suspended = false
  queue : z.intake.queue = s.intake.queue
  running : z.intake.running = s.intake.running
  tracker : z.tracker = s.tracker
  sequencer : z.sequencer = s.sequencer
  generator : z.generator = s.generator
  servos : z.servos = s.servos
  links : z.links = s.links
  sensors : z.sensors = s.sensors
  loader : z.loader = s.loader
  signals : z.signals = s.signals
  path : ∃ w, z.path = { s.path with slots := w }

theorem exec_resume {s : State} {i : Fin 8} (q : Byte) (slot : SlotFree i s) :
    ∃ z, exec (.resume i q) s = .next (finishEvent z) ∧ Resumed i s z := by
  have takes := takenIn_takes .resume i q s
  refine ⟨setSuspended false (takenIn .resume i q s), congrArg Host.Outcome.next (slotCommand_takes (o := .resume) q slot rfl), ?_⟩
  generalize takenIn .resume i q s = y at *
  obtain ⟨tracker, sequencer, generator, servos, links, sensors, path, loader, signals, -⟩ := setSuspended_keeps false y
  have intake : (setSuspended false y).intake = { y.intake with suspended := false } := setSuspended_intake false y
  obtain ⟨x, result⟩ := takes.result
  obtain ⟨w, pathY⟩ := takes.path
  exact {
    result := by simp only [intake]; rw [result]; rfl
    results := fun j other => by simp only [intake]; exact takes.results j other
    taken := fun j other => by simp only [intake]; exact takes.taken j other
    suspended := by rw [intake]
    queue := by rw [intake]; exact takes.queue
    running := by rw [intake]; exact takes.running
    tracker := tracker.trans takes.tracker
    sequencer := sequencer.trans takes.sequencer
    generator := generator.trans takes.generator
    servos := servos.trans takes.servos
    links := links.trans takes.links
    sensors := sensors.trans takes.sensors
    loader := loader.trans takes.loader
    signals := signals.trans takes.signals
    path := ⟨w, path.trans pathY⟩ }

theorem Resumed.runningOrder {i : Fin 8} {s z : State} (resumed : Resumed i s z) (other : s.intake.running ≠ some i) :
    z.runningOrder = s.runningOrder :=
  runningOrder_congr resumed.running fun j runs => resumed.taken j fun same => other (same ▸ runs)

theorem resumeOfAnEmptyQueue {s : State} {i : Fin 8} (q : Byte) (slot : SlotFree i s) (empty : s.intake.queue = [])
    (other : s.intake.running ≠ some i) (quiet : Quiet s) :
    ∃ t, exec (.resume i q) s = .next t ∧ t.intake.suspended = false ∧ (t.intake.results[i]).outcome = .done ∧
        (∀ j : Fin 8, j ≠ i → t.intake.results[j] = s.intake.results[j]) ∧ t.intake.queue = [] ∧
        t.intake.running = s.intake.running ∧ t.tracker = s.tracker ∧ t.sequencer = s.sequencer ∧ t.generator = s.generator ∧
        t.servos = s.servos ∧ t.links = s.links ∧ t.sensors = s.sensors ∧ t.loader = s.loader := by
  obtain ⟨z, event, resumed⟩ := exec_resume q slot
  have queue : z.intake.queue = [] := resumed.queue.trans empty
  have quietZ : Quiet z := by
    refine quiet_of_intake quiet resumed.sequencer resumed.generator resumed.servos resumed.loader resumed.signals resumed.path
      (resumed.runningOrder other) fun _ => ?_
    unfold handOverDue
    rw [queue]
    split <;> rfl
  rw [finishEvent_of_quiet quietZ] at event
  refine ⟨_, event, ?_⟩
  simp only [arbitrate_keeps]
  exact ⟨resumed.suspended, resumed.result, resumed.results, queue, resumed.running, resumed.tracker, resumed.sequencer, resumed.generator,
    resumed.servos, resumed.links, resumed.sensors, resumed.loader⟩

/-! ### RESUME with orders queued (R34, R150) -/

/-- RESUME in slot i has handed slot j's order over. -/
structure ResumeHands (i j : Fin 8) (rest : List (Fin 8)) (s h : State) : Prop where
  running : h.intake.running = some j
  queue : h.intake.queue = rest
  suspended : h.intake.suspended = false
  head : (h.intake.results[j]).outcome = .running
  own : (h.intake.results[i]).outcome = .done
  others : ∀ k : Fin 8, k ≠ i → k ≠ j → h.intake.results[k] = s.intake.results[k]
  taken : h.intake.taken[j] = s.intake.taken[j]
  tracker : h.tracker = s.tracker
  sequencer : h.sequencer = s.sequencer
  generator : h.generator = s.generator
  servos : h.servos = s.servos
  links : h.links = s.links
  sensors : h.sensors = s.sensors
  loader : h.loader = s.loader
  signals : h.signals = s.signals
  path : ∃ w, h.path = { s.path with slots := w }

theorem resume_hands {s : State} {i j : Fin 8} {rest : List (Fin 8)} (q : Byte) (slot : SlotFree i s) (queue : s.intake.queue = j :: rest)
    (idle : s.intake.running = none) (sweep : s.path.sweep = none) (other : j ≠ i) (quiet : Quiet s) :
    ∃ h, ResumeHands i j rest s h ∧ ∀ w, takeRunning h = w → Quiet w → exec (.resume i q) s = .next (arbitrate w) := by
  obtain ⟨z, event, resumed⟩ := exec_resume q slot
  obtain ⟨x, path⟩ := resumed.path
  obtain ⟨noSignal, nothing, noSettlement, -⟩ := quiet_iff_nothingDue.mp quiet
  have noPosition : positionEvent z = none := positionEvent_none_iff_nothingDue.mpr (nothing.of_samePlace
    ⟨resumed.sequencer, fun slows => by rw [resumed.generator]; exact slows, by rw [resumed.generator], by rw [resumed.servos],
      by rw [resumed.loader], resumed.runningOrder (by rw [idle]; simp), holding_congr (by rw [path])⟩)
  have due : handOverDue z = some (j, rest) := by
    unfold handOverDue
    rw [path]
    show (if (z.intake.suspended || z.intake.running.isSome || s.path.sweep.isSome) = true then _ else _) = _
    rw [resumed.suspended, resumed.running, idle, sweep, resumed.queue, queue]
    rfl
  have once := reactOnce_handOver (resumed.signals.trans noSignal) noPosition
    (settlementDue_congr (a := s) resumed.generator (by rw [path]) (by rw [path]) noSettlement) due
  have hands := handOver_hands j rest z
  generalize handOver j rest z = h at *
  obtain ⟨t, result⟩ := hands.result
  refine ⟨h, ?_, fun w eq quietW => ?_⟩
  · exact {
      running := hands.running
      queue := hands.queue
      suspended := hands.suspended.trans resumed.suspended
      head := by rw [result]
      own := by rw [hands.results i other.symm]; exact resumed.result
      others := fun k away away' => (hands.results k away').trans (resumed.results k away)
      taken := by rw [hands.taken]; exact resumed.taken j other
      tracker := hands.tracker.trans resumed.tracker
      sequencer := hands.sequencer.trans resumed.sequencer
      generator := hands.generator.trans resumed.generator
      servos := hands.servos.trans resumed.servos
      links := hands.links.trans resumed.links
      sensors := hands.sensors.trans resumed.sensors
      loader := hands.loader.trans resumed.loader
      signals := hands.signals.trans resumed.signals
      path := ⟨x, hands.path.trans path⟩ }
  · rw [eq] at once
    rw [event, finishEvent_of_once once quietW]

/-- While a motion runs or stops, a queued order that is handed over is held. -/
theorem takeRunning_held {h : State} {j : Fin 8} {t : TakenOrder} {o : OrderCode} (running : h.intake.running = some j)
    (taken : h.intake.taken[j] = t) (code : orderOfCode t.code = some o) (queued : o.queued = true)
    (moves : h.sequencer.transport.moves = true) : takeRunning h = holdOrder (h.onSequencer fun q => { q with held := false }) := by
  rw [takeRunning_eq running taken code]
  have motion (x : State) (n : Nat) (inMotion : x.sequencer.transport.moves = true) : takeMotionOrder o j n x = holdOrder x := by
    unfold takeMotionOrder
    cases transport : x.sequencer.transport
    case starting | running | stopping => rfl
    all_goals exact absurd inMotion (by rw [transport]; decide)
  cases o
  case halt | flush | resume | ack | ceiling | profileSelect | softReset => cases queued
  case write | readFwd | readBwd | spaceFwd | spaceBwd | erase => exact motion _ _ moves
  all_goals
    let +generalize x := h.onSequencer fun q => { q with held := false }
    have moves' : x.sequencer.transport.moves = true := moves
    dsimp only
  case load =>
    unfold takeLoad
    cases transport : x.sequencer.transport
    case starting | running | stopping => rfl
    all_goals exact absurd moves' (by rw [transport]; decide)
  case unload =>
    unfold takeUnload
    cases transport : x.sequencer.transport
    case starting | running | stopping => rfl
    all_goals exact absurd moves' (by rw [transport]; decide)
  case rewind =>
    unfold takeRewind
    cases transport : x.sequencer.transport
    case starting | running | stopping => rfl
    all_goals exact absurd moves' (by rw [transport]; decide)

/-- A held order brings nothing about. -/
theorem quiet_held {s w : State} (quiet : Quiet s) (clear : NoOrderState s) (sequencer : w.sequencer = { s.sequencer with held := true })
    (generator : w.generator = s.generator) (servos : w.servos = s.servos) (loader : w.loader = s.loader) (signals : w.signals = s.signals)
    (path : ∃ x, w.path = { s.path with slots := x }) (runs : w.intake.running.isSome = true) : Quiet w := by
  obtain ⟨noSignal, nothing, noSettlement, -⟩ := quiet_iff_nothingDue.mp quiet
  obtain ⟨x, path⟩ := path
  have free := NoOrderState.orderFree clear
  have nothingHeld : NothingDue { s with intake := w.intake, sequencer := { s.sequencer with held := true } } :=
    { nothing with
      held := fun r point => absurd (free.recordPoint.symm.trans point) (by simp)
      eot := fun _ held => absurd held (by simp) }
  exact quiet_iff_nothingDue.mpr ⟨signals.trans noSignal, nothingHeld.of_samePlace
    ⟨sequencer, fun slows => by rw [generator]; exact slows, by rw [generator], by rw [servos], by rw [loader], order_congr rfl,
      holding_congr (by rw [path])⟩, settlementDue_congr (a := s) generator (by rw [path]) (by rw [path]) noSettlement, handOverDue_of_running runs⟩

theorem ResumeHands.holds {s h : State} {i j : Fin 8} {rest : List (Fin 8)} {o : OrderCode} (hands : ResumeHands i j rest s h)
    (code : orderOfCode (s.intake.taken[j]).code = some o) (queued : o.queued = true) (clear : NoOrderState s) (quiet : Quiet s)
    (moves : s.sequencer.transport.moves = true) : ∃ w, takeRunning h = w ∧ Quiet w ∧ w.intake = h.intake ∧
      w.sequencer = { s.sequencer with held := true } ∧ w.tracker = h.tracker ∧ w.generator = h.generator ∧ w.servos = h.servos ∧
      w.links = h.links ∧ w.sensors = h.sensors ∧ w.loader = h.loader := by
  have takes := takeRunning_held hands.running hands.taken code queued (by rw [hands.sequencer]; exact moves)
  let +generalize (eq := isW) w := holdOrder (h.onSequencer fun q => { q with held := false })
  have sequencer : w.sequencer = { s.sequencer with held := true } :=
    congrArg (fun q : Sequencer => { { q with held := false } with held := true }) hands.sequencer
  refine ⟨w, takes, ?_, rfl, sequencer, rfl, rfl, rfl, rfl, rfl, rfl⟩
  exact quiet_held quiet clear sequencer hands.generator hands.servos hands.loader hands.signals hands.path
    ((congrArg Option.isSome hands.running).trans rfl)

/-- In UNTHREADED an order of the sequencer's chapter fails as it is handed over. -/
theorem takeRunning_fails {h : State} {j : Fin 8} {t : TakenOrder} {o : OrderCode} (running : h.intake.running = some j)
    (taken : h.intake.taken[j] = t) (code : orderOfCode t.code = some o) (motion : o.ofSequencer = true)
    (unthreaded : h.sequencer.transport = .unthreaded) :
    takeRunning h = endOrder .failed .notThreaded false (h.onSequencer fun q => { q with held := false }) := by
  rw [takeRunning_eq running taken code]
  have fails (x : State) (n : Nat) (here : x.sequencer.transport = .unthreaded) :
      takeMotionOrder o j n x = endOrder .failed .notThreaded false x := by
    have check : startCheck o x = some (.failed, .notThreaded) := if_pos (.inl here)
    unfold takeMotionOrder
    rw [here]
    dsimp only
    rw [check]
  cases o
  case write | readFwd | readBwd | spaceFwd | spaceBwd | erase => exact fails _ _ unthreaded
  all_goals cases motion

/-- An order that ends with no context leaves the memory path as it was. -/
theorem endOrder_path {s : State} (context : s.tracker.context = none) (o : Outcome) (r : Reason) (k : Bool) :
    (endOrder o r k s).path = s.path := by
  have path : (endOrder o r k s).path = (settleRecords o k s).path := (reportEnd_keeps _ _ _ _).2.2.2.2.2.2.1
  rw [path, settleRecords_nothing context]

theorem ResumeHands.fails {s h : State} {i j : Fin 8} {rest : List (Fin 8)} {o : OrderCode} (hands : ResumeHands i j rest s h)
    (code : orderOfCode (s.intake.taken[j]).code = some o) (motion : o.ofSequencer = true) (quiet : Quiet s)
    (unthreaded : s.sequencer.transport = .unthreaded) (phase : s.sequencer.phase = none) (context : s.tracker.context = none) :
    ∃ w, takeRunning h = w ∧ Quiet w ∧ Ended .failed .notThreaded h w ∧ w.sequencer.transport = .unthreaded ∧ w.tracker = h.tracker ∧
      w.generator = h.generator ∧ w.servos = h.servos ∧ w.links = h.links ∧ w.sensors = h.sensors ∧ w.loader = h.loader := by
  have takes := takeRunning_fails hands.running hands.taken code motion (by rw [hands.sequencer]; exact unthreaded)
  let +generalize (eq := isX) x := h.onSequencer fun q => { q with held := false }
  have contextX : x.tracker.context = none := (congrArg Tracker.context hands.tracker).trans context
  have ends := endOrder_spec .failed .notThreaded false x
  have tracker := endOrder_tracker contextX .failed .notThreaded false
  have path := endOrder_path contextX .failed .notThreaded false
  obtain ⟨generator, servos, links, sensors, loader, signals, -⟩ := endOrder_keeps .failed .notThreaded false x
  generalize endOrder .failed .notThreaded false x = w at *
  obtain ⟨y, pathH⟩ := hands.path
  have pathW : w.path = { s.path with slots := y } := path.trans pathH
  obtain ⟨noSignal, -, noSettlement, -⟩ := quiet_iff_nothingDue.mp quiet
  have suspended : w.intake.suspended = true := ends.suspended ((congrArg Option.isSome hands.running).trans rfl) rfl
  have here : w.sequencer.transport = .unthreaded := ends.transport.trans ((congrArg Sequencer.transport hands.sequencer).trans unthreaded)
  have noPhase : w.sequencer.phase = none := ends.phase.trans ((congrArg Sequencer.phase hands.sequencer).trans phase)
  refine ⟨w, takes, quiet_iff.mpr ⟨signals.trans (hands.signals.trans noSignal), positionEvent_of_still (.inl here) (by rw [noPhase]; simp),
    settlementDue_congr (a := s) (generator.trans hands.generator) (by rw [pathW]) (by rw [pathW]) noSettlement, handOverDue_held (.inl suspended)⟩,
    ⟨ends.running, ends.queue, ends.result, ends.others, ends.suspended, ends.active, ends.classes⟩, here, tracker, generator, servos, links, sensors, loader⟩

/-- Settles O56. -/
theorem flushAndResume : Obligations.FlushAndResume := by
  refine fun s i q slot => ⟨flushCancelsTheQueue q slot, resumeOfAnEmptyQueue q slot, ?queued⟩
  case queued =>
    intro j rest o queue suspended idle sweep other code queued clear quiet
    obtain ⟨h, hands, event⟩ := resume_hands q slot queue idle sweep other quiet
    refine ⟨fun moves => ?holds, fun unthreaded phase motion context => ?fails⟩
    case holds =>
      obtain ⟨w, takes, quietW, intake, sequencer, tracker, generator, servos, links, sensors, loader⟩ :=
        hands.holds code queued clear quiet moves
      refine ⟨_, event w takes quietW, ?_⟩
      simp only [arbitrate_keeps, intake]
      exact ⟨hands.suspended, hands.queue, hands.running, hands.head, hands.own, hands.others, sequencer, tracker.trans hands.tracker,
        generator.trans hands.generator, servos.trans hands.servos, links.trans hands.links, sensors.trans hands.sensors,
        loader.trans hands.loader⟩
    case fails =>
      obtain ⟨w, takes, quietW, ended, here, tracker, generator, servos, links, sensors, loader⟩ :=
        hands.fails code motion quiet unthreaded phase context
      obtain ⟨outcome, reason⟩ := ended.result j hands.running
      have own : (w.intake.results[i]).outcome = .done := by
        rw [ended.others i (by rw [hands.running]; exact fun same => other (Option.some.inj same))]
        exact hands.own
      refine ⟨_, event w takes quietW, ?_⟩
      simp only [arbitrate_keeps]
      exact ⟨ended.suspended (by rw [hands.running]; rfl) rfl, ended.queue.trans hands.queue, ended.running, outcome, reason, own, here,
        tracker.trans hands.tracker, generator.trans hands.generator, servos.trans hands.servos, links.trans hands.links,
        sensors.trans hands.sensors, loader.trans hands.loader⟩

end Sys2Proof.Machine
end

section
/-! SOFT_RESET in STOPPED (R25, R56, R143, R158). -/

namespace Sys2Proof.Machine

/-! ### What SOFT_RESET does in STOPPED -/

/-- The queue has been cancelled and set active, the no-show count and WRITE MODE are gone. -/
def ordersDropped (s : State) : State :=
  setSuspended false (cancelQueue .softReset (s.onSequencer fun q => { q with noShow := 0, writeMode := false }))

/-- The tables are empty and the notices cleared. -/
def tablesCleared (s : State) : State :=
  setCeiling 9 (setPendingClasses 0 (((emptyTable (retryHeld s)).onSequencer softSequencer).onServos fun v => { v with tracking := 0 }))

/-- With the tape stopped, no order and no selection, SOFT_RESET drops the queue and clears the tables. -/
theorem softReset_stopped {s : State} (stopped : s.sequencer.transport = .stopped) (idle : s.intake.running = none)
    (noSelection : s.generator.pendingSet = none) (noCharact : s.generator.charact = none) :
    softReset s = tablesCleared (ordersDropped s) := by
  have still : haltMotion s = s := by
    unfold haltMotion
    rw [stopped]
  have cut : cutOrder .aborted .softReset true s = s.onSequencer fun q => { q with noShow := 0, writeMode := false } := by
    unfold cutOrder
    rw [if_neg (by rw [idle]; decide)]
  have generator : (ordersDropped s).generator = s.generator := by simp [ordersDropped]
  have selections : dropSelections (ordersDropped s) = ordersDropped s := by
    unfold dropSelections
    simp only [generator, noSelection, noCharact]
  unfold softReset
  dsimp only
  rw [still, cut]
  exact congrArg tablesCleared selections

/-- What the dropped orders leave. -/
structure OrdersDropped (s u : State) : Prop where
  cancelled : ∀ j ∈ s.intake.queue, (u.intake.results[j]).outcome = .cancelled ∧ (u.intake.results[j]).reason = .softReset
  others : ∀ j : Fin 8, j ∉ s.intake.queue → u.intake.results[j] = s.intake.results[j]
  suspended : u.intake.suspended = false
  queue : u.intake.queue = []
  running : u.intake.running = s.intake.running
  sequencer : u.sequencer = { s.sequencer with noShow := 0, writeMode := false }
  generator : u.generator = s.generator
  servos : u.servos = s.servos
  links : u.links = s.links
  sensors : u.sensors = s.sensors
  path : u.path = s.path
  loader : u.loader = s.loader
  signals : u.signals = s.signals

theorem ordersDropped_drops (s : State) : OrdersDropped s (ordersDropped s) := by
  let +generalize (eq := isX) x := s.onSequencer fun q => { q with noShow := 0, writeMode := false }
  obtain ⟨⟨cancelled, others, -, running, -⟩, queue⟩ := cancelQueue_cancels .softReset x
  obtain ⟨-, sequencerC, generatorC, servosC, linksC, sensorsC, pathC, loaderC, signalsC, -⟩ := cancelQueue_keeps .softReset x
  have active : ordersDropped s = setSuspended false (cancelQueue .softReset x) := rfl
  rw [active]
  generalize cancelQueue .softReset x = y at *
  obtain ⟨-, sequencer, generator, servos, links, sensors, path, loader, signals, -⟩ := setSuspended_keeps false y
  have intake : (setSuspended false y).intake = { y.intake with suspended := false } := setSuspended_intake false y
  constructor
  case cancelled => simp only [intake]; exact cancelled
  case others => simp only [intake]; exact others
  case suspended => rw [intake]
  case queue => rw [intake]; exact queue
  case running => rw [intake]; exact running
  case sequencer => exact sequencer.trans sequencerC
  case generator => exact generator.trans generatorC
  case servos => exact servos.trans servosC
  case links => exact links.trans linksC
  case sensors => exact sensors.trans sensorsC
  case path => exact path.trans pathC
  case loader => exact loader.trans loaderC
  case signals => exact signals.trans signalsC

/-- What the cleared tables leave. -/
structure TablesCleared (s u : State) : Prop where
  tracker : u.tracker = Tracker.reset
  sequencer : u.sequencer = softSequencer s.sequencer
  servos : u.servos = { s.servos with tracking := 0 }
  generator : u.generator = s.generator
  links : u.links = s.links
  sensors : u.sensors = s.sensors
  intake : u.intake = s.intake
  descriptors : u.path.descriptors = s.path.descriptors
  loader : u.loader = s.loader
  signals : u.signals = s.signals
  pending : u.reporter.pendingClasses = 0
  ceiling : u.reporter.ceiling = 9
  notice : u.reporter.notice = false

theorem tablesCleared_clears (s : State) : TablesCleared s (tablesCleared s) := by
  have tracker := emptyTable_tracker (retryHeld s)
  obtain ⟨sequencer, generator, servos, links, sensors, intake, path, loader, signals, -⟩ := emptyTable_keeps (retryHeld s)
  obtain ⟨-, sequencerR, generatorR, servosR, linksR, sensorsR, intakeR, loaderR, -, signalsR, -⟩ := retryHeld_keeps s
  have cleared : tablesCleared s = setCeiling 9 (setPendingClasses 0
    (((emptyTable (retryHeld s)).onSequencer softSequencer).onServos fun v => { v with tracking := 0 })) := rfl
  have descriptors : (emptyTable (retryHeld s)).path.descriptors = s.path.descriptors := by
    rw [path]
    exact (retryHeld_path s).2.2.1
  rw [cleared]
  generalize emptyTable (retryHeld s) = e at *
  let +generalize (eq := isY) y := (e.onSequencer softSequencer).onServos fun v => { v with tracking := 0 }
  have same : setCeiling 9 (setPendingClasses 0 y) = { y with reporter := (setCeiling 9 (setPendingClasses 0 y)).reporter } := by
    rw [setCeiling_eq, setPendingClasses_eq]
  have reporter := setCeiling_reporter 9 (setPendingClasses 0 y)
  have pending : (setPendingClasses 0 y).reporter.pendingClasses = 0 := by rw [setPendingClasses_reporter]
  rw [pending] at reporter
  generalize (setCeiling 9 (setPendingClasses 0 y)).reporter = r at *
  rw [same]
  exact {
    tracker := tracker
    sequencer := congrArg softSequencer (sequencer.trans sequencerR)
    servos := congrArg (fun v : Servos => { v with tracking := 0 }) (servos.trans servosR)
    generator := generator.trans generatorR
    links := links.trans linksR
    sensors := sensors.trans sensorsR
    intake := intake.trans intakeR
    descriptors := descriptors
    loader := loader.trans loaderR
    signals := signals.trans signalsR
    pending := by rw [reporter]; exact pending
    ceiling := by rw [reporter]
    notice := by rw [reporter, noticeLevel_ceiling_nine]; simp }

/-- Settles O59. -/
theorem softResetClearsTheOrders : Obligations.SoftResetClearsTheOrders := by
  intro s i q slot stopped phase noSignal idle noSelection noCharact noLoad
  have takes := takenIn_takes .softReset i q s
  have event : exec (.softReset i q) s = .next (finishEvent (softReset (takenIn .softReset i q s))) :=
    congrArg Host.Outcome.next (slotCommand_takes (o := .softReset) q slot rfl)
  generalize takenIn .softReset i q s = y at *
  rw [softReset_stopped (by rw [takes.sequencer]; exact stopped) (takes.running.trans idle) (by rw [takes.generator]; exact noSelection)
    (by rw [takes.generator]; exact noCharact)] at event
  have drops := ordersDropped_drops y
  generalize ordersDropped y = d at *
  have clears := tablesCleared_clears d
  generalize tablesCleared d = u at *
  have sequencer : u.sequencer = softSequencer { s.sequencer with noShow := 0, writeMode := false } := by
    rw [clears.sequencer, drops.sequencer, takes.sequencer]
  have generator : u.generator = s.generator := clears.generator.trans (drops.generator.trans takes.generator)
  have quiet : Quiet u := quiet_atRest (clears.signals.trans (drops.signals.trans (takes.signals.trans noSignal)))
    (.inr (.inl (by rw [sequencer]; exact stopped))) (by rw [sequencer]; exact phase) (by rw [generator]; exact noLoad)
    (.inl (by rw [clears.intake]; exact drops.queue))
  rw [finishEvent_of_quiet quiet] at event
  have record (k : Fin 16) : (arbitrate u).record k = BlockRecord.blank :=
    (record_congr ((arbitrate_keeps u).1.trans clears.tracker) k : _ = State.reset.record k).trans (reset_record k)
  obtain ⟨w, path⟩ := takes.path
  obtain ⟨x, result⟩ := takes.result
  have cancelled := drops.cancelled
  have others := drops.others
  rw [takes.queue] at cancelled others
  refine ⟨_, event, ?_⟩
  simp only [arbitrate_keeps, arbitrate_path, record, clears.intake]
  rw [clears.tracker, sequencer]
  refine ⟨drops.queue, drops.suspended, drops.running.trans (takes.running.trans idle), cancelled, fun away => ?_, fun _ => trivial, rfl, rfl, rfl,
    stopped, rfl, rfl, rfl, rfl, ?_, generator, clears.links.trans (drops.links.trans takes.links),
    clears.sensors.trans (drops.sensors.trans takes.sensors), clears.loader.trans (drops.loader.trans takes.loader), ?_, clears.pending,
    clears.ceiling, clears.notice⟩
  · rw [others i away, result]
    rfl
  · rw [clears.servos, drops.servos, takes.servos]
  · rw [clears.descriptors, drops.path, path]

end Sys2Proof.Machine
end

section
/-! PROFILE_SELECT and the selection that is taken and applied (R60, R62, R66, R148, R157). -/

namespace Sys2Proof.Machine

/-! ### What a selection leaves undue -/

theorem handOverDue_congr {a b : State} (queue : b.intake.queue = a.intake.queue) (suspended : b.intake.suspended = a.intake.suspended)
    (running : b.intake.running = a.intake.running) (sweep : b.path.sweep = a.path.sweep) : handOverDue b = handOverDue a := by
  unfold handOverDue
  rw [queue, suspended, running, sweep]

/-- A settlement stays undue while no fetch ends and no characterization does. -/
theorem settlementDue_none_of_fetches {a b : State} (noSettlement : settlementDue a = none) (loadSet : b.generator.loadSet = a.generator.loadSet)
    (charact : b.generator.charact = a.generator.charact) (fetches : b.generator.fetches = a.generator.fetches)
    (claims : b.path.claims = a.path.claims) (port : b.path.port = a.path.port) : settlementDue b = none := by
  refine settlementDue_none_of noSettlement loadSet fun p => ?_
  unfold canSettle
  rw [fetching_eq, fetching_eq, outstanding_congr _ claims port, charact, fetches]
  exact id

/-! ### A selection is made (R66, R157) -/

/-- What a selection's recording leaves. -/
structure SelectionMade (source : Option Nat) (i : Fin 8) (s u : State) : Prop where
  generator : u.generator = { s.generator with pendingSet := some { source := source, slot := i } }
  superseded : ∀ p, s.generator.pendingSet = some p → (u.intake.results[p.slot]).outcome = .cancelled ∧
    (u.intake.results[p.slot]).reason = .superseded
  others : ∀ j : Fin 8, (∀ p, s.generator.pendingSet = some p → p.slot ≠ j) → u.intake.results[j] = s.intake.results[j]
  queue : u.intake.queue = s.intake.queue
  suspended : u.intake.suspended = s.intake.suspended
  running : u.intake.running = s.intake.running
  taken : u.intake.taken = s.intake.taken
  tracker : u.tracker = s.tracker
  sequencer : u.sequencer = s.sequencer
  servos : u.servos = s.servos
  links : u.links = s.links
  sensors : u.sensors = s.sensors
  path : u.path = s.path
  loader : u.loader = s.loader
  signals : u.signals = s.signals

theorem selectSet_selects (source : Option Nat) (i : Fin 8) (s : State) : SelectionMade source i s (selectSet source i s) := by
  let +generalize (eq := isG) g : State → State := fun x => x.onGenerator fun g => { g with pendingSet := some { source := source, slot := i } }
  cases pending : s.generator.pendingSet with
  | none =>
    have selects : selectSet source i s = g s := by
      unfold selectSet
      rw [pending]
    rw [selects]
    exact ⟨rfl, fun p same => absurd (pending.symm.trans same) (by simp), fun j _ => rfl, rfl, rfl, rfl, rfl, rfl, rfl, rfl, rfl, rfl, rfl, rfl, rfl⟩
  | some old =>
    have selects : selectSet source i s = g (cancelResult old.slot .superseded s) := by
      unfold selectSet
      rw [pending]
    rw [selects]
    have results (j : Fin 8) := cancelResult_results old.slot j .superseded s
    obtain ⟨tracker, sequencer, generator, servos, links, sensors, path, loader, signals, -⟩ := cancelResult_keeps old.slot .superseded s
    obtain ⟨queue, suspended, running, taken⟩ :=
      setResult_intake old.slot (fun r => { r with outcome := .cancelled, reason := .superseded, finalT := s.tapePos }) s
    refine ⟨congrArg (fun g : Generator => { g with pendingSet := some { source := source, slot := i } }) generator, fun p same => ?_,
      fun j other => ?_, queue, suspended, running, taken, tracker, sequencer, servos, links, sensors, path, loader, signals⟩
    · obtain rfl : old = p := Option.some.inj (pending.symm.trans same)
      have result := (results old.slot).trans (if_pos rfl)
      exact ⟨congrArg OrderResult.outcome result, congrArg OrderResult.reason result⟩
    · exact (results j).trans (if_neg (other old pending))

/-- The word of a selection as its source. -/
theorem selectionOf_word (w : Word) : selectionOf w.toNat = if w = 0xFFFFFFFF#32 then none else some w.toNat := by
  have same : w.toNat = Config.allOnes ↔ w = 0xFFFFFFFF#32 := ⟨fun h => BitVec.eq_of_toNat_eq h, fun h => by rw [h]; rfl⟩
  unfold selectionOf
  by_cases built : w = 0xFFFFFFFF#32
  · rw [if_pos (same.mpr built), if_pos built]
  · rw [if_neg (fun h => built (same.mp h)), if_neg built]

theorem profileSelectIsTaken {s : State} {i : Fin 8} (q : Byte) (slot : SlotFree i s) (other : s.intake.running ≠ some i)
    (accepted : (argumentOf .profileSelect (s.slotWord i 0) (s.slotWord i 1) s.loader.groupA.storeSize).accepted = true) (quiet : Quiet s) :
    ∃ t, exec (.profileSelect i q) s = .next t ∧
       t.generator = { s.generator with pendingSet := some { source :=
         (if s.slotWord i 1 = 0xFFFFFFFF#32 then none else some (s.slotWord i 1).toNat), slot := i } } ∧
       (∀ p, s.generator.pendingSet = some p → p.slot ≠ i → (t.intake.results[p.slot]).outcome = .cancelled ∧
         (t.intake.results[p.slot]).reason = .superseded) ∧
       ((∀ p, s.generator.pendingSet = some p → p.slot ≠ i) → (t.intake.results[i]).outcome = .pending) ∧
       t.intake.queue = s.intake.queue ∧ t.tracker = s.tracker ∧ t.sequencer = s.sequencer ∧ t.servos = s.servos ∧
       t.links = s.links ∧ t.sensors = s.sensors ∧ t.loader = s.loader := by
  have takes := takenIn_takes .profileSelect i q s
  have event : exec (.profileSelect i q) s = .next (finishEvent (selectSet (selectionOf (s.slotWord i 1).toNat) i (takenIn .profileSelect i q s))) :=
    congrArg Host.Outcome.next (slotCommand_takes (o := .profileSelect) q slot accepted)
  rw [selectionOf_word] at event
  generalize (if s.slotWord i 1 = 0xFFFFFFFF#32 then none else some (s.slotWord i 1).toNat) = source at *
  generalize takenIn .profileSelect i q s = y at *
  have made := selectSet_selects source i y
  generalize selectSet source i y = u at *
  have generator := made.generator
  have superseded := made.superseded
  have others := made.others
  rw [takes.generator] at generator superseded others
  obtain ⟨w, path⟩ := takes.path
  have pathU : u.path = { s.path with slots := w } := made.path.trans path
  have running := made.running.trans takes.running
  obtain ⟨noSignal, nothing, noSettlement, noHandOver⟩ := quiet_iff_nothingDue.mp quiet
  have order : u.runningOrder = s.runningOrder := runningOrder_congr running fun j runs => by
    rw [made.taken]
    exact takes.taken j fun same => other (same ▸ runs)
  have quietU : Quiet u := quiet_iff_nothingDue.mpr ⟨made.signals.trans (takes.signals.trans noSignal), nothing.of_samePlace
    ⟨made.sequencer.trans takes.sequencer, fun slows => by rw [generator]; exact slows, by rw [generator], by rw [made.servos, takes.servos],
      by rw [made.loader, takes.loader], order, holding_congr (by rw [pathU])⟩,
    settlementDue_none_of_fetches noSettlement (by rw [generator]) (by rw [generator]) (by rw [generator]; rfl) (by rw [pathU]) (by rw [pathU]),
    (handOverDue_congr (made.queue.trans takes.queue) (made.suspended.trans takes.suspended) running (by rw [pathU])).trans noHandOver⟩
  rw [finishEvent_of_quiet quietU] at event
  obtain ⟨x, result⟩ := takes.result
  refine ⟨_, event, ?_⟩
  simp only [arbitrate_keeps]
  refine ⟨generator, fun p pending _ => superseded p pending, fun away => ?_, made.queue.trans takes.queue, made.tracker.trans takes.tracker,
    made.sequencer.trans takes.sequencer, made.servos.trans takes.servos, made.links.trans takes.links, made.sensors.trans takes.sensors,
    made.loader.trans takes.loader⟩
  rw [others i away, result]
  rfl

/-! ### A built-in selection is applied (R60, R62, R66) -/

/-- The state after the built-in set has been selected. -/
def builtInApplied (i : Fin 8) (s : State) : State :=
  finishResult i .done .none 0 (setActive (builtInSet s.groupB) (s.onGenerator fun g => { g with pendingSet := none }))

theorem builtInApplied_generator (i : Fin 8) (s : State) :
    (builtInApplied i s).generator = { s.generator with pendingSet := none, active := builtInSet s.loader.groupB } := by
  unfold builtInApplied
  rw [(finishResult_keeps _ _ _ _ _).2.2.1, setActive_generator]
  rfl

theorem builtInApplied_pending (i : Fin 8) (s : State) :
    (builtInApplied i s).reporter.pendingClasses = s.reporter.pendingClasses ||| 0x80#9 := by
  have raised (x : State) : (finishResult i .done .none 0 x).reporter.pendingClasses = x.reporter.pendingClasses ||| 0x80#9 := by
    unfold finishResult setResult
    dsimp only
    rw [(raise_pending _ _).1, mark_reporter]
    rfl
  unfold builtInApplied setActive
  rw [raised, markStatusIf_reporter]
  rfl

/-- The first occasion of a characterization, taken apart. -/
theorem charactOccasion_iff {s : State} : charactOccasion s = true ↔ s.sequencer.transport = .stopped ∧ s.generator.mode = .hold ∧
    s.generator.waiting = none ∧ s.generator.run = none ∧ s.generator.charact = none := by
  unfold charactOccasion
  simp [and_assoc]

/-- A generator at rest without a chain fetches nothing. -/
theorem fetches_atRest {g : Generator} (hold : g.mode = .hold) (noRun : g.run = none) : g.fetches = false := by
  unfold Generator.fetches
  rw [hold, noRun]
  rfl

theorem builtInSelectionIsApplied {s : State} {i : Fin 8} (pending : s.generator.pendingSet = some { source := none, slot := i })
    (occasion : charactOccasion s = true) (phase : s.sequencer.phase = none) (quiet : Quiet s) :
    ∃ t, exec .characterizationBegin s = .next t ∧
       t.generator = { s.generator with pendingSet := none, active := builtInSet s.loader.groupB } ∧
       (t.intake.results[i]).outcome = .done ∧ (t.intake.results[i]).finalT = s.servos.t ∧
       t.reporter.pendingClasses = s.reporter.pendingClasses ||| 0x80#9 ∧
       t.tracker = s.tracker ∧ t.sequencer = s.sequencer ∧ t.servos = s.servos ∧ t.links = s.links ∧ t.sensors = s.sensors ∧
       t.loader = s.loader := by
  have event : exec .characterizationBegin s = .next (finishEvent (builtInApplied i s)) := by
    show Host.Outcome.next (characterizationBegin s) = _
    unfold characterizationBegin
    rw [pending]
    dsimp only
    rw [if_pos occasion]
    rfl
  obtain ⟨stopped, hold, -, noRun, -⟩ := charactOccasion_iff.mp occasion
  have generator := builtInApplied_generator i s
  have classes := builtInApplied_pending i s
  let +generalize (eq := isX) x := setActive (builtInSet s.groupB) (s.onGenerator fun g => { g with pendingSet := none })
  obtain ⟨trackerX, sequencerX, servosX, linksX, sensorsX, intakeX, pathX, loaderX, signalsX, -⟩ :=
    setActive_keeps (builtInSet s.groupB) (s.onGenerator fun g => { g with pendingSet := none })
  obtain ⟨tracker, sequencer, -, servos, links, sensors, path, loader, signals, -⟩ := finishResult_keeps i .done .none 0 x
  have result := (finishResult_results i i .done .none 0 x).trans (if_pos rfl)
  have intake : (finishResult i .done .none 0 x).intake.queue = s.intake.queue ∧
      (finishResult i .done .none 0 x).intake.suspended = s.intake.suspended ∧
      (finishResult i .done .none 0 x).intake.running = s.intake.running := by
    unfold finishResult
    dsimp only
    simp only [raise_keeps]
    obtain ⟨queue, suspended, running, -⟩ := setResult_intake i (fun r => { r with outcome := .done, reason := .none, blocks := 0, finalT := x.tapePos }) x
    exact ⟨queue.trans (by rw [isX, intakeX]; rfl), suspended.trans (by rw [isX, intakeX]; rfl), running.trans (by rw [isX, intakeX]; rfl)⟩
  have applied : builtInApplied i s = finishResult i .done .none 0 x := rfl
  rw [applied] at event generator classes
  have tape : x.tapePos = s.servos.t := congrArg Servos.t servosX
  generalize finishResult i .done .none 0 x = u at *
  obtain ⟨queue, suspended, running⟩ := intake
  have sequencerU : u.sequencer = s.sequencer := sequencer.trans sequencerX
  have pathU : u.path = s.path := path.trans pathX
  obtain ⟨noSignal, -, noSettlement, noHandOver⟩ := quiet_iff_nothingDue.mp quiet
  have quietU : Quiet u := quiet_iff.mpr ⟨signals.trans (signalsX.trans noSignal),
    positionEvent_of_still (.inr (.inl (by rw [sequencerU]; exact stopped))) (by rw [sequencerU, phase]; simp),
    settlementDue_none_of_fetches noSettlement (by rw [generator]) (by rw [generator])
      (by rw [fetches_atRest hold noRun, generator]; exact fetches_atRest hold noRun) (by rw [pathU]) (by rw [pathU]),
    (handOverDue_congr queue suspended running (by rw [pathU])).trans noHandOver⟩
  rw [finishEvent_of_quiet quietU] at event
  refine ⟨_, event, ?_⟩
  simp only [arbitrate_keeps]
  rw [result]
  exact ⟨generator, rfl, tape, classes, tracker.trans trackerX, sequencerU, servos.trans servosX, links.trans linksX, sensors.trans sensorsX,
    loader.trans loaderX⟩

/-- Settles O42. -/
theorem profileSelectionsAreTakenAndApplied : Obligations.ProfileSelectionsAreTakenAndApplied :=
  ⟨fun _ _ q slot other accepted quiet => profileSelectIsTaken q slot other accepted quiet,
    fun _ _ pending occasion phase quiet => builtInSelectionIsApplied pending occasion phase quiet⟩

end Sys2Proof.Machine
end
